-- ==== Sys2Proof/Word.lean ====
section
/-! DEFINITION. The word types of the model: a byte of a shared structure or link frame (R180, R187) and the
32-bit value of a register (R160). -/

namespace Sys2Proof

/-- One byte of a frame, a plan, a record or a host-memory structure (R180). -/
abbrev Byte := BitVec 8

/-- The value of one of the six 32-bit registers (R160). -/
abbrev Word := BitVec 32

end Sys2Proof
end

