-- ==== Sys2Proof/Config.lean ====
section
/-! DEFINITION. What is fixed for the machine: the sizes of its tables and queues, the fixed codes of the registers,
and the one value the spec leaves open, the check code's function (R38). -/

namespace Sys2Proof.Config

/-- The greatest value of P, E, T and every 32-bit count of mm (R7, R9, R44). -/
def maxU32 : Nat := 4294967295

/-- The greatest value of a 16-bit saturating counter (R61, R71, R84, R99, R147). -/
def maxU16 : Nat := 65535

/-- One millimetre in units of 1/256 µm (section 1.3, R6). -/
def unitsPerMm : Int := 256000

/-- Entries of a rail's track table (R91). -/
def trackEntries : Nat := 48

/-- Entries of a rail's assembly list (R113). -/
def assemblyEntries : Nat := 16

/-- Kept contributors of an assembly entry (R118). -/
def keptContributors : Nat := 8

/-- Entries of a rail's marker queue (R134). -/
def markerEntries : Nat := 32

/-- Records of the outbound queue (R172). -/
def queueRecords : Nat := 32

/-- Bytes of the largest plan a bank can hold (R20). -/
def maxPlanBytes : Nat := 16384

/-- Bytes of the plan header, the shortest length that is read (R20, R186). -/
def planHeaderBytes : Nat := 32

/-- Bytes of the fixed part of a plan (R186). -/
def planFixedBytes : Nat := 704

/-- Consecutive good frames that bring a link UP (R58). -/
def goodFrames : Nat := 8

/-- Consecutive missing ENDs that take a link DOWN (R49). -/
def missingEnds : Nat := 4

/-- Sweeps without a capture that end a snapshot (R168). -/
def snapshotSweeps : Nat := 16

/-- Soft level of every soft source while no plan is in force (R146). -/
def defaultSoftLevel : Nat := 4

/-- The function by which the Plan Store computes a rail's 32-bit check code. R38 gives its width and what it
covers and not the function, so it has no body. -/
opaque checkCode : List Byte → BitVec 32

end Sys2Proof.Config
end

