-- ==== Sys2Proof/Syntax.lean ====
section
/-! DEFINITION. The commands of the part: one constructor of `Instr` per row of spec/opcode_table.json, in the
table's order, with the operands that come from outside the part. A row that is a block's own step on one of its
paths carries no operand but the block's rail: what it acts on is the front item of that path, which `State` holds. -/

namespace Sys2Proof

/-- The two rails; each names the block instances that serve it (00_scope.md, "Naming"). -/
inductive Rail where
  | A
  | B
deriving DecidableEq, Repr

/-- The raw levels of the five input pins (00_scope.md, "Signals"). -/
structure Pins where
  tachA : Bool
  tachB : Bool
  markIn : Bool
  liftA : Bool
  liftB : Bool
deriving DecidableEq, Repr

/-- The role of a plan bank (R19). -/
inductive BankRole where
  | active
  | standby
deriving DecidableEq, Repr

/-- An upset of one byte of plan storage (R38). -/
structure Strike where
  role : BankRole
  offset : Nat
  value : Byte
deriving DecidableEq, Repr

/-- A rewrite of the status area that ends in a host-memory error (R169): how many rewrites have followed it, and how many
of its three accesses had landed. -/
structure FailedRewrite where
  back : Nat
  landed : Nat
deriving DecidableEq, Repr

/-- The blocks that raise and end alarm sources (R146), each with its own ordered path to the Alarm Unit. -/
inductive Raiser where
  | positionUnit
  | sequencer (r : Rail)
  | link (r : Rail)
  | couplingMonitor
  | tracker (r : Rail)
  | assembler (r : Rail)
  | marker (r : Rail)
  | planStore
  | requestHandler
  | journalWriter
  | busInterface
deriving DecidableEq, Repr

/-- The commands and steps of the part, one per row of spec/opcode_table.json. -/
inductive Instr where
  /-- HARDWARE_RESET (R17): the levels of the input pins at the end of the reset. -/
  | hardwareReset (pins : Pins)
  /-- RAW_INPUT_CHANGE (R1): the raw levels of TACH_A, TACH_B and MARK_IN from this moment on. -/
  | rawInputChange (tachA tachB markIn : Bool)
  /-- HOLD_TIMER_EXPIRY (R1): the hold timers next to run out do so; `markFirst` says which of a mark edge and a
  count that fall together is taken first (R12). -/
  | holdTimerExpiry (markFirst : Bool)
  /-- LIFT_CHANGE (R42). -/
  | liftChange (r : Rail) (asserted : Bool)
  /-- SAMPLE_FRAME (R53): the bytes of the frame, its CRC included. -/
  | sampleFrame (r : Rail) (bytes : List Byte)
  /-- END_FRAME (R54). -/
  | endFrame (r : Rail) (bytes : List Byte)
  /-- IDLE_FRAME (R55). -/
  | idleFrame (r : Rail) (bytes : List Byte)
  /-- BAD_FRAME (R51). -/
  | badFrame (r : Rail) (bytes : List Byte)
  /-- END_TIMER_EXPIRY (R49). -/
  | endTimerExpiry (r : Rail)
  /-- PRESENCE_TIMER_EXPIRY (R57). -/
  | presenceTimerExpiry (r : Rail)
  /-- LINK_UP (R58). -/
  | linkUp (r : Rail)
  /-- SWEEP_STEP (R44): `strikes` are the upsets that have struck the plan banks by this step (R38). -/
  | sweepStep (r : Rail) (strikes : List Strike)
  /-- SURVEY_MARK (R62). -/
  | surveyMark (r : Rail)
  /-- SEQUENCER_REVERSAL_NOTICE (R44). -/
  | sequencerReversalNotice (r : Rail)
  /-- SWEEP_STEP_REPORT (R31). -/
  | sweepStepReport (r : Rail)
  /-- HOLD_ORDER (R46). -/
  | holdOrder (r : Rail)
  /-- HOLD_RELEASE (R46). -/
  | holdRelease (r : Rail)
  /-- COUPLING_RESULT (R81). -/
  | couplingResult (r : Rail)
  /-- HIT_FILTER (R84). -/
  | hitFilter (r : Rail)
  /-- SHOT_RELEASED_MARKER (R76). -/
  | shotReleasedMarker (r : Rail)
  /-- COUPLING_LIFT_NOTICE (R87). -/
  | couplingLiftNotice (r : Rail)
  /-- COUPLING_RELEASE_NOTICE (R87). -/
  | couplingReleaseNotice (r : Rail)
  /-- COUPLING_PLAN_RESET (R88). -/
  | couplingPlanReset
  /-- COUPLING_PLAN_ENDED (R89). -/
  | couplingPlanEnded
  /-- TRACK_HIT (R93). -/
  | trackHit (r : Rail)
  /-- TRACK_GAP_CLOSE (R100). -/
  | trackGapClose (r : Rail)
  /-- TRACK_LIFT_NOTICE (R102). -/
  | trackLiftNotice (r : Rail)
  /-- TRACK_INTERRUPT_NOTICE (R102). -/
  | trackInterruptNotice (r : Rail)
  /-- TRACK_PRESET_CUT (R104). -/
  | trackPresetCut (r : Rail)
  /-- TRACK_REVERSAL_CLOSE (R105). -/
  | trackReversalClose (r : Rail)
  /-- TRACK_TACH_FAULT_CLOSE (R106). -/
  | trackTachFaultClose (r : Rail)
  /-- CUT_ORDER (R107). -/
  | cutOrder (r : Rail)
  /-- STOP_ORDER (R107). -/
  | stopOrder (r : Rail)
  /-- FLUSH_ORDER (R110). -/
  | flushOrder (r : Rail)
  /-- TRACK_PLAN_ENDED (R109). -/
  | trackPlanEnded (r : Rail)
  /-- TRACK_SUMMARY (R116). -/
  | trackSummary (r : Rail)
  /-- FLUSH_MARKER (R121). -/
  | flushMarker (r : Rail)
  /-- HORIZON_FINALIZE (R120). -/
  | horizonFinalize (r : Rail)
  /-- MARK_ANSWER (R127). -/
  | markAnswer (r : Rail)
  /-- STOP_BEGUN_NOTICE (R130). -/
  | stopBegunNotice (r : Rail)
  /-- ASSEMBLY_PLAN_ENDED (R131). -/
  | assemblyPlanEnded (r : Rail)
  /-- MARK_REQUEST (R137). -/
  | markRequest (r : Rail)
  /-- POSITION_CHANGE (R135). -/
  | positionChange (r : Rail)
  /-- MARKER_DIRECTION_DECLARED (R133). -/
  | markerDirectionDeclared (r : Rail)
  /-- MARKER_REVERSAL_PURGE (R139). -/
  | markerReversalPurge (r : Rail)
  /-- MARKER_TACH_FAULT_PURGE (R139). -/
  | markerTachFaultPurge (r : Rail)
  /-- MARKER_STOP_PURGE (R36). -/
  | markerStopPurge (r : Rail)
  /-- MARKER_PLAN_ENDED_PURGE (R139). -/
  | markerPlanEndedPurge (r : Rail)
  /-- MARKER_PRESET_TRANSLATE (R140). -/
  | markerPresetTranslate (r : Rail)
  /-- NOZZLE_CHECK (R141). -/
  | nozzleCheck (r : Rail)
  /-- PULSE_TIMER_EXPIRY (R136). -/
  | pulseTimerExpiry (r : Rail) (nozzle : Nat)
  /-- TEST_TIMER_EXPIRY (R142). -/
  | testTimerExpiry (r : Rail) (nozzle : Nat)
  /-- PLAN_LOAD_COMPLETE (R21): the bytes the load has read from host memory. -/
  | planLoadComplete (bytes : List Byte)
  /-- PLAN_LOAD_ERROR (R20). -/
  | planLoadError
  /-- RAIL_HELD_REPORT (R32). -/
  | railHeldReport (r : Rail)
  /-- SWITCH_FLUSH_DONE (R33). -/
  | switchFlushDone (r : Rail)
  /-- COUPLING_RESET_DONE (R33). -/
  | couplingResetDone
  /-- STOP_FLUSH_DONE (R36). -/
  | stopFlushDone (r : Rail)
  /-- FLUSH_DONE_REPORT (R110). -/
  | flushDoneReport (r : Rail)
  /-- SCAN_TIMER_EXPIRY (R164): the 512 bytes of the Request Table as read, or none for a host-memory error. -/
  | scanTimerExpiry (table : Option (List Byte))
  /-- ACTIVATE_PLAN (R28). -/
  | activatePlan
  /-- CHECK_PLAN (R27). -/
  | checkPlan
  /-- STOP (R35). -/
  | stop
  /-- FLUSH (R110). -/
  | flush
  /-- SET_POSITION_NOW (R14). -/
  | setPositionNow
  /-- SET_POSITION_AT_MARK (R13). -/
  | setPositionAtMark
  /-- ACK_ALARM (R155). -/
  | ackAlarm
  /-- SUPPRESS_START (R150). -/
  | suppressStart
  /-- SUPPRESS_EXTEND (R150). -/
  | suppressExtend
  /-- SUPPRESS_END (R150). -/
  | suppressEnd
  /-- SNAPSHOT (R167). -/
  | snapshot
  /-- MARKER_TEST (R142). -/
  | markerTest
  /-- MARKER_RELEASE (R143). -/
  | markerRelease
  /-- SENSITIVITY (R37). -/
  | sensitivity
  /-- UNKNOWN_KIND (R165). -/
  | unknownKind
  /-- ENTRY_WRITE_ERROR (R166): the Request Table index, and how many of the write's accesses had landed. -/
  | entryWriteError (index : Nat) (landed : Nat)
  /-- STATUS_WRITE_ERROR (R169): the rewrite that fails. -/
  | statusWriteError (failed : FailedRewrite)
  /-- SNAPSHOT_WRITE_ERROR (R168). -/
  | snapshotWriteError (r : Rail)
  /-- SNAPSHOT_NO_CLEAN_FIRING (R168). -/
  | snapshotNoCleanFiring (r : Rail)
  /-- ALARM_RAISE (R147): the block whose raise the Alarm Unit takes. -/
  | alarmRaise (raiser : Raiser)
  /-- CONDITION_END (R148): the block whose report of an end the Alarm Unit takes. -/
  | conditionEnd (raiser : Raiser)
  /-- ALARM_PROGRESS_EVENT (R149). -/
  | alarmProgressEvent
  /-- SUPPRESSION_EXPIRY (R149). -/
  | suppressionExpiry
  /-- RECORD_OFFER (R172). -/
  | recordOffer
  /-- JOURNAL_TAKE_RECORD (R174): the reader masks the room check reads, in ring order. -/
  | journalTakeRecord (masks : List Byte)
  /-- ROOM_CHECK_RETRY (R174): as for JOURNAL_TAKE_RECORD. -/
  | roomCheckRetry (masks : List Byte)
  /-- JOURNAL_READ_ERROR (R174): the reader masks read before the read that ended in an error. -/
  | journalReadError (masks : List Byte)
  /-- JOURNAL_WRITE_COMPLETE (R175). -/
  | journalWriteComplete
  /-- JOURNAL_WRITE_ERROR (R175): how many of the record's accesses had landed. -/
  | journalWriteError (landed : Nat)
  /-- BIND (R162): the value written to CONTROL. -/
  | bind (value : Word)
  /-- BIND_COMPLETE (R162): the first 72 bytes of the Context Block as read, or none for a host-memory error. -/
  | bindComplete (block : Option (List Byte))
  /-- RESET (R161): the value written to CONTROL. -/
  | reset (value : Word)
  /-- CONTROL_NONE (R161): the value written to CONTROL. -/
  | controlNone (value : Word)
  /-- ATTENTION_WRITE (R160): the value written to ATTENTION. -/
  | attentionWrite (value : Word)
  /-- REGISTER_WRITE (R160): the register's offset and the value written. -/
  | registerWrite (offset : Nat) (value : Word)
  /-- SNAPSHOT_WRITE_COMPLETE (R168). -/
  | snapshotWriteComplete (r : Rail)
deriving DecidableEq, Repr

end Sys2Proof
end

