-- ==== Sys2Proof/Decode.lean ====
section
/-! DEFINITION. The rows of spec/opcode_table.json give no bits: no word spells a command, and the reader below
refuses every word. -/

namespace Sys2Proof

/-- The command that a word spells by the bits of spec/opcode_table.json. No row gives a bit, so no word spells one. -/
def decodeTableWord (_nbits _w : Nat) : Option Instr := none

end Sys2Proof
end

