-- ==== Sys2Proof/Machine/Bytes.lean ====
section
/-! DEFINITION. Bytes: reading and writing little-endian fields (R180), the CRC of the link frames (R51), and the
frames a front-end board sends, with the checks of R51 and the layout of R187. -/

namespace Sys2Proof.Machine

/-! ## Fields (R180) -/

/-- The byte at an offset, as a number; a byte that is not there reads as 0. -/
def byteAt (c : List Byte) (i : Nat) : Nat := (c.getD i 0).toNat

/-- A two-byte field. -/
def u16At (c : List Byte) (i : Nat) : Nat := byteAt c i + 256 * byteAt c (i + 1)

/-- A four-byte field. -/
def u32At (c : List Byte) (i : Nat) : Nat := u16At c i + 65536 * u16At c (i + 2)

/-- An eight-byte field. -/
def u64At (c : List Byte) (i : Nat) : Nat := u32At c i + 4294967296 * u32At c (i + 4)

/-- A signed one-byte field, in two's complement. -/
def i8At (c : List Byte) (i : Nat) : Int := if byteAt c i < 128 then byteAt c i else (byteAt c i : Int) - 256

/-- A signed two-byte field, in two's complement. -/
def i16At (c : List Byte) (i : Nat) : Int := if u16At c i < 32768 then u16At c i else (u16At c i : Int) - 65536

/-- A number as one byte. -/
def le8 (n : Nat) : List Byte := [BitVec.ofNat 8 n]

/-- A number as two bytes. -/
def le16 (n : Nat) : List Byte := le8 n ++ le8 (n / 256)

/-- A number as four bytes. -/
def le32 (n : Nat) : List Byte := le16 n ++ le16 (n / 65536)

/-- A signed number as one byte. -/
def leInt8 (n : Int) : List Byte := [BitVec.ofInt 8 n]

/-- A yes/no field. -/
def leBool (b : Bool) : List Byte := [if b then 1 else 0]

/-- A one-byte field that may be none, coded 0xFF. -/
def leOpt8 : Option Nat → List Byte
  | some n => le8 n
  | none => [0xFF]

/-- A depth field, none coded 0xFFFF. -/
def leDepth : Option Nat → List Byte
  | some n => le16 n
  | none => [0xFF, 0xFF]

/-- A four-byte field that is 0 when its value is absent. -/
def le32OrZero (x : Option Nat) : List Byte := le32 (x.getD 0)

/-- Bytes brought to a given length: cut, or filled with zeros. DESIGN CHOICE: log entry 49. -/
def fitBytes (n : Nat) (bs : List Byte) : List Byte := (bs ++ List.replicate n 0).take n

/-! ## The CRC (R51) -/

/-- One bit of the CRC with generator x^16 + x^12 + x^5 + 1. -/
def crcBit (c : BitVec 16) : BitVec 16 := if c.msb then (c <<< 1) ^^^ 0x1021 else c <<< 1

/-- One byte of the CRC, most significant bit first. -/
def crcByte (c : BitVec 16) (b : Byte) : BitVec 16 :=
  crcBit (crcBit (crcBit (crcBit (crcBit (crcBit (crcBit (crcBit (c ^^^ (b.zeroExtend 16 <<< 8)))))))))

/-- The CRC over bytes, from the initial value 0xFFFF. -/
def crc (bs : List Byte) : BitVec 16 := bs.foldl crcByte 0xFFFF

/-- Bytes followed by their CRC, high byte first. -/
def withCrc (bs : List Byte) : List Byte :=
  bs ++ [(crc bs >>> 8).truncate 8, (crc bs).truncate 8]

/-! ## Received frames (R51, R187) -/

/-- A frame that has passed the checks of R51. -/
inductive Frame where
  | sample (seq : BitVec 8) (channel index : Nat) (damaged : Bool) (samples : List Byte)
  | finish (seq : BitVec 8) (flags : BitVec 8) (counts : List Nat)
  | idle (flags : BitVec 8)
deriving DecidableEq, Repr

/-- The length of a frame of each type a board sends (R187). -/
def frameLength (type : Nat) : Option Nat :=
  if type = 2 then some 72 else if type = 3 then some 14 else if type = 4 then some 4 else none

/-- The checks of R51: the type, the length and the CRC. -/
def frameGood (bs : List Byte) : Bool :=
  match frameLength (byteAt bs 0) with
  | none => false
  | some n => bs.length == n && bs == withCrc (bs.take (n - 2))

/-- The four status flags HV_LOW, OVERTEMP, ELEMENT_OPEN and PULSER_FAULT; bits 4..7 are ignored (R188). -/
def statusFlags (b : Nat) : BitVec 8 := BitVec.ofNat 8 (b % 16)

/-- A frame as received: none when it fails the checks of R51, else its fields (R187). -/
def readFrame (bs : List Byte) : Option Frame :=
  if frameGood bs then
    if byteAt bs 0 = 2 then
      some (.sample (BitVec.ofNat 8 (byteAt bs 1)) (byteAt bs 2) (byteAt bs 3) (byteAt bs 4 % 2 == 1)
        ((bs.drop 6).take 64))
    else if byteAt bs 0 = 3 then
      some (.finish (BitVec.ofNat 8 (byteAt bs 1)) (statusFlags (byteAt bs 2))
        [u16At bs 4, u16At bs 6, u16At bs 8, u16At bs 10])
    else some (.idle (statusFlags (byteAt bs 1)))
  else none

end Sys2Proof.Machine
end

