-- ==== Sys2Proof/Machine/State.lean ====
section
/-! DEFINITION. The state of the UT-24 as plain data: every register, table, list, queue, timer, flag and path the
spec gives the part, block by block, the ordered paths between the blocks, the queue of waiting commands, and the
machine after a hardware reset. -/

namespace Sys2Proof.Machine

/-- One value for each rail. -/
structure Both (α : Type) where
  a : α
  b : α
deriving DecidableEq, Repr

/-! ## Names (R189) -/

/-- Operating states (00_scope.md, "Operating states"). -/
inductive OpState where
  | unbound
  | bound
  | active
  | faulted
  | locked
deriving DecidableEq, Repr

/-- Declared direction (section 1.4). -/
inductive Dir where
  | unknown
  | increasing
  | decreasing
deriving DecidableEq, Repr

/-- Count modes (R3). -/
inductive CountMode where
  | edge4
  | edge2
  | edge1
deriving DecidableEq, Repr

/-- Mark-edge setting (R12). -/
inductive MarkEdge where
  | rising
  | falling
deriving DecidableEq, Repr

/-- Plan bank states (R19). -/
inductive BankState where
  | empty
  | loading
  | valid
  | pending
deriving DecidableEq, Repr

/-- Switch modes of ACTIVATE_PLAN (R28). -/
inductive SwitchMode where
  | immediate
  | atPosition
deriving DecidableEq, Repr

/-- Sequencer states (R40). -/
inductive SeqState where
  | off
  | lifted
  | linkDown
  | waiting
  | shot
deriving DecidableEq, Repr

/-- Link states (R57, R58). -/
inductive LinkState where
  | down
  | up
deriving DecidableEq, Repr

/-- Gate roles (section 2.1). -/
inductive GateRole where
  | flaw
  | coupling
  | backwall
deriving DecidableEq, Repr

/-- Modes of a FLAW gate (R67). -/
inductive FlawMode where
  | first
  | peak
deriving DecidableEq, Repr

/-- Nozzle modes (R136). -/
inductive NozzleMode where
  | spray
  | latch
  | pulse
deriving DecidableEq, Repr

/-- Rail filter of a class rule (R123). -/
inductive RailFilter where
  | a
  | b
  | both
deriving DecidableEq, Repr

/-- Kind of a hit or track (R75, R91). -/
inductive TrackKind where
  | reflector
  | drop
deriving DecidableEq, Repr

/-- Coupling states (R80). -/
inductive CouplingState where
  | unmonitored
  | unknown
  | coupled
  | doubtful
  | lost
  | lifted
deriving DecidableEq, Repr

/-- Reasons of a COUPLING record (R86). -/
inductive CouplingReason where
  | restored
  | lifted
  | planSwitch
  | planEnded
deriving DecidableEq, Repr

/-- States of a track table entry that is not FREE (R91). -/
inductive TrackState where
  | tentative
  | confirmed
deriving DecidableEq, Repr

/-- Reasons of a DROPPED_TRACK record (R111). -/
inductive DropReason where
  | unconfirmed
  | evicted
  | long
  | cut
  | reversal
  | flushed
  | planEnded
deriving DecidableEq, Repr

/-- Cause codes of a forced close (section 6.7, R109). -/
inductive DropCause where
  | preset
  | reversal
  | tachFault
  | switch
  | stop
  | flush
  | planEnded
deriving DecidableEq, Repr

/-- Causes a flush marker carries (R108). -/
inductive FlushCause where
  | reversal
  | tachFault
  | switch
  | stop
  | flush
deriving DecidableEq, Repr

/-- Finalization causes (section 7.4). -/
inductive FinalCause where
  | horizon
  | early
  | planEnded
  | flush (c : FlushCause)
deriving DecidableEq, Repr

/-- Marker status of an indication (R126). -/
inductive MarkerStatus where
  | notRequired
  | queued
  | merged
  | late
  | queueFull
  | reversal
  | stopped
  | noPosition
deriving DecidableEq, Repr

/-- States of a marker queue entry (R134). -/
inductive MarkState where
  | pending
  | spraying
deriving DecidableEq, Repr

/-- Reasons of an UNMARKED outcome (R144). -/
inductive UnmarkedReason where
  | late
  | queueFull
  | reversal
  | tachFault
  | stopped
  | planSwitch
  | planEnded
  | presetLimit
  | locked
deriving DecidableEq, Repr

/-- The fifteen alarm sources, in id order (R146). -/
inductive Source where
  | couplingLoss
  | overspeed
  | trackTableFull
  | assemblyFull
  | severeIndication
  | markerUnmarked
  | journalLoss
  | tachDegraded
  | frontEndWarning
  | positionLimit
  | linkDown
  | spare
  | planFault
  | tachFault
  | contextFault
deriving DecidableEq, Repr

/-- States of an alarm source (R147). -/
inductive SourceState where
  | idle
  | pending
  | acknowledged
deriving DecidableEq, Repr

/-- Actions of an ALARM record (R158). -/
inductive AlarmAction where
  | raised
  | suppressed
  | acknowledged
  | cleared
deriving DecidableEq, Repr

/-- The block a CONTEXT_FAULT names (R158). -/
inductive ContextBlockName where
  | planStore
  | requestHandler
  | journalWriter
  | busInterface
deriving DecidableEq, Repr

/-- Record kinds (R170). -/
inductive RecordKind where
  | indication
  | alarm
  | gap
  | mark
  | marker
  | coupling
  | survey
  | droppedTrack
deriving DecidableEq, Repr

/-- States of a Request Table entry (R163). -/
inductive ReqState where
  | empty
  | posted
  | taken
  | done
  | refused
deriving DecidableEq, Repr

/-- Result codes (R165). -/
inductive ResultCode where
  | ok
  | unknownKind
  | badParameter
  | busy
  | notActive
  | planInvalid
  | hostMemory
  | cancelled
  | stillPresent
  | notInPlan
  | notSuppressing
  | noCleanFiring
deriving DecidableEq, Repr

/-- bind_error values (R162). -/
inductive BindError where
  | none
  | hostMemory
  | version
  | align
  | slots
  | reserve
  | scan
deriving DecidableEq, Repr

/-- Plan fault codes (R21). -/
inductive PlanFaultCode where
  | none
  | badLayout
  | range
  | groupUndefined
  | channelConflict
  | gateWindow
  | gateRole
  | noShots
  | factor
  | classRule
  | nozzle
deriving DecidableEq, Repr

/-- The attention causes (R178). -/
inductive AttnCause where
  | journal
  | request
  | alarm
  | state
deriving DecidableEq, Repr

/-! ## Position Unit (chapter 1) -/

/-- One filtered input line (R1): the raw level, the qualified level, and the hold timer: none when it is not
running, else the time in 100 ns the raw level has differed from the qualified one. -/
structure InputLine where
  raw : Bool
  qualified : Bool
  hold : Option Nat
deriving DecidableEq, Repr

/-- The position settings (R16); `q` in 1/256 µm per count, `filterTime` in 100 ns, `rv` in mm. -/
structure PositionSettings where
  q : Nat
  mode : CountMode
  filterTime : Nat
  rv : Nat
  markEdge : MarkEdge
deriving DecidableEq, Repr

/-- An armed preset (R13): its value and the Request Table index of its request. -/
structure ArmedPreset where
  value : Nat
  index : Nat
deriving DecidableEq, Repr

/-- Notices of the Position Unit (R11). -/
inductive PosNotice where
  | progress (t p : Nat)
  | positionChange (p : Nat)
  | declared (d : Dir) (p : Nat)
  | reversal (d : Dir) (p t : Nat)
  | preset (oldP newP : Nat) (delta : Int)
deriving DecidableEq, Repr

/-- The state of the Position Unit (chapter 1, first table). -/
structure PositionUnit where
  tachA : InputLine
  tachB : InputLine
  markIn : InputLine
  rem : Int
  p : Nat
  n : Int
  dir : Dir
  e : Nat
  t : Nat
  score : Nat
  degraded : Bool
  fault : Bool
  limit : Bool
  armed : Option ArmedPreset
  settings : PositionSettings
deriving DecidableEq, Repr

/-! ## Plan Store (chapter 2) -/

/-- An element descriptor (section 2.1). -/
structure ElementDesc where
  group : Nat
  mount : Int
  delay : Nat
  path : Nat
  depthFactor : Nat
  alongFactor : Int
  gain : Nat
  energy : Nat
deriving DecidableEq, Repr

/-- A nozzle descriptor that is defined (section 2.1). -/
structure NozzleDesc where
  mode : NozzleMode
  pulseLength : Nat
  mergeDistance : Nat
  offset : Int
deriving DecidableEq, Repr

/-- The check code kept for one rail's part of a bank (R38): the 32-bit code, and the contents it was computed
over, by which the model decides whether the recomputed code would differ. -/
structure CheckCode where
  code : BitVec 32
  covered : List Byte
deriving DecidableEq, Repr

/-- A plan bank (R19): its contents are the plan's bytes as read from host memory. -/
structure Bank where
  state : BankState
  contents : List Byte
  planId : Nat
  codes : Both (Option CheckCode)
deriving DecidableEq, Repr

/-- What a load in progress is for (R27, R28). -/
inductive LoadPurpose where
  | check
  | activate (fromActive : Bool) (mode : SwitchMode) (position : Nat)
deriving DecidableEq, Repr

/-- A load in progress (R20). -/
structure Load where
  purpose : LoadPurpose
  index : Nat
  address : Nat
  length : Nat
deriving DecidableEq, Repr

/-- The pending activation (R28, R31). -/
structure PendingActivation where
  index : Nat
  fromActive : Bool
  mode : SwitchMode
  position : Nat
  reached : Bool
deriving DecidableEq, Repr

/-- A running switch protocol (R32, R33). -/
structure SwitchProtocol where
  index : Nat
  step : Nat
  held : Both Bool
  flushed : Both Bool
  swapT : Nat
deriving DecidableEq, Repr

/-- A stop in progress (R35, R36); `begun` is clear while it waits behind a switch. -/
structure StopInProgress where
  index : Nat
  begun : Bool
  step : Nat
  held : Both Bool
  flushed : Both Bool
  purged : Both Bool
deriving DecidableEq, Repr

/-- The state of the Plan Store, the reports on their way to it included. -/
structure PlanStore where
  active : Bank
  standby : Bank
  load : Option Load
  pendingActivation : Option PendingActivation
  protocol : Option SwitchProtocol
  stop : Option StopInProgress
  stepReports : Both Nat
  heldReports : Both Nat
  switchDone : Both Nat
  stopDone : Both Nat
  resetDone : Nat
deriving DecidableEq, Repr

/-! ## Sweep Sequencer, Link Controller and Echo Evaluator of a rail (chapters 3 and 4) -/

/-- A gate with its accumulator (R66); `threshold` is the effective threshold of a FLAW gate. -/
structure GateAcc where
  role : GateRole
  mode : FlawMode
  threshold : Nat
  start : Nat
  length : Nat
  peak : Nat
  peakTick : Option Nat
  firstCross : Option Nat
  present : Bool
deriving DecidableEq, Repr

/-- A firing of the shot in flight: its latched descriptor (R47), its part of the expected frame map (R47, R53), its
gates, and, when `copying`, the frames copied for a snapshot (R167). -/
structure Firing where
  element : Nat
  channel : Nat
  desc : ElementDesc
  frames : Nat
  received : List Nat
  damagedSeen : Bool
  gates : List GateAcc
  copying : Bool
  copied : List (Nat × List Byte)
deriving DecidableEq, Repr

/-- The shot in flight, which is the latched shot (R47) and the shot in evaluation (R64); `last` says that it is the
last of its shot list. -/
structure Shot where
  index : Nat
  last : Bool
  listen : Nat
  seq : BitVec 8
  pc : Nat
  offset : Int
  railHeight : Nat
  endAllowance : Nat
  sense : Int
  firings : List Firing
deriving DecidableEq, Repr

/-- The ten survey counters a Sweep Sequencer keeps (R61). -/
structure SurveyCounters where
  sweeps : Nat
  truncated : Nat
  skipped : Nat
  untested : Nat
  abandoned : Nat
  damaged : Nat
  missingEnds : Nat
  crcErrors : Nat
  stray : Nat
  reversals : Nat
deriving DecidableEq, Repr

/-- Notices on a Sequencer's stream (R11): of a progress event, which of its sweep step and its survey mark has been
taken (R62). -/
inductive SeqNotice where
  | progress (t p : Nat) (stepTaken surveyTaken : Bool)
  | reversal (d : Dir) (p t : Nat)
deriving DecidableEq, Repr

/-- Orders of the Plan Store to a Sequencer (R46). -/
inductive SeqOrder where
  | hold
  | release
deriving DecidableEq, Repr

/-- The state of a Sweep Sequencer. -/
structure Sequencer where
  state : SeqState
  held : Bool
  heldReported : Bool
  nextMark : Nat
  shotSeq : BitVec 8
  lift : Bool
  surveyMark : Nat
  counters : SurveyCounters
  notices : List SeqNotice
  orders : List SeqOrder
deriving DecidableEq, Repr

/-- The state of a Link Controller; `endTimer` is the length in ticks of the running END timer (R47). -/
structure Link where
  state : LinkState
  presence : Bool
  good : Nat
  missing : Nat
  downHeld : Bool
  upSinceEntry : Bool
  endTimer : Option Nat
  sent : List (List Byte)
deriving DecidableEq, Repr

/-- A hit (R75). -/
structure Hit where
  element : Nat
  group : Nat
  kind : TrackKind
  x : Nat
  d : Option Nat
  amplitude : Nat
  saturated : Bool
  edge : Bool
deriving DecidableEq, Repr

/-- Items of the release path (R76). -/
inductive ReleaseItem where
  | result (element : Nat) (present : Bool) (seq : BitVec 8) (pc : Nat)
  | hit (h : Hit)
  | released (seq : BitVec 8)
deriving DecidableEq, Repr

/-- The state of an Echo Evaluator but for the shot in evaluation. -/
structure Evaluator where
  offset : Int
  release : List ReleaseItem
  wedge : Nat
  beyond : Nat
deriving DecidableEq, Repr

/-! ## Coupling Monitor (chapter 5) -/

/-- An element record (R80); `lostGroup` is the element's group in the plan under which it became LOST (R86).
DEDUCED: log entry 57. -/
structure ElementRecord where
  state : CouplingState
  absence : Nat
  presence : Nat
  lostAt : Option Nat
  lostGroup : Nat
deriving DecidableEq, Repr

/-- Notices of a Sequencer to the Coupling Monitor (R42). -/
inductive CarriageNotice where
  | lift
  | release
deriving DecidableEq, Repr

/-- Notices of the Plan Store to the Coupling Monitor (R88, R89). -/
inductive CouplingOrder where
  | planReset
  | planEnded
deriving DecidableEq, Repr

/-- The state of the Coupling Monitor. -/
structure CouplingMonitor where
  elements : Both (List ElementRecord)
  suppressed : Both Nat
  lossFlag : Bool
  carriage : Both (List CarriageNotice)
  orders : List CouplingOrder
deriving DecidableEq, Repr

/-! ## Track Correlator (chapter 6) -/

/-- An open track (R91); `flags` as laid out in R180, `elementMask` bit e for element Ee. -/
structure Track where
  state : TrackState
  group : Nat
  kind : TrackKind
  xMin : Nat
  xMax : Nat
  dMin : Option Nat
  dMax : Option Nat
  dRef : Option Nat
  peak : Nat
  peakX : Nat
  saturated : Bool
  hitCount : Nat
  elementMask : BitVec 16
  tFirst : Nat
  tLast : Nat
  flags : BitVec 8
deriving DecidableEq, Repr

/-- A flush marker (R108): `tag` is that of its request for cause FLUSH; for SWITCH and STOP it is 0, or 1 once the
Plan Store waits for it no more. -/
structure FlushMark where
  cause : FlushCause
  tag : Nat
deriving DecidableEq, Repr

/-- Items of the ordered path to the Indication Assembler (R101, R108). -/
inductive PathItem where
  | summary (t : Track)
  | marker (m : FlushMark)
deriving DecidableEq, Repr

/-- Orders of the Plan Store to a Track Correlator (R107, R109). -/
inductive TrackOrder where
  | cut
  | stop
  | planEnded
deriving DecidableEq, Repr

/-- The state of a Track Correlator; a FREE entry of the table is none. -/
structure Tracker where
  table : List (Option Track)
  path : List PathItem
  lost : Nat
  hits : List Hit
  notices : List PosNotice
  liftNotices : Nat
  interruptNotices : Nat
  tachNotices : Nat
  orders : List TrackOrder
  flushOrders : List Nat
deriving DecidableEq, Repr

/-! ## Indication Assembler (chapter 7) -/

/-- A kept contributor (R113); `arrival` numbers the order in which summaries were taken. -/
structure Contributor where
  group : Nat
  kind : TrackKind
  elementMask : BitVec 16
  xMin : Nat
  xMax : Nat
  dMin : Option Nat
  dMax : Option Nat
  peak : Nat
  hitCount : Nat
  flags : BitVec 8
  arrival : Nat
deriving DecidableEq, Repr

/-- An entry of the assembly list (R113). -/
structure Entry where
  xMin : Nat
  xMax : Nat
  dMin : Option Nat
  dMax : Option Nat
  peak : Nat
  groups : BitVec 8
  contributors : List Contributor
  total : Nat
  tJoin : Nat
  flags : BitVec 8
deriving DecidableEq, Repr

/-- What classification gives an entry (R123, R124). -/
structure Classification where
  cls : Nat
  rule : Option Nat
  severity : Nat
  nozzle : Option Nat
  lead : Nat
  trail : Nat
deriving DecidableEq, Repr

/-- The indication being finalized while its mark request is in hand (R127). -/
structure Finalizing where
  entry : Entry
  cause : FinalCause
  number : Nat
  planId : Nat
  cls : Classification
  t : Nat
  p : Nat
  dir : Dir
  xStart : Nat
  xEnd : Nat
  answer : Option MarkerStatus
deriving DecidableEq, Repr

/-- What the assembler does once the finalizations of an item are complete (R116, R121). -/
inductive AfterJob where
  | nothing
  | insert (e : Entry)
  | flushDone (m : FlushMark)
deriving DecidableEq, Repr

/-- The mark request in hand with the finalizations that wait behind it (R122, R127). -/
structure Job where
  current : Finalizing
  todo : List (Entry × FinalCause)
  after : AfterJob
deriving DecidableEq, Repr

/-- Notices of the Plan Store to an assembler (R130, R131). -/
inductive AssemblyOrder where
  | stopBegun
  | planEnded
deriving DecidableEq, Repr

/-- The state of an Indication Assembler. -/
structure Assembler where
  list : List Entry
  arrivals : Nat
  stopping : Bool
  job : Option Job
  notices : List PosNotice
  orders : List AssemblyOrder
deriving DecidableEq, Repr

/-! ## Marker Controller (chapter 8) -/

/-- An entry of the marker queue (R134). -/
structure MarkEntry where
  nozzle : Nat
  xStart : Nat
  xEnd : Nat
  origins : List Nat
  originTotal : Nat
  state : MarkState
  broken : Bool
deriving DecidableEq, Repr

/-- A TEST in hand (R142). -/
structure NozzleTest where
  index : Nat
  duration : Nat
deriving DecidableEq, Repr

/-- A nozzle: the descriptor it acts under and its position while a plan defines it, and its output state. -/
structure Nozzle where
  desc : Option NozzleDesc
  position : Option Int
  drive : Bool
  latched : Bool
  pulse : Option Nat
  test : Option NozzleTest
deriving DecidableEq, Repr

/-- Orders of the Plan Store to a Marker Controller (R33, R36, R139). -/
inductive MarkerOrder where
  | nozzleCheck
  | stopPurge
  | planEnded
deriving DecidableEq, Repr

/-- The state of a Marker Controller; `p` is the P of the last notice it took, and `sense` the chainage_sense its
nozzle positions are computed with. -/
structure Marker where
  queue : List MarkEntry
  dir : Dir
  p : Nat
  sense : Int
  nozzles : List Nozzle
  notices : List PosNotice
  tachNotices : Nat
  orders : List MarkerOrder
deriving DecidableEq, Repr

/-- The blocks of one rail. -/
structure RailBlocks where
  seq : Sequencer
  link : Link
  eval : Evaluator
  shot : Option Shot
  trk : Tracker
  asm : Assembler
  mrk : Marker
deriving DecidableEq, Repr

/-! ## Alarm Unit (chapter 9) -/

/-- The detail a raiser hands over (R158). -/
inductive Detail where
  | element (r : Rail) (element : Nat) (lostAt : Nat)
  | rail (r : Rail)
  | indication (r : Rail) (number : Nat) (cls : Nat)
  | unmarked (r : Rail) (nozzle : Nat) (reason : UnmarkedReason) (origin : Nat)
  | loss (kind : RecordKind) (count : Nat) (p : Nat)
  | score (value : Nat)
  | status (r : Rail) (flags : BitVec 8)
  | position (p : Nat)
  | mask (a b : Bool)
  | block (name : ContextBlockName)
deriving DecidableEq, Repr

/-- A source record (chapter 9, first table). -/
structure SourceRecord where
  state : SourceState
  level : Nat
  raiseCount : Nat
  present : Bool
  detail : Option Detail
deriving DecidableEq, Repr

/-- What is on its way from a block to the Alarm Unit: a raise or an end (R147, R148), and from the Position Unit a
progress event, in the order issued (R11). An end of LINK_DOWN names its rail. -/
inductive Report where
  | raise (src : Source) (detail : Detail)
  | condEnd (src : Source) (rail : Option Rail)
  | progress (t p : Nat)
deriving DecidableEq, Repr

/-- The state of the Alarm Unit. -/
structure AlarmUnit where
  sources : List SourceRecord
  linkMask : Both Bool
  suppression : Nat
  suppressedCount : Nat
  expiryDue : Bool
  remembered : Option OpState
  planFaultSeen : Bool
  lockPair : Option (Nat × Nat)
  cabLevel : Nat
  threshold : Nat
  reports : List (Raiser × Report)
deriving DecidableEq, Repr

/-! ## Records (R170) -/

/-- A MARK record (R12). -/
structure MarkRecord where
  p : Nat
  t : Nat
  dir : Dir
  before : Option Nat
deriving DecidableEq, Repr

/-- A SURVEY record (R62). -/
structure SurveyRecord where
  rail : Rail
  t : Nat
  p : Nat
  planId : Nat
  seqState : SeqState
  linkState : LinkState
  counters : SurveyCounters
  wedge : Nat
  beyond : Nat
  hitsSuppressed : Nat
  hitsLost : Nat
  coupling : List CouplingState
deriving DecidableEq, Repr

/-- A COUPLING record (R86). -/
structure CouplingRecord where
  rail : Rail
  element : Nat
  group : Nat
  reason : CouplingReason
  lostAt : Nat
  restoredAt : Option Nat
  untested : Option Nat
  endP : Option Nat
deriving DecidableEq, Repr

/-- A DROPPED_TRACK record (R111). -/
structure DroppedRecord where
  rail : Rail
  index : Nat
  reason : DropReason
  cause : Option DropCause
  track : Track
  tClose : Nat
deriving DecidableEq, Repr

/-- An INDICATION record (R128). -/
structure IndicationRecord where
  rail : Rail
  number : Nat
  planId : Nat
  cls : Classification
  status : MarkerStatus
  interval : Option (Nat × Nat)
  cause : FinalCause
  entry : Entry
  tFinal : Nat
  pFinal : Nat
  dir : Dir
deriving DecidableEq, Repr

/-- A MARKER record (R144); the reason is none for SPRAYED. -/
structure MarkerRecord where
  rail : Rail
  nozzle : Nat
  reason : Option UnmarkedReason
  broken : Bool
  xStart : Nat
  xEnd : Nat
  origins : List Nat
  originTotal : Nat
  p : Nat
  t : Nat
  dir : Dir
deriving DecidableEq, Repr

/-- An ALARM record (R158). -/
structure AlarmRecord where
  source : Source
  action : AlarmAction
  state : SourceState
  level : Nat
  raiseCount : Nat
  conflict : Bool
  detail : Option Detail
  alarmLevel : Nat
  topSource : Option Nat
  device : OpState
  suppression : Nat
  p : Nat
  t : Nat
deriving DecidableEq, Repr

/-- A GAP record (R176). -/
structure GapRecord where
  counts : List Nat
  firstP : Nat
  lastP : Nat
  t : Nat
deriving DecidableEq, Repr

/-- A record of the journal (R170). -/
inductive Rec where
  | indication (x : IndicationRecord)
  | alarm (x : AlarmRecord)
  | gap (x : GapRecord)
  | mark (x : MarkRecord)
  | marker (x : MarkerRecord)
  | coupling (x : CouplingRecord)
  | survey (x : SurveyRecord)
  | dropped (x : DroppedRecord)
deriving DecidableEq, Repr

/-- The producers of records in the arbiter's order (R172). -/
inductive Producer where
  | alarmUnit
  | assembler (r : Rail)
  | positionUnit
  | marker (r : Rail)
  | couplingMonitor
  | tracker (r : Rail)
  | sequencer (r : Rail)
deriving DecidableEq, Repr

/-! ## Request Handler (chapter 10) -/

/-- A request an entry of the Request Table posts (R163, R165). -/
structure Request where
  index : Nat
  kind : Nat
  tag : Nat
  params : List Byte
deriving DecidableEq, Repr

/-- A write to a Request Table entry (R166). -/
structure EntryWrite where
  state : ReqState
  code : ResultCode
  words : List Byte
  tag : Nat
deriving DecidableEq, Repr

/-- The last write issued to an entry: where its accesses stand in the trace of bus actions, and how many actions they
are. -/
structure IssuedWrite where
  write : EntryWrite
  start : Nat
  count : Nat
deriving DecidableEq, Repr

/-- A capture (R167, R168). -/
structure Capture where
  samples : List Byte
  pc : Nat
  seq : BitVec 8
deriving DecidableEq, Repr

/-- A snapshot in flight (R167). -/
structure Snapshot where
  index : Nat
  element : Nat
  destination : Nat
  capacity : Nat
  sweeps : Nat
  capture : Option Capture
deriving DecidableEq, Repr

/-- The FLUSH in hand (R110): per rail the numbers of tracks sent and dropped, and whether flush done has come. -/
structure FlushInHand where
  index : Nat
  tag : Nat
  counts : Both (Nat × Nat)
  done : Both Bool
deriving DecidableEq, Repr

/-- The state of the Request Handler; `scan` holds the requests the scan under way has still to take, `announced` the
entry writes the REQUEST cause stands for, oldest first, each by where its accesses begin and end in the trace, and
`statusIssued` where the accesses of the status rewrites begin there, newest first. -/
structure RequestHandler where
  scanTimer : Bool
  scanInterval : Nat
  scan : List Request
  taken : List (Option Request)
  pendingWrites : List (Option EntryWrite)
  issued : List (Option IssuedWrite)
  announced : List (Nat × Nat)
  snapshot : Both (Option Snapshot)
  flush : Option FlushInHand
  flushDone : Both (List Nat)
  rewrite : BitVec 32
  statusIssued : List Nat
deriving DecidableEq, Repr

/-! ## Journal Writer (chapter 10) -/

/-- An entry of the consumer table (R171): `subscriptions` bit k - 1 for the record kind of code k (R182). -/
structure Consumer where
  enabled : Bool
  subscriptions : BitVec 8
deriving DecidableEq, Repr

/-- The gap state (R176). -/
structure GapState where
  pending : Bool
  counts : List Nat
  firstP : Nat
  lastP : Nat
deriving DecidableEq, Repr

/-- What the Journal Writer is doing with the record at the head of its queue (R174, R175, R177): it has taken none; it
takes it afresh on a resume; the check waits for its repetition; the record waits behind a failed write; or the GAP
before it or the record itself is being written. -/
inductive WriterPhase where
  | idle
  | afresh
  | retry
  | failed
  | writingGap (g : GapRecord)
  | writing
deriving DecidableEq, Repr

/-- The state of the Journal Writer. `gapLate` gathers the losses since a GAP under way was built; `presented`
holds the records the producers have presented to the arbiter. -/
structure JournalWriter where
  base : Nat
  slotCount : Nat
  reserve : Nat
  consumers : List Consumer
  queue : List Rec
  w : Nat
  nextSeq : BitVec 32
  knownFree : Nat
  gap : GapState
  gapLate : GapState
  stopped : Bool
  phase : WriterPhase
  presented : List (Producer × Rec)
deriving DecidableEq, Repr

/-! ## Bus Interface (chapter 10) -/

/-- What the part has done on the host link: a write to host memory, an attention message, or an access that had
been issued and did not land. -/
inductive BusAction where
  | write (address : Nat) (bytes : List Byte)
  | message (cause : AttnCause)
  | void
deriving DecidableEq, Repr

/-- One Boolean for each attention cause (R160). -/
structure AttnBits where
  journal : Bool
  request : Bool
  alarm : Bool
  state : Bool
deriving DecidableEq, Repr

/-- The state of the Bus Interface: the registers' own fields, the BIND in progress, the Context Block address of the
binding, and the trace of what was done on the host link, oldest first. -/
structure BusInterface where
  enables : AttnBits
  causes : AttnBits
  contextLo : Word
  contextHi : Word
  bindError : BindError
  binding : Option Nat
  context : Nat
  trace : List BusAction
deriving DecidableEq, Repr

/-! ## The machine -/

/-- The state of the part: `pending` is the queue of waiting commands, first in, first out. -/
structure State where
  pending : List Instr
  device : OpState
  pos : PositionUnit
  plans : PlanStore
  rails : Both RailBlocks
  coupling : CouplingMonitor
  indicationCounter : Nat
  alarm : AlarmUnit
  req : RequestHandler
  jrn : JournalWriter
  bus : BusInterface
deriving DecidableEq, Repr

/-- The reasons a step can stop with a fault. No command of this part stops: what the spec calls a fault is an alarm
source and moves the device to FAULTED, a next state. DEDUCED: log entry 42. -/
inductive Fault where
deriving DecidableEq, Repr

/-- The reasons a step can be refused. -/
inductive Refusal where
  /-- Raised by `exec`'s arm of a command that has no meaning yet. Safe: no claim follows from it. -/
  | notModelled (mnemonic : String)
deriving DecidableEq, Repr

/-! ## Reset (R17, R39, R63, R79, R90, R112, R132, R145, R159, R160, R177) -/

/-- An input line that has just taken its qualified level from its raw level (R1). -/
def InputLine.settled (raw : Bool) : InputLine := { raw := raw, qualified := raw, hold := none }

/-- The position settings after a hardware reset (R16). -/
def PositionSettings.hardware : PositionSettings :=
  { q := 256000, mode := .edge4, filterTime := 0, rv := 10, markEdge := .rising }

/-- The Position Unit after a hardware reset (R17). -/
def PositionUnit.hardware (pins : Pins) : PositionUnit :=
  { tachA := .settled pins.tachA, tachB := .settled pins.tachB, markIn := .settled pins.markIn,
    rem := 0, p := 0, n := 0, dir := .unknown, e := 0, t := 0, score := 0,
    degraded := false, fault := false, limit := false, armed := none, settings := .hardware }

/-- A bank after either reset (R39). -/
def Bank.cleared : Bank := { state := .empty, contents := [], planId := 0, codes := ⟨none, none⟩ }

/-- The Plan Store after either reset (R39). -/
def PlanStore.cleared : PlanStore :=
  { active := .cleared, standby := .cleared, load := none, pendingActivation := none, protocol := none, stop := none,
    stepReports := ⟨0, 0⟩, heldReports := ⟨0, 0⟩, switchDone := ⟨0, 0⟩, stopDone := ⟨0, 0⟩, resetDone := 0 }

/-- Survey counters set to 0 (R61). -/
def SurveyCounters.zero : SurveyCounters :=
  { sweeps := 0, truncated := 0, skipped := 0, untested := 0, abandoned := 0, damaged := 0, missingEnds := 0,
    crcErrors := 0, stray := 0, reversals := 0 }

/-- A Sweep Sequencer after either reset (R63). -/
def Sequencer.cleared (lift : Bool) : Sequencer :=
  { state := .off, held := false, heldReported := false, nextMark := 0, shotSeq := 0, lift := lift, surveyMark := 0,
    counters := .zero, notices := [], orders := [] }

/-- A Link Controller after either reset (R63); the frames sent are kept as a trace of the link. -/
def Link.cleared (sent : List (List Byte)) : Link :=
  { state := .down, presence := false, good := 0, missing := 0, downHeld := false, upSinceEntry := false,
    endTimer := none, sent := sent }

/-- An Echo Evaluator after either reset (R79). -/
def Evaluator.cleared : Evaluator := { offset := 0, release := [], wedge := 0, beyond := 0 }

/-- A Track Correlator after either reset (R112). -/
def Tracker.cleared : Tracker :=
  { table := List.replicate Config.trackEntries none, path := [], lost := 0, hits := [], notices := [], liftNotices := 0,
    interruptNotices := 0, tachNotices := 0, orders := [], flushOrders := [] }

/-- An Indication Assembler after either reset (R132). -/
def Assembler.cleared : Assembler :=
  { list := [], arrivals := 0, stopping := false, job := none, notices := [], orders := [] }

/-- A nozzle after either reset (R145). -/
def Nozzle.cleared : Nozzle :=
  { desc := none, position := none, drive := false, latched := false, pulse := none, test := none }

/-- A Marker Controller after a reset that leaves the declared direction `d` and the car position `p` (R145).
DEDUCED: log entry 62. The sense it holds before it has read a plan is +1. DESIGN CHOICE: log entry 7. -/
def Marker.cleared (d : Dir) (p : Nat) : Marker :=
  { queue := [], dir := d, p := p, sense := 1, nozzles := List.replicate 4 .cleared, notices := [], tachNotices := 0,
    orders := [] }

/-- The blocks of one rail after a reset. -/
def RailBlocks.cleared (lift : Bool) (d : Dir) (p : Nat) (sent : List (List Byte)) : RailBlocks :=
  { seq := .cleared lift, link := .cleared sent, eval := .cleared, shot := none, trk := .cleared, asm := .cleared,
    mrk := .cleared d p }

/-- An element record in the given state with its counts 0 and lost_at none (R88, R90). -/
def ElementRecord.fresh (c : CouplingState) : ElementRecord :=
  { state := c, absence := 0, presence := 0, lostAt := none, lostGroup := 0 }

/-- The Coupling Monitor after either reset (R90). -/
def CouplingMonitor.cleared : CouplingMonitor :=
  { elements := ⟨List.replicate 12 (.fresh .unmonitored), List.replicate 12 (.fresh .unmonitored)⟩,
    suppressed := ⟨0, 0⟩, lossFlag := false, carriage := ⟨[], []⟩, orders := [] }

/-- The level a source has after either reset (R146, R159). -/
def SourceRecord.cleared (level : Nat) : SourceRecord :=
  { state := .idle, level := level, raiseCount := 0, present := false, detail := none }

/-- The Alarm Unit after either reset with the cab level and attention threshold given (R159). -/
def AlarmUnit.cleared (cabLevel threshold : Nat) : AlarmUnit :=
  { sources := List.replicate 12 (.cleared Config.defaultSoftLevel) ++ [.cleared 8, .cleared 9, .cleared 10],
    linkMask := ⟨false, false⟩, suppression := 0, suppressedCount := 0, expiryDue := false, remembered := none,
    planFaultSeen := false, lockPair := none, cabLevel := cabLevel, threshold := threshold, reports := [] }

/-- The Request Handler after a reset that leaves the rewrite number given (R166, R169). -/
def RequestHandler.cleared (rewrite : BitVec 32) : RequestHandler :=
  { scanTimer := false, scanInterval := 0, scan := [], taken := List.replicate 8 none,
    pendingWrites := List.replicate 8 none, issued := List.replicate 8 none, announced := [], snapshot := ⟨none, none⟩,
    flush := none, flushDone := ⟨[], []⟩, rewrite := rewrite, statusIssued := [] }

/-- The clear gap state (R176). -/
def GapState.clear : GapState := { pending := false, counts := List.replicate 8 0, firstP := 0, lastP := 0 }

/-- The Journal Writer after either reset (R177). DESIGN CHOICE: log entry 7. -/
def JournalWriter.cleared : JournalWriter :=
  { base := 0, slotCount := 0, reserve := 0,
    consumers := List.replicate 8 { enabled := false, subscriptions := 0 }, queue := [], w := 0,
    nextSeq := 0, knownFree := 0, gap := .clear, gapLate := .clear, stopped := false, phase := .idle, presented := [] }

/-- All four attention bits clear. -/
def AttnBits.clear : AttnBits := { journal := false, request := false, alarm := false, state := false }

/-- The Bus Interface after a hardware reset (R160); the trace of the host link is kept. -/
def BusInterface.hardware (trace : List BusAction) : BusInterface :=
  { enables := .clear, causes := .clear, contextLo := 0, contextHi := 0, bindError := .none, binding := none,
    context := 0, trace := trace }

/-- The machine right after a hardware reset whose input pins ended at `pins`. -/
def State.hardware (pins : Pins) (pending : List Instr) (sent : Both (List (List Byte))) (trace : List BusAction) :
    State :=
  { pending := pending, device := .unbound, pos := .hardware pins, plans := .cleared,
    rails := ⟨.cleared pins.liftA .unknown 0 sent.a, .cleared pins.liftB .unknown 0 sent.b⟩, coupling := .cleared,
    indicationCounter := 1, alarm := .cleared 10 10, req := .cleared 0, jrn := .cleared, bus := .hardware trace }

/-- The machine right after reset: a hardware reset with every input pin low (LIFT released), no command waiting and
nothing done yet on the links. DESIGN CHOICE: log entry 5. -/
def State.reset : State :=
  .hardware { tachA := false, tachB := false, markIn := false, liftA := false, liftB := false } [] ⟨[], []⟩ []

end Sys2Proof.Machine
end

