-- ==== Sys2Proof/Machine/Operands.lean ====
section
/-! DEFINITION. How the part reads the structures the car computer lays out: the sweep plan (R18, R186) and its
validation (R21 to R26), the Context Block (R162, R182), and Request Table entries (R163, R183). -/

namespace Sys2Proof.Machine

/-- The rail's place in a layout, A first. -/
def Rail.idx : Rail → Nat
  | .A => 0
  | .B => 1

/-- The rail a rail code names (R189). -/
def railOfCode (n : Nat) : Option Rail := if n = 0 then some .A else if n = 1 then some .B else none

/-! ## Reading a plan (R186). Each function reads one field from the bytes of a bank. -/

/-- plan_id. -/
def Plan.planId (c : List Byte) : Nat := u32At c 8

/-- chainage_sense, the factor k (R74): the signed byte itself, also where an upset has left it other than +1 or −1.
DESIGN CHOICE: log entry 100. -/
def Plan.sense (c : List Byte) : Int := i8At c 12

/-- The shot count of a rail. -/
def Plan.shotCount (c : List Byte) (r : Rail) : Nat := byteAt c (13 + Rail.idx r)

/-- The class rule count. -/
def Plan.ruleCount (c : List Byte) : Nat := byteAt c 15

/-- survey_interval. -/
def Plan.surveyInterval (c : List Byte) : Nat := u16At c 16

/-- The alarm levels of the soft ids 0..11. -/
def Plan.alarmLevels (c : List Byte) : List Nat := (List.range 12).map fun i => byteAt c (20 + i)

/-- Where a rail's settings begin. -/
def Plan.railBase (r : Rail) : Nat := 32 + 16 * Rail.idx r

/-- step. -/
def Plan.step (c : List Byte) (r : Rail) : Nat := byteAt c (Plan.railBase r)

/-- default_severity; one above 3, which only an upset leaves, is that number. DESIGN CHOICE: log entry 106. -/
def Plan.defaultSeverity (c : List Byte) (r : Rail) : Nat := byteAt c (Plan.railBase r + 1)

/-- A nozzle field: 0..3, or 0xFF for none; a number 4..254, which only an upset leaves, is read as that number.
DESIGN CHOICE: log entry 85. -/
def nozzleField (n : Nat) : Option Nat := if n = 255 then none else some n

/-- default_nozzle. -/
def Plan.defaultNozzle (c : List Byte) (r : Rail) : Option Nat := nozzleField (byteAt c (Plan.railBase r + 2))

/-- end_allowance, in µs. -/
def Plan.endAllowance (c : List Byte) (r : Rail) : Nat := byteAt c (Plan.railBase r + 3)

/-- rail_height H. -/
def Plan.railHeight (c : List Byte) (r : Rail) : Nat := u16At c (Plan.railBase r + 4)

/-- presence_timeout, in µs. -/
def Plan.presenceTimeout (c : List Byte) (r : Rail) : Nat := u16At c (Plan.railBase r + 6)

/-- margin_a Ma. -/
def Plan.marginA (c : List Byte) (r : Rail) : Nat := byteAt c (Plan.railBase r + 8)

/-- margin_d Md. -/
def Plan.marginD (c : List Byte) (r : Rail) : Nat := byteAt c (Plan.railBase r + 9)

/-- horizon Ha. -/
def Plan.horizon (c : List Byte) (r : Rail) : Nat := u16At c (Plan.railBase r + 10)

/-- Where an element descriptor begins; the place is counted on for an element code above 11, which only an upset leaves
(R47, R75). DESIGN CHOICE: log entry 98. -/
def Plan.elementBase (r : Rail) (e : Nat) : Nat := 64 + 16 * (12 * Rail.idx r + e)

/-- An element descriptor. -/
def Plan.element (c : List Byte) (r : Rail) (e : Nat) : ElementDesc :=
  let b := Plan.elementBase r e
  { group := byteAt c b, gain := byteAt c (b + 1), energy := byteAt c (b + 2), mount := i16At c (b + 4),
    delay := u16At c (b + 6), path := u16At c (b + 8), depthFactor := u16At c (b + 10),
    alongFactor := i16At c (b + 12) }

/-- Where a beam group begins; the place is counted on for a group code above 7, which only an upset leaves.
DESIGN CHOICE: log entry 84. -/
def Plan.groupBase (r : Rail) (g : Nat) : Nat := 448 + 12 * (8 * Rail.idx r + g)

/-- window_x Wx. -/
def Plan.windowX (c : List Byte) (r : Rail) (g : Nat) : Nat := byteAt c (Plan.groupBase r g)

/-- window_d Wd. -/
def Plan.windowD (c : List Byte) (r : Rail) (g : Nat) : Nat := byteAt c (Plan.groupBase r g + 1)

/-- confirm Nc. -/
def Plan.confirm (c : List Byte) (r : Rail) (g : Nat) : Nat := byteAt c (Plan.groupBase r g + 2)

/-- loss_count Nl. -/
def Plan.lossCount (c : List Byte) (r : Rail) (g : Nat) : Nat := byteAt c (Plan.groupBase r g + 3)

/-- restore_count Nr. -/
def Plan.restoreCount (c : List Byte) (r : Rail) (g : Nat) : Nat := byteAt c (Plan.groupBase r g + 4)

/-- gap G. -/
def Plan.gap (c : List Byte) (r : Rail) (g : Nat) : Nat := u16At c (Plan.groupBase r g + 6)

/-- max_length Lmax. -/
def Plan.maxLength (c : List Byte) (r : Rail) (g : Nat) : Nat := u16At c (Plan.groupBase r g + 8)

/-- A nozzle mode code; an undefined code, which only an upset leaves, reads as PULSE. DESIGN CHOICE: log entry 75. -/
def nozzleModeOf (n : Nat) : NozzleMode := if n = 0 then .spray else if n = 1 then .latch else .pulse

/-- Where a nozzle descriptor begins. -/
def Plan.nozzleBase (r : Rail) (j : Nat) : Nat := 640 + 8 * (4 * Rail.idx r + j)

/-- A nozzle descriptor, none when the nozzle is not defined for the rail; an undefined yes/no code reads as no.
DESIGN CHOICE: log entry 75. -/
def Plan.nozzle (c : List Byte) (r : Rail) (j : Nat) : Option NozzleDesc :=
  let b := Plan.nozzleBase r j
  if byteAt c b = 1 ∧ j < 4 then
    some { mode := nozzleModeOf (byteAt c (b + 1)), pulseLength := byteAt c (b + 2),
           mergeDistance := byteAt c (b + 3), offset := i16At c (b + 4) }
  else none

/-- A class rule (section 2.1). -/
structure ClassRule where
  required : Nat
  anyOf : Nat
  excluded : Nat
  acceptNoDepth : Bool
  filter : RailFilter
  depthMin : Nat
  depthMax : Nat
  lengthMin : Nat
  lengthMax : Nat
  minPeak : Nat
  cls : Nat
  severity : Nat
  nozzle : Option Nat
  lead : Nat
  trail : Nat
deriving DecidableEq, Repr

/-- A rail_filter code; an undefined code, which only an upset leaves, reads as BOTH. DESIGN CHOICE: log entry 75. -/
def railFilterOf (n : Nat) : RailFilter := if n = 0 then .a else if n = 1 then .b else .both

/-- Where a class rule begins. -/
def Plan.ruleBase (j : Nat) : Nat := Config.planFixedBytes + 32 * j

/-- A class rule; an undefined accept_no_depth, which only an upset leaves, reads as no. DESIGN CHOICE: log entry 75. A class
of 0 or 255 and a severity above 3 are those numbers (R124). DESIGN CHOICE: log entry 106. -/
def Plan.rule (c : List Byte) (j : Nat) : ClassRule :=
  let b := Plan.ruleBase j
  { required := u16At c b, anyOf := u16At c (b + 2), excluded := u16At c (b + 4),
    acceptNoDepth := byteAt c (b + 6) == 1, filter := railFilterOf (byteAt c (b + 7)), depthMin := u16At c (b + 8),
    depthMax := u16At c (b + 10), lengthMin := u32At c (b + 12), lengthMax := u32At c (b + 16),
    minPeak := byteAt c (b + 20), cls := byteAt c (b + 21), severity := byteAt c (b + 22),
    nozzle := nozzleField (byteAt c (b + 23)), lead := u16At c (b + 24), trail := u16At c (b + 26) }

/-- The class rules in plan order (R123), as many as the count says, also where an upset has left it other than the rules of
the plan or above 16. DESIGN CHOICE: log entry 105. -/
def Plan.rules (c : List Byte) : List ClassRule := (List.range (Plan.ruleCount c)).map (Plan.rule c)

/-- A gate as the plan gives it, with its offset in the plan. -/
structure GateDesc where
  offset : Nat
  role : GateRole
  mode : FlawMode
  threshold : Nat
  start : Nat
  length : Nat
deriving DecidableEq, Repr

/-- A firing as the plan gives it, with its offset in the plan. -/
structure FiringDesc where
  offset : Nat
  element : Nat
  channel : Nat
  gates : List GateDesc
deriving DecidableEq, Repr

/-- A shot as the plan gives it, with its offset in the plan. -/
structure ShotDesc where
  offset : Nat
  listen : Nat
  firings : List FiringDesc
deriving DecidableEq, Repr

/-- A gate role code; an undefined code reads as BACKWALL, and an undefined mode as PEAK. DESIGN CHOICE: log entry 75. -/
def gateRoleOf (n : Nat) : GateRole := if n = 0 then .flaw else if n = 1 then .coupling else .backwall

/-- The gate at an offset. -/
def Plan.gateAt (c : List Byte) (off : Nat) : GateDesc :=
  { offset := off, role := gateRoleOf (byteAt c off), mode := if byteAt c (off + 1) = 0 then .first else .peak,
    threshold := byteAt c (off + 2), start := u16At c (off + 4), length := u16At c (off + 6) }

/-- `n` firings from an offset on, and the offset behind them. -/
def Plan.firingsAt (c : List Byte) : Nat → Nat → List FiringDesc × Nat
  | 0, off => ([], off)
  | n + 1, off =>
    let g := byteAt c (off + 2)
    let f : FiringDesc :=
      { offset := off, element := byteAt c off, channel := byteAt c (off + 1),
        gates := (List.range g).map fun k => Plan.gateAt c (off + 4 + 8 * k) }
    let rest := Plan.firingsAt c n (off + 4 + 8 * g)
    (f :: rest.1, rest.2)

/-- `n` shots from an offset on, and the offset behind them. -/
def Plan.shotsAt (c : List Byte) : Nat → Nat → List ShotDesc × Nat
  | 0, off => ([], off)
  | n + 1, off =>
    let fs := Plan.firingsAt c (byteAt c (off + 2)) (off + 4)
    let rest := Plan.shotsAt c n fs.2
    ({ offset := off, listen := u16At c off, firings := fs.1 } :: rest.1, rest.2)

/-- Where the shot lists begin. -/
def Plan.shotsBase (c : List Byte) : Nat := Plan.ruleBase (Plan.ruleCount c)

/-- The shot list of rail A, and the offset behind it. -/
def Plan.shotsA (c : List Byte) : List ShotDesc × Nat := Plan.shotsAt c (Plan.shotCount c .A) (Plan.shotsBase c)

/-- The shot list of rail B, and the offset behind it. -/
def Plan.shotsB (c : List Byte) : List ShotDesc × Nat := Plan.shotsAt c (Plan.shotCount c .B) (Plan.shotsA c).2

/-- The shot list of a rail, in firing order. -/
def Plan.shots (c : List Byte) : Rail → List ShotDesc
  | .A => (Plan.shotsA c).1
  | .B => (Plan.shotsB c).1

/-- The element is fired on the rail (section 2.1). -/
def Plan.fired (c : List Byte) (r : Rail) (e : Nat) : Bool :=
  (Plan.shots c r).any fun s => s.firings.any fun f => f.element == e

/-- The element has a gate of the given role on the rail (section 2.1). -/
def Plan.hasGate (c : List Byte) (r : Rail) (e : Nat) (role : GateRole) : Bool :=
  (Plan.shots c r).any fun s => s.firings.any fun f => f.element == e && f.gates.any fun g => g.role == role

/-- The contents a rail's check code covers: its shot list and its twelve element descriptors (R38).
DEDUCED: log entry 66. -/
def Plan.covered (c : List Byte) (r : Rail) : List Byte :=
  let span : Nat × Nat := match r with
    | .A => (Plan.shotsBase c, (Plan.shotsA c).2)
    | .B => ((Plan.shotsA c).2, (Plan.shotsB c).2)
  (c.drop (Plan.elementBase r 0)).take 192 ++ (c.drop span.1).take (span.2 - span.1)

/-- The check code of a rail's part of a plan (R38). -/
def Plan.checkCode (c : List Byte) (r : Rail) : CheckCode :=
  { code := Config.checkCode (Plan.covered c r), covered := Plan.covered c r }

/-! ## Validation (R21 to R26) -/

/-- How far the counts of the shot lists can be followed (R22). -/
inductive Walk where
  | fails (offset : Nat)
  | reaches (off : Nat) (ends : List Nat)
deriving DecidableEq, Repr

/-- The first byte beyond the last part that is complete within `len` bytes, given where the parts end.
DEDUCED: log entry 13. -/
def lastComplete (len : Nat) (ends : List Nat) : Nat := (ends.filter (· ≤ len)).foldl max 0

/-- Follow the gate counts of `n` firings. -/
def walkFirings (c : List Byte) (len : Nat) : Nat → Nat → List Nat → Walk
  | 0, off, ends => .reaches off ends
  | n + 1, off, ends =>
    if len ≤ off + 2 then .fails (lastComplete len ends)
    else
      let g := byteAt c (off + 2)
      if g < 1 ∨ 4 < g then .fails (off + 2)
      else walkFirings c len n (off + 4 + 8 * g) (ends ++ (List.range (g + 1)).map fun k => off + 4 + 8 * k)

/-- Follow the firing counts of `n` shots. -/
def walkShots (c : List Byte) (len : Nat) : Nat → Nat → List Nat → Walk
  | 0, off, ends => .reaches off ends
  | n + 1, off, ends =>
    if len ≤ off + 2 then .fails (lastComplete len ends)
    else
      let f := byteAt c (off + 2)
      if f < 1 ∨ 4 < f then .fails (off + 2)
      else
        match walkFirings c len f (off + 4) (ends ++ [off + 4]) with
        | .fails o => .fails o
        | .reaches off' ends' => walkShots c len n off' ends'

/-- Where the parts before the shot lists end (R186). -/
def fixedEnds (rules : Nat) : List Nat :=
  [32, 48, 64] ++ ((List.range 24).map fun i => 80 + 16 * i) ++ ((List.range 16).map fun i => 460 + 12 * i)
    ++ ((List.range 8).map fun i => 648 + 8 * i) ++ (List.range rules).map fun j => 736 + 32 * j

/-- The first test of a list that fails: its offset. -/
def firstBad : List (Nat × Bool) → Option Nat
  | [] => none
  | (off, ok) :: rest => if ok then firstBad rest else some off

/-- The BAD_LAYOUT check of a plan read with the given length (R22): the offset of the fault found. -/
def layoutFault (c : List Byte) (len : Nat) : Option Nat :=
  match firstBad [(0, u16At c 0 == 1), (4, u32At c 4 == len), (13, byteAt c 13 ≤ 8), (14, byteAt c 14 ≤ 8),
      (15, byteAt c 15 ≤ 16)] with
  | some o => some o
  | none =>
    match walkShots c len (byteAt c 13 + byteAt c 14) (Plan.shotsBase c) (fixedEnds (Plan.ruleCount c)) with
    | .fails o => some o
    | .reaches size ends =>
      if len < size then some (lastComplete len ends) else if size < len then some 4 else none

/-- A number within a range. -/
def within (lo hi n : Nat) : Bool := decide (lo ≤ n ∧ n ≤ hi)

/-- A nozzle field holds 0..3 or the code for none (R23). -/
def nozzleOk (n : Nat) : Bool := within 0 3 n || n == 255

/-- The RANGE tests of the header and the rail settings, by offset (R23). -/
def rangeHeader (c : List Byte) : List (Nat × Bool) :=
  [(2, u16At c 2 == 0), (12, byteAt c 12 == 1 || byteAt c 12 == 255), (18, u16At c 18 == 0)]
    ++ ((List.range 12).map fun i => (20 + i, decide (byteAt c (20 + i) ≤ 7)))
    ++ [Rail.A, Rail.B].flatMap fun r =>
        let b := Plan.railBase r
        [(b, within 1 64 (byteAt c b)), (b + 1, within 0 3 (byteAt c (b + 1))), (b + 2, nozzleOk (byteAt c (b + 2))),
         (b + 3, within 1 255 (byteAt c (b + 3))), (b + 4, within 1000 2500 (u16At c (b + 4))),
         (b + 6, within 20 1000 (u16At c (b + 6))), (b + 10, within 50 5000 (u16At c (b + 10))),
         (b + 12, u32At c (b + 12) == 0)]

/-- The RANGE tests of an element descriptor at an offset (R23). -/
def rangeElement (c : List Byte) (b : Nat) : List (Nat × Bool) :=
  [(b + 1, within 0 63 (byteAt c (b + 1))), (b + 2, within 0 7 (byteAt c (b + 2))), (b + 3, byteAt c (b + 3) == 0),
   (b + 4, decide (-2000 ≤ i16At c (b + 4) ∧ i16At c (b + 4) ≤ 2000)), (b + 6, within 0 1023 (u16At c (b + 6))),
   (b + 8, within 1 65535 (u16At c (b + 8))), (b + 10, within 0 32767 (u16At c (b + 10))),
   (b + 12, decide (-32767 ≤ i16At c (b + 12))), (b + 14, u16At c (b + 14) == 0)]

/-- The RANGE tests of a beam group at an offset (R23). -/
def rangeGroup (c : List Byte) (b : Nat) : List (Nat × Bool) :=
  [(b + 2, within 1 15 (byteAt c (b + 2))), (b + 3, within 1 31 (byteAt c (b + 3))),
   (b + 4, within 1 31 (byteAt c (b + 4))), (b + 5, byteAt c (b + 5) == 0), (b + 6, within 1 1000 (u16At c (b + 6))),
   (b + 8, within 10 10000 (u16At c (b + 8))), (b + 10, u16At c (b + 10) == 0)]

/-- The RANGE tests of a nozzle descriptor at an offset: its fields other than `defined` only when defined is yes, its
reserved bytes always (R23, R188). DEDUCED: log entry 15. -/
def rangeNozzle (c : List Byte) (b : Nat) : List (Nat × Bool) :=
  (b, within 0 1 (byteAt c b)) ::
    ((if byteAt c b = 1 then
        [(b + 1, within 0 2 (byteAt c (b + 1))), (b + 2, within 1 255 (byteAt c (b + 2))),
         (b + 4, decide (-30000 ≤ i16At c (b + 4) ∧ i16At c (b + 4) ≤ 30000))]
      else []) ++ [(b + 6, u16At c (b + 6) == 0)])

/-- The RANGE tests of a class rule at an offset (R23). -/
def rangeRule (c : List Byte) (b : Nat) : List (Nat × Bool) :=
  [(b + 6, within 0 1 (byteAt c (b + 6))), (b + 7, within 0 2 (byteAt c (b + 7))),
   (b + 8, within 0 10485 (u16At c (b + 8))), (b + 10, within 0 10485 (u16At c (b + 10))),
   (b + 12, decide (1 ≤ u32At c (b + 12))), (b + 16, decide (1 ≤ u32At c (b + 16))),
   (b + 21, within 1 254 (byteAt c (b + 21))), (b + 22, within 0 3 (byteAt c (b + 22))),
   (b + 23, nozzleOk (byteAt c (b + 23))), (b + 24, within 0 1000 (u16At c (b + 24))),
   (b + 26, within 0 1000 (u16At c (b + 26))), (b + 28, u32At c (b + 28) == 0)]

/-- The RANGE tests of a gate: its mode only when its role is FLAW (R23). -/
def rangeGate (c : List Byte) (g : GateDesc) : List (Nat × Bool) :=
  let b := g.offset
  [(b, within 0 2 (byteAt c b)), (b + 1, byteAt c b != 0 || within 0 1 (byteAt c (b + 1))),
   (b + 2, within 1 254 (byteAt c (b + 2))), (b + 3, byteAt c (b + 3) == 0),
   (b + 4, within 0 16382 (u16At c (b + 4))), (b + 6, within 1 16383 (u16At c (b + 6)))]

/-- The RANGE tests of a firing (R23). -/
def rangeFiring (c : List Byte) (f : FiringDesc) : List (Nat × Bool) :=
  [(f.offset, within 0 11 f.element), (f.offset + 1, within 0 3 f.channel), (f.offset + 3, byteAt c (f.offset + 3) == 0)]
    ++ f.gates.flatMap (rangeGate c)

/-- The RANGE tests of a shot (R23). -/
def rangeShot (c : List Byte) (s : ShotDesc) : List (Nat × Bool) :=
  [(s.offset, within 256 16383 s.listen), (s.offset + 3, byteAt c (s.offset + 3) == 0)]
    ++ s.firings.flatMap (rangeFiring c)

/-- All shots of a plan, rail A's and then rail B's. -/
def Plan.allShots (c : List Byte) : List ShotDesc := (Plan.shotsA c).1 ++ (Plan.shotsB c).1

/-- The RANGE check (R23): its tests in ascending order of offset. -/
def rangeTests (c : List Byte) : List (Nat × Bool) :=
  rangeHeader c ++ ((List.range 24).flatMap fun i => rangeElement c (64 + 16 * i))
    ++ ((List.range 16).flatMap fun i => rangeGroup c (448 + 12 * i))
    ++ ((List.range 8).flatMap fun i => rangeNozzle c (640 + 8 * i))
    ++ ((List.range (Plan.ruleCount c)).flatMap fun j => rangeRule c (Plan.ruleBase j))
    ++ (Plan.allShots c).flatMap (rangeShot c)

/-- GROUP_UNDEFINED (R24). -/
def groupTests (c : List Byte) : List (Nat × Bool) :=
  (List.range 24).map fun i => (64 + 16 * i, decide (byteAt c (64 + 16 * i) ≤ 7))

/-- The firings of a shot, each with whether an earlier one shares its channel or its element. -/
def conflictTests : List FiringDesc → List FiringDesc → List (Nat × Bool)
  | _, [] => []
  | before, f :: rest =>
    (f.offset, !before.any fun e => e.channel == f.channel || e.element == f.element)
      :: conflictTests (before ++ [f]) rest

/-- GATE_WINDOW (R24). -/
def windowTests (s : ShotDesc) : List (Nat × Bool) :=
  s.firings.flatMap fun f => f.gates.map fun g => (g.offset, decide (g.start + g.length ≤ s.listen))

/-- The number of a firing's gates of a role. -/
def FiringDesc.countRole (f : FiringDesc) (role : GateRole) : Nat := (f.gates.filter fun g => g.role == role).length

/-- GATE_ROLE (R25). -/
def roleTests (s : ShotDesc) : List (Nat × Bool) :=
  s.firings.map fun f => (f.offset, decide (f.countRole .coupling ≤ 1 ∧ f.countRole .backwall ≤ 1
    ∧ (f.countRole .backwall = 0 ∨ f.countRole .coupling = 1)))

/-- FACTOR (R25). -/
def factorTests (c : List Byte) : List (Nat × Bool) :=
  [Rail.A, Rail.B].flatMap fun r => (List.range 12).map fun e =>
    (Plan.elementBase r e, !Plan.hasGate c r e .flaw || (Plan.element c r e).depthFactor != 0
      || (Plan.element c r e).alongFactor != 0)

/-- CLASS_RULE (R26). -/
def classTests (c : List Byte) : List (Nat × Bool) :=
  (List.range (Plan.ruleCount c)).map fun j =>
    let q := Plan.rule c j
    (Plan.ruleBase j, decide (q.depthMin ≤ q.depthMax ∧ q.lengthMin ≤ q.lengthMax))

/-- The rails a rail filter admits. -/
def RailFilter.admits : RailFilter → Rail → Bool
  | .a, r => r == .A
  | .b, r => r == .B
  | .both, _ => true

/-- A nozzle that is named is defined for the rail. -/
def namedDefined (c : List Byte) (r : Rail) : Option Nat → Bool
  | none => true
  | some j => (Plan.nozzle c r j).isSome

/-- NOZZLE (R26): the rail settings first, then the rules. -/
def nozzleTests (c : List Byte) : List (Nat × Bool) :=
  ([Rail.A, Rail.B].map fun r => (Plan.railBase r, namedDefined c r (Plan.defaultNozzle c r)))
    ++ (List.range (Plan.ruleCount c)).map fun j =>
      let q := Plan.rule c j
      (Plan.ruleBase j, [Rail.A, Rail.B].all fun r => !q.filter.admits r || namedDefined c r q.nozzle)

/-- The checks of R21 after BAD_LAYOUT, in order. -/
def laterChecks (c : List Byte) : List (PlanFaultCode × List (Nat × Bool)) :=
  [(.range, rangeTests c), (.groupUndefined, groupTests c),
   (.channelConflict, (Plan.allShots c).flatMap fun s => conflictTests [] s.firings),
   (.gateWindow, (Plan.allShots c).flatMap windowTests), (.gateRole, (Plan.allShots c).flatMap roleTests),
   (.noShots, [(13, byteAt c 13 != 0), (14, byteAt c 14 != 0)]), (.factor, factorTests c),
   (.classRule, classTests c), (.nozzle, nozzleTests c)]

/-- The first check that fails, with the offset of its first fault. -/
def firstFault : List (PlanFaultCode × List (Nat × Bool)) → PlanFaultCode × Nat
  | [] => (.none, 0)
  | (code, tests) :: rest =>
    match firstBad tests with
    | some o => (code, o)
    | none => firstFault rest

/-- Validation of a plan read with the given length (R21): the fault code and offset. -/
def validate (c : List Byte) (len : Nat) : PlanFaultCode × Nat :=
  match layoutFault c len with
  | some o => (.badLayout, o)
  | none => firstFault (laterChecks c)

/-- A length that is a BAD_LAYOUT fault before anything is read (R20). -/
def lengthFault (len : Nat) : Bool := len < Config.planHeaderBytes || Config.maxPlanBytes < len

/-! ## The Context Block (R162, R182) -/

/-- The fields of the Context Block that are fixed for a binding. -/
structure ContextFields where
  version : Nat
  settings : PositionSettings
  base : Nat
  slotCount : Nat
  startIndex : Nat
  firstSeq : Nat
  reserve : Nat
  threshold : Nat
  cabLevel : Nat
  scanInterval : Nat
  consumers : List Consumer
deriving DecidableEq, Repr

/-- A value clamped to a range. -/
def clampNat (lo hi n : Nat) : Nat := if n < lo then lo else if hi < n then hi else n

/-- The position settings, clamped or replaced as R162 states. -/
def readSettings (c : List Byte) : PositionSettings :=
  { q := clampNat 256 1048576 (u32At c 4),
    mode := if byteAt c 8 = 1 then .edge2 else if byteAt c 8 = 2 then .edge1 else .edge4,
    filterTime := byteAt c 9, rv := clampNat 1 255 (byteAt c 10),
    markEdge := if byteAt c 11 = 1 then .falling else .rising }

/-- The fields of the Context Block as taken at BIND (R162, R188). -/
def readContext (c : List Byte) : ContextFields :=
  { version := u16At c 0, settings := readSettings c, base := u64At c 0x0C, slotCount := u32At c 0x14,
    startIndex := u32At c 0x18, firstSeq := u32At c 0x1C, reserve := u16At c 0x20,
    threshold := clampNat 0 10 (byteAt c 0x22), cabLevel := clampNat 1 10 (byteAt c 0x23),
    scanInterval := u16At c 0x24,
    consumers := (List.range 8).map fun i =>
      { enabled := byteAt c (0x28 + 4 * i) != 0, subscriptions := BitVec.ofNat 8 (byteAt c (0x29 + 4 * i)) } }

/-- A slot count that R162 admits: a power of two in 64..65,536. -/
def slotCountOk (n : Nat) : Bool := (List.range 11).any fun k => n == 64 * 2 ^ k

/-- The checks of R162 on the fields read, in order. -/
def bindChecks (f : ContextFields) : BindError :=
  if f.version ≠ 1 then .version
  else if f.base % 64 ≠ 0 then .align
  else if slotCountOk f.slotCount = false then .slots
  else if f.slotCount < 4 * f.reserve then .reserve
  else if f.scanInterval < 50 ∨ 5000 < f.scanInterval then .scan
  else .none

/-! ## Request Table entries (R163, R183) -/

/-- The entry of an index in the Request Table's 512 bytes. -/
def entryBytes (table : List Byte) (i : Nat) : List Byte := (table.drop (64 * i)).take 64

/-- The request of an entry whose state is POSTED (R163); any other state posts nothing (R164, R188). -/
def readEntry (table : List Byte) (i : Nat) : Option Request :=
  let e := entryBytes table i
  if byteAt e 0 = 1 then
    some { index := i, kind := byteAt e 1, tag := u16At e 2, params := (e.drop 8).take 32 }
  else none

end Sys2Proof.Machine
end

