-- ==== Sys2Proof/Machine/Ops.lean ====
section
/-! DEFINITION. The operations every block is written over: saturation and clamping, taking the first waiting item of
a path, and reading and changing one block of the state. -/

namespace Sys2Proof.Machine

/-! ## Numbers -/

/-- A count that saturates at 65,535 (R61). -/
def bump16 (n : Nat) : Nat := if n < Config.maxU16 then n + 1 else n

/-- A sum that saturates at 65,535. -/
def add16 (m n : Nat) : Nat := min Config.maxU16 (m + n)

/-- A sum that saturates at 4,294,967,295 (R44). -/
def add32 (m n : Nat) : Nat := min Config.maxU32 (m + n)

/-- A signed position clamped to 0..4,294,967,295 (R14, R74, R127, R140). -/
def clampPos (x : Int) : Nat := (max 0 (min x Config.maxU32)).toNat

/-- A signed position outside 0..4,294,967,295. -/
def offScale (x : Int) : Bool := decide (x < 0) || decide ((Config.maxU32 : Int) < x)

/-- The distance between two positions (00_scope.md, "Arithmetic"). -/
def dist (x y : Nat) : Nat := if x ≤ y then y - x else x - y

/-- A direction as a count mode or a projection sees it reversed (R10). -/
def Dir.flip : Dir → Dir
  | .unknown => .unknown
  | .increasing => .decreasing
  | .decreasing => .increasing

/-! ## Lists -/

/-- The first item that satisfies `f`, and the list without it. -/
def takeFirst {α : Type} (f : α → Bool) : List α → Option (α × List α)
  | [] => none
  | x :: xs =>
    if f x then some (x, xs)
    else
      match takeFirst f xs with
      | none => none
      | some (y, ys) => some (y, x :: ys)

/-- A nozzle has a SPRAYING entry in a marker queue (R136). -/
def sprays (queue : List MarkEntry) (j : Nat) : Bool := queue.any fun e => e.nozzle == j && e.state == .spraying

/-- The items of a list with their places. -/
def indexed {α : Type} (xs : List α) : List (Nat × α) := (List.range xs.length).zip xs

/-! ## The two rails -/

/-- The value of a rail. -/
def Both.get {α : Type} (x : Both α) : Rail → α
  | .A => x.a
  | .B => x.b

/-- The value of one rail replaced. -/
def Both.set {α : Type} (x : Both α) (r : Rail) (v : α) : Both α :=
  match r with
  | .A => { x with a := v }
  | .B => { x with b := v }

/-- The value of one rail changed. -/
def Both.modify {α : Type} (x : Both α) (r : Rail) (f : α → α) : Both α := x.set r (f (x.get r))

/-! ## One block of the state -/

/-- The blocks of a rail. -/
def State.rail (s : State) (r : Rail) : RailBlocks := s.rails.get r

/-- Change the blocks of a rail. -/
def State.modRail (s : State) (r : Rail) (f : RailBlocks → RailBlocks) : State :=
  { s with rails := s.rails.modify r f }

/-- Change a Sweep Sequencer. -/
def State.modSeq (s : State) (r : Rail) (f : Sequencer → Sequencer) : State :=
  s.modRail r fun x => { x with seq := f x.seq }

/-- Change a Link Controller. -/
def State.modLink (s : State) (r : Rail) (f : Link → Link) : State := s.modRail r fun x => { x with link := f x.link }

/-- Change an Echo Evaluator. -/
def State.modEval (s : State) (r : Rail) (f : Evaluator → Evaluator) : State :=
  s.modRail r fun x => { x with eval := f x.eval }

/-- Replace the shot in flight of a rail. -/
def State.setShot (s : State) (r : Rail) (shot : Option Shot) : State := s.modRail r fun x => { x with shot := shot }

/-- Change a Track Correlator. -/
def State.modTrk (s : State) (r : Rail) (f : Tracker → Tracker) : State := s.modRail r fun x => { x with trk := f x.trk }

/-- Change an Indication Assembler. -/
def State.modAsm (s : State) (r : Rail) (f : Assembler → Assembler) : State :=
  s.modRail r fun x => { x with asm := f x.asm }

/-- Change a Marker Controller. -/
def State.modMrk (s : State) (r : Rail) (f : Marker → Marker) : State := s.modRail r fun x => { x with mrk := f x.mrk }

/-- Change the Position Unit. -/
def State.modPos (s : State) (f : PositionUnit → PositionUnit) : State := { s with pos := f s.pos }

/-- Change the Plan Store. -/
def State.modPlans (s : State) (f : PlanStore → PlanStore) : State := { s with plans := f s.plans }

/-- Change the Coupling Monitor. -/
def State.modCoupling (s : State) (f : CouplingMonitor → CouplingMonitor) : State :=
  { s with coupling := f s.coupling }

/-- Change the Alarm Unit. -/
def State.modAlarm (s : State) (f : AlarmUnit → AlarmUnit) : State := { s with alarm := f s.alarm }

/-- Change the Request Handler. -/
def State.modReq (s : State) (f : RequestHandler → RequestHandler) : State := { s with req := f s.req }

/-- Change the Journal Writer. -/
def State.modJrn (s : State) (f : JournalWriter → JournalWriter) : State := { s with jrn := f s.jrn }

/-- Change the Bus Interface. -/
def State.modBus (s : State) (f : BusInterface → BusInterface) : State := { s with bus := f s.bus }

/-- Change the survey counters of a rail (R61). -/
def State.count (s : State) (r : Rail) (f : SurveyCounters → SurveyCounters) : State :=
  s.modSeq r fun q => { q with counters := f q.counters }

/-- Do the same for rail A and then rail B. -/
def State.bothRails (s : State) (f : Rail → State → State) : State := f .B (f .A s)

/-! ## The plan in force (R19, R44) -/

/-- A plan is in force: the ACTIVE bank is VALID. -/
def State.inForce (s : State) : Bool := s.plans.active.state == .valid

/-- The bytes of the ACTIVE bank, which every block reads (R19, R29). -/
def State.plan (s : State) : List Byte := s.plans.active.contents

/-- The device is in a state in which the Request Table is scanned (R164). -/
def OpState.scans : OpState → Bool
  | .bound => true
  | .active => true
  | .faulted => true
  | .unbound => false
  | .locked => false

end Sys2Proof.Machine
end

