-- ==== Sys2Proof/Machine/Flags.lean ====
section
/-! DEFINITION. Flags: the flags byte of tracks, entries and indications (R180), the attention causes (R160), what
the alarm sources are (R146), and the figures formed from them: the alarm level, the top source and CAB_ALARM
(R152). -/

namespace Sys2Proof.Machine

/-! ## Flags of tracks, entries and indications (R180) -/

/-- EDGE. -/
def flagEdge : BitVec 8 := 0x01

/-- INTERRUPTED. -/
def flagInterrupted : BitVec 8 := 0x02

/-- LONG. -/
def flagLong : BitVec 8 := 0x04

/-- CUT. -/
def flagCut : BitVec 8 := 0x08

/-- REVERSAL. -/
def flagReversal : BitVec 8 := 0x10

/-- FLUSHED. -/
def flagFlushed : BitVec 8 := 0x20

/-- TRUNCATED. -/
def flagTruncated : BitVec 8 := 0x40

/-- EARLY. -/
def flagEarly : BitVec 8 := 0x80

/-- The flag is set. -/
def hasFlag (flags flag : BitVec 8) : Bool := flags &&& flag != 0

/-- The set holding one element (R91, R95); an upset can leave a number above 11, and one above 15 gives no bit.
DESIGN CHOICE: log entry 104. -/
def elementBit (e : Nat) : BitVec 16 := BitVec.ofNat 16 (2 ^ e)

/-- The set holding one beam group (R113); a code above 7, which only an upset leaves, gives no bit.
DESIGN CHOICE: log entry 103. -/
def groupBit (g : Nat) : BitVec 8 := BitVec.ofNat 8 (2 ^ g)

/-! ## Attention bits (R160, R181) -/

/-- One of the four bits. -/
def AttnBits.get (b : AttnBits) : AttnCause → Bool
  | .journal => b.journal
  | .request => b.request
  | .alarm => b.alarm
  | .state => b.state

/-- One of the four bits replaced. -/
def AttnBits.put (b : AttnBits) (c : AttnCause) (v : Bool) : AttnBits :=
  match c with
  | .journal => { b with journal := v }
  | .request => { b with request := v }
  | .alarm => { b with alarm := v }
  | .state => { b with state := v }

/-- The four enables of a value written to CONTROL (R181). -/
def enablesOf (v : Word) : AttnBits :=
  { journal := v.getLsbD 8, request := v.getLsbD 9, alarm := v.getLsbD 10, state := v.getLsbD 11 }

/-- The causes left by a value written to ATTENTION: each written as 1 is cleared (R160). -/
def AttnBits.clearedBy (b : AttnBits) (v : Word) : AttnBits :=
  { journal := b.journal && !v.getLsbD 0, request := b.request && !v.getLsbD 1, alarm := b.alarm && !v.getLsbD 2,
    state := b.state && !v.getLsbD 3 }

/-! ## Alarm sources (R146) -/

/-- The id of a source. -/
def Source.id : Source → Nat
  | .couplingLoss => 0
  | .overspeed => 1
  | .trackTableFull => 2
  | .assemblyFull => 3
  | .severeIndication => 4
  | .markerUnmarked => 5
  | .journalLoss => 6
  | .tachDegraded => 7
  | .frontEndWarning => 8
  | .positionLimit => 9
  | .linkDown => 10
  | .spare => 11
  | .planFault => 12
  | .tachFault => 13
  | .contextFault => 14

/-- All sources, in id order. -/
def Source.all : List Source :=
  [.couplingLoss, .overspeed, .trackTableFull, .assemblyFull, .severeIndication, .markerUnmarked, .journalLoss,
   .tachDegraded, .frontEndWarning, .positionLimit, .linkDown, .spare, .planFault, .tachFault, .contextFault]

/-- The source has a lasting condition. -/
def Source.isCondition : Source → Bool
  | .couplingLoss => true
  | .tachDegraded => true
  | .positionLimit => true
  | .linkDown => true
  | .tachFault => true
  | .overspeed => false
  | .trackTableFull => false
  | .assemblyFull => false
  | .severeIndication => false
  | .markerUnmarked => false
  | .journalLoss => false
  | .frontEndWarning => false
  | .spare => false
  | .planFault => false
  | .contextFault => false

/-- The source is one of the three faults. -/
def Source.isFault (src : Source) : Bool := decide (12 ≤ src.id)

/-- The record of a source. -/
def AlarmUnit.source (a : AlarmUnit) (src : Source) : SourceRecord := a.sources.getD src.id (.cleared 0)

/-- Change the record of a source. -/
def AlarmUnit.modSource (a : AlarmUnit) (src : Source) (f : SourceRecord → SourceRecord) : AlarmUnit :=
  { a with sources := a.sources.modify src.id f }

/-- The level a source adds to the alarm level: its own while it is PENDING, else 0. -/
def SourceRecord.contribution (x : SourceRecord) : Nat := if x.state = .pending then x.level else 0

/-- The alarm level (R152): the highest level among the PENDING sources, 0 when none is PENDING.
DEDUCED: log entry 43. -/
def AlarmUnit.alarmLevel (a : AlarmUnit) : Nat := (a.sources.map SourceRecord.contribution).foldl max 0

/-- The top source (R152): the PENDING source at the alarm level with the lowest id. -/
def AlarmUnit.topSource (a : AlarmUnit) : Option Nat :=
  if a.alarmLevel = 0 then none
  else a.sources.findIdx? fun x => x.state == .pending && x.level == a.alarmLevel

/-- A fault of higher level than `src` is PENDING: the highest such (R157). -/
def AlarmUnit.higherFault (a : AlarmUnit) (src : Source) : Option Source :=
  [Source.contextFault, .tachFault, .planFault].find? fun f =>
    decide (src.id < f.id) && (a.source f).state == .pending

/-- Some fault is PENDING. -/
def AlarmUnit.faultPending (a : AlarmUnit) : Bool :=
  [Source.planFault, .tachFault, .contextFault].any fun f => (a.source f).state == .pending

/-- CAB_ALARM (R152): on at or above the cab level, off at a level of 0, and always on in LOCKED. -/
def State.cabAlarm (s : State) : Bool :=
  s.device == .locked || (decide (0 < s.alarm.alarmLevel) && decide (s.alarm.cabLevel ≤ s.alarm.alarmLevel))

/-- A nozzle output (R136): its position drive or a TEST drives it, and in LOCKED it is off. -/
def State.nozzleOn (s : State) (r : Rail) (j : Nat) : Bool :=
  let z := (s.rail r).mrk.nozzles.getD j .cleared
  s.device != .locked && (z.drive || z.test.isSome)

end Sys2Proof.Machine
end

