-- ==== Sys2Proof/Machine/Records.lean ====
section
/-! DEFINITION. What the part writes, byte by byte: the codes of its enumerated fields (R189), the journal records
(R185), the status area (R184), the FIRE frame (R52, R187), and the six registers as they read (R160, R181). -/

namespace Sys2Proof.Machine

/-! ## Codes (R189) -/

/-- Operating states. -/
def OpState.code : OpState → Nat
  | .unbound => 0
  | .bound => 1
  | .active => 2
  | .faulted => 3
  | .locked => 4

/-- Directions. -/
def Dir.code : Dir → Nat
  | .unknown => 0
  | .increasing => 1
  | .decreasing => 2

/-- Bank states. -/
def BankState.code : BankState → Nat
  | .empty => 0
  | .loading => 1
  | .valid => 2
  | .pending => 3

/-- Sequencer states. -/
def SeqState.code : SeqState → Nat
  | .off => 0
  | .lifted => 1
  | .linkDown => 2
  | .waiting => 3
  | .shot => 4

/-- Link states. -/
def LinkState.code : LinkState → Nat
  | .down => 0
  | .up => 1

/-- Coupling states. -/
def CouplingState.code : CouplingState → Nat
  | .unmonitored => 0
  | .unknown => 1
  | .coupled => 2
  | .doubtful => 3
  | .lost => 4
  | .lifted => 5

/-- COUPLING reasons. -/
def CouplingReason.code : CouplingReason → Nat
  | .restored => 0
  | .lifted => 1
  | .planSwitch => 2
  | .planEnded => 3

/-- Track states. -/
def TrackState.code : TrackState → Nat
  | .tentative => 0
  | .confirmed => 1

/-- DROPPED_TRACK reasons. -/
def DropReason.code : DropReason → Nat
  | .unconfirmed => 0
  | .evicted => 1
  | .long => 2
  | .cut => 3
  | .reversal => 4
  | .flushed => 5
  | .planEnded => 6

/-- DROPPED_TRACK causes. -/
def DropCause.code : DropCause → Nat
  | .preset => 0
  | .reversal => 1
  | .tachFault => 2
  | .switch => 3
  | .stop => 4
  | .flush => 5
  | .planEnded => 6

/-- Flush causes, in the order in which FLUSH finalizations are coded. -/
def FlushCause.code : FlushCause → Nat
  | .reversal => 0
  | .tachFault => 1
  | .switch => 2
  | .stop => 3
  | .flush => 4

/-- Finalization causes. -/
def FinalCause.code : FinalCause → Nat
  | .horizon => 0
  | .early => 1
  | .planEnded => 2
  | .flush c => 3 + c.code

/-- Marker statuses. -/
def MarkerStatus.code : MarkerStatus → Nat
  | .notRequired => 0
  | .queued => 1
  | .merged => 2
  | .late => 3
  | .queueFull => 4
  | .reversal => 5
  | .stopped => 6
  | .noPosition => 7

/-- Reasons of UNMARKED. -/
def UnmarkedReason.code : UnmarkedReason → Nat
  | .late => 0
  | .queueFull => 1
  | .reversal => 2
  | .tachFault => 3
  | .stopped => 4
  | .planSwitch => 5
  | .planEnded => 6
  | .presetLimit => 7
  | .locked => 8

/-- Source states. -/
def SourceState.code : SourceState → Nat
  | .idle => 0
  | .pending => 1
  | .acknowledged => 2

/-- Alarm actions. -/
def AlarmAction.code : AlarmAction → Nat
  | .raised => 0
  | .suppressed => 1
  | .acknowledged => 2
  | .cleared => 3

/-- CONTEXT_FAULT blocks. -/
def ContextBlockName.code : ContextBlockName → Nat
  | .planStore => 0
  | .requestHandler => 1
  | .journalWriter => 2
  | .busInterface => 3

/-- Record kinds, from 1. -/
def RecordKind.code : RecordKind → Nat
  | .indication => 1
  | .alarm => 2
  | .gap => 3
  | .mark => 4
  | .marker => 5
  | .coupling => 6
  | .survey => 7
  | .droppedTrack => 8

/-- Request states. -/
def ReqState.code : ReqState → Nat
  | .empty => 0
  | .posted => 1
  | .taken => 2
  | .done => 3
  | .refused => 4

/-- Result codes. -/
def ResultCode.code : ResultCode → Nat
  | .ok => 0
  | .unknownKind => 1
  | .badParameter => 2
  | .busy => 3
  | .notActive => 4
  | .planInvalid => 5
  | .hostMemory => 6
  | .cancelled => 7
  | .stillPresent => 8
  | .notInPlan => 9
  | .notSuppressing => 10
  | .noCleanFiring => 11

/-- bind_error values. -/
def BindError.code : BindError → Nat
  | .none => 0
  | .hostMemory => 1
  | .version => 2
  | .align => 3
  | .slots => 4
  | .reserve => 5
  | .scan => 6

/-- Plan fault codes. -/
def PlanFaultCode.code : PlanFaultCode → Nat
  | .none => 0
  | .badLayout => 1
  | .range => 2
  | .groupUndefined => 3
  | .channelConflict => 4
  | .gateWindow => 5
  | .gateRole => 6
  | .noShots => 7
  | .factor => 8
  | .classRule => 9
  | .nozzle => 10

/-- A rail mask, rail A in bit 0 and rail B in bit 1: R184 says so of the snapshots in flight, and the LINK_DOWN mask
(R184, R185) is laid out alike. DEDUCED: log entry 115. -/
def maskCode (a b : Bool) : Nat := (if a then 1 else 0) + (if b then 2 else 0)

/-! ## What a record is (R170) -/

/-- The kind of a record. -/
def Rec.kind : Rec → RecordKind
  | .indication _ => .indication
  | .alarm _ => .alarm
  | .gap _ => .gap
  | .mark _ => .mark
  | .marker _ => .marker
  | .coupling _ => .coupling
  | .survey _ => .survey
  | .dropped _ => .droppedTrack

/-- The flow class: ESSENTIAL or, for the last three kinds, ROUTINE (R170). -/
def RecordKind.essential : RecordKind → Bool
  | .indication => true
  | .alarm => true
  | .gap => true
  | .mark => true
  | .marker => true
  | .coupling => false
  | .survey => false
  | .droppedTrack => false

/-- The slots a record occupies (R128, R170). -/
def Rec.slotCount : Rec → Nat
  | .indication x => 1 + (x.entry.contributors.length + 2) / 3
  | .alarm _ => 1
  | .gap _ => 1
  | .mark _ => 1
  | .marker _ => 1
  | .coupling _ => 1
  | .survey _ => 1
  | .dropped _ => 1

/-! ## Slot bodies (R185) -/

/-- The byte "group and kind" (R185); a group code above 7, which only an upset leaves, shows its low three bits.
DESIGN CHOICE: log entry 103. -/
def groupKind (group : Nat) (kind : TrackKind) : List Byte :=
  le8 (group % 8 + match kind with | .reflector => 0 | .drop => 128)

/-- A contributor place, 18 bytes (R128, R185); of an extent beyond 65,535 mm, which only an upset of Lmax leaves, the low
16 bits. DESIGN CHOICE: log entry 112. -/
def contributorPlace (c : Contributor) : List Byte :=
  groupKind c.group c.kind ++ [c.flags] ++ le16 c.elementMask.toNat ++ le32 c.xMin ++ le16 (c.xMax - c.xMin)
    ++ leDepth c.dMin ++ leDepth c.dMax ++ le8 c.peak ++ [0] ++ le16 c.hitCount

/-- The first slot's body of an INDICATION. -/
def indicationBody (x : IndicationRecord) : List Byte :=
  le8 (Rail.idx x.rail) ++ le8 x.status.code ++ le8 x.cls.cls ++ leOpt8 x.cls.rule ++ le8 x.cls.severity
    ++ leOpt8 x.cls.nozzle ++ le8 x.cause.code ++ le8 x.dir.code ++ le32 x.number ++ le32 x.planId
    ++ le32OrZero (x.interval.map Prod.fst) ++ le32OrZero (x.interval.map Prod.snd) ++ le32 x.entry.xMin
    ++ le32 x.entry.xMax ++ leDepth x.entry.dMin ++ leDepth x.entry.dMax ++ le8 x.entry.peak ++ [x.entry.groups]
    ++ [x.entry.flags] ++ le8 x.entry.contributors.length ++ le32 x.entry.total ++ le32 x.entry.tJoin
    ++ le32 x.tFinal ++ le32 x.pFinal

/-- The further slots' bodies of an INDICATION: three contributor places each, `n` slots. -/
def indicationFurther : Nat → List Contributor → List (List Byte)
  | 0, _ => []
  | n + 1, cs => (cs.take 3).flatMap contributorPlace :: indicationFurther n (cs.drop 3)

/-- An ALARM detail, from slot offset 28. -/
def detailBytes : Detail → List Byte
  | .element r e lostAt => le8 (Rail.idx r) ++ le8 e ++ [0, 0] ++ le32 lostAt
  | .rail r => le8 (Rail.idx r)
  | .indication r number cls => le8 (Rail.idx r) ++ le8 cls ++ [0, 0] ++ le32 number
  | .unmarked r j reason origin => le8 (Rail.idx r) ++ le8 j ++ le8 reason.code ++ [0] ++ le32 origin
  | .loss kind n p => le8 kind.code ++ [0] ++ le16 n ++ le32 p
  | .score v => le8 v
  | .status r flags => le8 (Rail.idx r) ++ [flags]
  | .position p => le32 p
  | .mask a b => le8 (maskCode a b)
  | .block name => le8 name.code

/-- The body of an ALARM. -/
def alarmBody (x : AlarmRecord) : List Byte :=
  le8 x.source.id ++ le8 x.action.code ++ le8 x.state.code ++ le8 x.level ++ leBool x.conflict ++ le8 x.device.code
    ++ le8 x.alarmLevel ++ leOpt8 x.topSource ++ le16 x.raiseCount ++ le16 x.suppression ++ le32 x.p ++ le32 x.t
    ++ (x.detail.map detailBytes).getD []

/-- The body of a GAP. -/
def gapBody (x : GapRecord) : List Byte := x.counts.flatMap le16 ++ le32 x.firstP ++ le32 x.lastP ++ le32 x.t

/-- The body of a MARK. -/
def markBody (x : MarkRecord) : List Byte :=
  leBool x.before.isSome ++ le8 x.dir.code ++ [0, 0] ++ le32 x.p ++ le32 x.t ++ le32OrZero x.before

/-- The body of a MARKER. -/
def markerBody (x : MarkerRecord) : List Byte :=
  le8 (Rail.idx x.rail) ++ le8 x.nozzle ++ leBool x.reason.isSome ++ leOpt8 (x.reason.map UnmarkedReason.code)
    ++ leBool x.broken ++ le8 x.dir.code ++ le8 x.origins.length ++ [0] ++ le16 x.originTotal ++ [0, 0] ++ le32 x.xStart
    ++ le32 x.xEnd ++ fitBytes 16 (x.origins.flatMap le32) ++ le32 x.p ++ le32 x.t

/-- The body of a COUPLING, its group byte the whole code. DESIGN CHOICE: log entry 103. -/
def couplingBody (x : CouplingRecord) : List Byte :=
  le8 (Rail.idx x.rail) ++ le8 x.element ++ le8 x.group ++ le8 x.reason.code ++ le32 x.lostAt
    ++ le32OrZero x.restoredAt ++ le32OrZero x.untested ++ le32OrZero x.endP

/-- Coupling states, four bits each, two to a byte. -/
def packStates : List CouplingState → List Byte
  | [] => []
  | [x] => le8 x.code
  | x :: y :: rest => le8 (x.code + 16 * y.code) ++ packStates rest

/-- The ten counters of a Sequencer in the order of a SURVEY. -/
def SurveyCounters.toList (k : SurveyCounters) : List Nat :=
  [k.sweeps, k.truncated, k.skipped, k.untested, k.abandoned, k.damaged, k.missingEnds, k.crcErrors, k.stray, k.reversals]

/-- The body of a SURVEY. -/
def surveyBody (x : SurveyRecord) : List Byte :=
  le8 (Rail.idx x.rail) ++ le8 x.seqState.code ++ le8 x.linkState.code ++ [0] ++ le32 x.t ++ le32 x.p ++ le32 x.planId
    ++ (x.counters.toList ++ [x.wedge, x.beyond, x.hitsSuppressed, x.hitsLost]).flatMap le16 ++ packStates x.coupling

/-- The body of a DROPPED_TRACK. -/
def droppedBody (x : DroppedRecord) : List Byte :=
  le8 (Rail.idx x.rail) ++ le8 x.index ++ le8 x.reason.code ++ leOpt8 (x.cause.map DropCause.code)
    ++ le8 x.track.state.code ++ groupKind x.track.group x.track.kind ++ [x.track.flags] ++ leBool x.track.saturated
    ++ le32 x.track.xMin ++ le32 x.track.xMax ++ le32 x.track.peakX ++ leDepth x.track.dMin ++ leDepth x.track.dMax
    ++ leDepth x.track.dRef ++ le8 x.track.peak ++ [0] ++ le16 x.track.hitCount ++ le16 x.track.elementMask.toNat
    ++ le32 x.track.tFirst ++ le32 x.track.tLast ++ le32 x.tClose

/-- The bodies of a record's slots, each filled to 56 bytes with zeros (R180). -/
def Rec.bodies (x : Rec) : List (List Byte) :=
  (match x with
    | .indication y => indicationBody y :: indicationFurther (x.slotCount - 1) y.entry.contributors
    | .alarm y => [alarmBody y]
    | .gap y => [gapBody y]
    | .mark y => [markBody y]
    | .marker y => [markerBody y]
    | .coupling y => [couplingBody y]
    | .survey y => [surveyBody y]
    | .dropped y => [droppedBody y]).map (fitBytes 56)

/-! ## Readers and headers (R171, R173) -/

/-- The reader mask of a record of a kind: the enabled consumers subscribed to it, and for GAP every enabled one. -/
def readerMask (consumers : List Consumer) (kind : RecordKind) : Byte :=
  BitVec.ofNat 8 <| (indexed consumers).foldl
    (fun m x => if x.2.enabled && (kind == .gap || x.2.subscriptions.getLsbD (kind.code - 1)) then m + 2 ^ x.1 else m) 0

/-- The role of slot `i` of a record of `n` slots: ONLY, FIRST, MIDDLE or LAST. -/
def slotRole (n i : Nat) : Nat := if n = 1 then 0 else if i = 0 then 1 else if i + 1 = n then 3 else 2

/-- A slot header. -/
def slotHeader (mask : Byte) (kind : RecordKind) (n i : Nat) (seq : BitVec 32) : List Byte :=
  [mask] ++ le8 kind.code ++ le8 (slotRole n i) ++ le8 n ++ le32 seq.toNat

/-! ## The FIRE frame (R52, R187) -/

/-- The FIRE frame of a shot. A shot that an upset gave more than four firings shows their count, and its first four.
DESIGN CHOICE: log entry 82. -/
def fireFrame (x : Shot) : List Byte :=
  withCrc (le8 1 ++ [x.seq] ++ le8 x.index ++ le8 x.firings.length ++ le16 x.listen
    ++ fitBytes 16 (x.firings.flatMap fun f => le8 f.element ++ le8 f.channel ++ le8 f.desc.gain ++ le8 f.desc.energy))

/-! ## The status area (R169, R184) -/

/-- The 16 status bytes of a rail. -/
def railStatus (s : State) (r : Rail) : List Byte :=
  let x := s.rail r
  let tracks := x.trk.table.filterMap id
  le8 x.seq.state.code ++ leBool x.seq.held ++ le8 x.link.state.code ++ leInt8 x.eval.offset ++ le16 x.eval.wedge
    ++ le16 x.eval.beyond ++ le16 (s.coupling.suppressed.get r)
    ++ le8 (tracks.filter fun k => k.state == .tentative).length
    ++ le8 (tracks.filter fun k => k.state == .confirmed).length ++ le16 x.trk.lost ++ le8 x.asm.list.length
    ++ le8 x.mrk.queue.length

/-- The elements of both rails, A E0..E11 and then B E0..E11. -/
def CouplingMonitor.allElements (m : CouplingMonitor) : List ElementRecord := m.elements.a ++ m.elements.b

/-- Bits of the eight nozzles, those of rail A in bits 0..3. -/
def nozzleBits (f : Rail → Nat → Bool) : Nat :=
  ((List.range 4).map fun j => (if f .A j then 2 ^ j else 0) + (if f .B j then 2 ^ (4 + j) else 0)).sum

/-- An index is held as taken: its request is not completed, or a write of its entry is pending (R166). -/
def RequestHandler.holds (q : RequestHandler) (i : Nat) : Bool :=
  (q.taken.getD i none).isSome || (q.pendingWrites.getD i none).isSome

/-- Bits of a list of Booleans, the first in bit 0. -/
def bitsOf (bs : List Bool) : Nat := ((indexed bs).map fun x => if x.2 then 2 ^ x.1 else 0).sum

/-- Device and position, from 0x304. -/
def statusDevice (s : State) : List Byte :=
  le8 s.device.code ++ leOpt8 (s.alarm.remembered.map OpState.code) ++ leOpt8 (s.alarm.lockPair.map Prod.fst)
    ++ leOpt8 (s.alarm.lockPair.map Prod.snd) ++ le32 s.pos.p ++ le32 s.pos.t ++ le8 s.pos.dir.code
    ++ le8 s.pos.score ++ leBool s.pos.armed.isSome ++ le8 0 ++ le32OrZero (s.pos.armed.map ArmedPreset.value)

/-- The code of the pending activation: none, waiting, or reached. -/
def PendingActivation.code : Option PendingActivation → Nat
  | none => 0
  | some a => if a.reached then 2 else 1

/-- Plans, from 0x318. DESIGN CHOICE: log entry 25. -/
def statusPlans (s : State) : List Byte :=
  le8 s.plans.active.state.code ++ le8 s.plans.standby.state.code
    ++ le8 (PendingActivation.code s.plans.pendingActivation) ++ le8 ((s.plans.protocol.map SwitchProtocol.step).getD 0)
    ++ le32 s.plans.active.planId ++ le32 s.plans.standby.planId
    ++ le8 ((s.plans.stop.map StopInProgress.step).getD 0) ++ List.replicate 3 0

/-- Where the indices held as taken stand in the contents of the status area. -/
def heldOffset : Nat := 0x60

/-- Coupling, nozzles, snapshots, requests and the indication counter. -/
def statusCoupling (s : State) : List Byte :=
  (s.coupling.allElements.flatMap fun x => le8 x.state.code)
    ++ le8 (s.coupling.allElements.filter fun x => x.state == .lost).length ++ le8 (nozzleBits s.nozzleOn)
    ++ le8 (nozzleBits fun r j => ((s.rail r).mrk.nozzles.getD j .cleared).latched)
    ++ le8 (maskCode s.req.snapshot.a.isSome s.req.snapshot.b.isSome)
    ++ le8 (bitsOf ((List.range 8).map s.req.holds)) ++ List.replicate 3 0 ++ le32 s.indicationCounter

/-- The alarm fields. -/
def statusAlarm (s : State) : List Byte :=
  le8 s.alarm.alarmLevel ++ leOpt8 s.alarm.topSource ++ le8 (maskCode s.alarm.linkMask.a s.alarm.linkMask.b)
    ++ le8 0 ++ le16 s.alarm.suppression ++ le16 s.alarm.suppressedCount
    ++ le16 (bitsOf (s.alarm.sources.map SourceRecord.present)) ++ List.replicate 2 0
    ++ s.alarm.sources.flatMap fun x => le8 x.state.code ++ le8 x.level ++ le16 x.raiseCount

/-- The journal fields; the gap state is that of the GAP being written, and losses gathered behind it show once it is
written. DESIGN CHOICE: log entry 120. -/
def statusJournal (s : State) : List Byte :=
  le32 s.jrn.w ++ le32 s.jrn.nextSeq.toNat ++ le32 s.jrn.knownFree ++ le8 s.jrn.queue.length ++ leBool s.jrn.stopped
    ++ leBool s.jrn.gap.pending ++ le8 0 ++ s.jrn.gap.counts.flatMap le16

/-- The contents of the status area, from 0x304 to 0x3D3 (R184). -/
def statusContents (s : State) : List Byte :=
  statusDevice s ++ statusPlans s ++ railStatus s .A ++ railStatus s .B ++ statusCoupling s ++ statusAlarm s
    ++ statusJournal s

/-! ## The registers as they read (R160, R181) -/

/-- STATE: each field cut to its bits, so that a value an upset has left too large for its field touches no other.
DESIGN CHOICE: log entry 94. -/
def stateRegister (s : State) : Nat :=
  s.device.code % 2 ^ 3 + 2 ^ 4 * (s.bus.bindError.code % 2 ^ 4) + 2 ^ 8 * (s.alarm.alarmLevel % 2 ^ 4)
    + 2 ^ 12 * (s.alarm.topSource.getD 15 % 2 ^ 4) + 2 ^ 16 * ((s.alarm.lockPair.map Prod.fst).getD 15 % 2 ^ 4)
    + 2 ^ 20 * ((s.alarm.lockPair.map Prod.snd).getD 15 % 2 ^ 4)

/-- The value a register reads as. A read changes nothing, and the table has no row for it. -/
def readRegister (s : State) (offset : Nat) : Word :=
  if offset = 0x00 then BitVec.ofNat 32 (24 + 2 ^ 16 * 1)
  else if offset = 0x04 then
    BitVec.ofNat 32 (2 ^ 8 * bitsOf [s.bus.enables.journal, s.bus.enables.request, s.bus.enables.alarm,
      s.bus.enables.state])
  else if offset = 0x08 then BitVec.ofNat 32 (stateRegister s)
  else if offset = 0x0C then
    BitVec.ofNat 32 (bitsOf [s.bus.causes.journal, s.bus.causes.request, s.bus.causes.alarm, s.bus.causes.state])
  else if offset = 0x10 then s.bus.contextLo
  else if offset = 0x14 then s.bus.contextHi
  else 0

end Sys2Proof.Machine
end

