-- ==== Sys2Proof/Machine/Emit.lean ====
section
/-! DEFINITION. What a block hands on: records offered to the arbiter (R171), reports to the Alarm Unit (R147), host
memory writes and attention causes (R178, R179), entry writes of the Request Table (R166), and the rewrite of the
status area (R169). -/

namespace Sys2Proof.Machine

/-! ## Records and reports -/

/-- A producer builds a record only when an enabled consumer subscribes to its kind, and never in UNBOUND; what it
builds it presents to the arbiter behind what it has presented (R171, R172). -/
def State.offer (s : State) (who : Producer) (x : Rec) : State :=
  if s.device = .unbound ∨ readerMask s.jrn.consumers x.kind = 0 then s
  else s.modJrn fun j => { j with presented := j.presented ++ [(who, x)] }

/-- A raise or an end on the raiser's path to the Alarm Unit (R147, R148). -/
def State.report (s : State) (who : Raiser) (x : Report) : State :=
  s.modAlarm fun a => { a with reports := a.reports ++ [(who, x)] }

/-- A raise on the raiser's path. -/
def State.raiseReport (s : State) (who : Raiser) (src : Source) (d : Detail) : State := s.report who (.raise src d)

/-! ## The host link (R178, R179) -/

/-- Accesses and messages in the order they are issued. DESIGN CHOICE: log entry 11. -/
def State.issue (s : State) (xs : List BusAction) : State := s.modBus fun b => { b with trace := b.trace ++ xs }

/-- Set an attention cause: a cause that goes from clear to set while enabled sends one message (R178). -/
def State.setCause (s : State) (c : AttnCause) : State :=
  if s.bus.causes.get c then s
  else
    let s := s.modBus fun b => { b with causes := b.causes.put c true }
    if s.bus.enables.get c then s.issue [.message c] else s

/-- The trace with the actions at `start`, …, `start + n - 1` taken back. -/
def voidActions (start n : Nat) (trace : List BusAction) : List BusAction :=
  trace.take start ++ List.replicate (min n (trace.length - start)) .void ++ trace.drop (start + n)

/-! ## The status area (R169) -/

/-- The address of the status area. -/
def State.statusBase (s : State) : Nat := s.bus.context + 0x300

/-- The three accesses of a rewrite: the head, the contents and the tail. -/
def statusAccesses (s : State) : List BusAction :=
  let number := le32 s.req.rewrite.toNat
  [.write s.statusBase number, .write (s.statusBase + 4) (statusContents s), .write (s.statusBase + 0xD4) number]

/-- Rewrite the status area with the rewrite number raised by 1. -/
def State.rewriteStatus (s : State) : State :=
  let s := s.modReq fun q => { q with rewrite := q.rewrite + 1, statusIssued := s.bus.trace.length :: q.statusIssued }
  s.issue (statusAccesses s)

/-- A change of the operating state that no reset makes: the status area is rewritten, and the STATE cause set behind it
(R169, R178). DESIGN CHOICE: log entry 129. -/
def State.announce (s : State) : State := s.rewriteStatus.setCause .state

/-! ## Request Table entries (R163, R166) -/

/-- The address of an entry. -/
def State.entryAddress (s : State) (i : Nat) : Nat := s.bus.context + 0x100 + 64 * i

/-- The accesses of an entry write: the result code, the result words and the tag, and the state last; a write of
TAKEN writes the state alone. -/
def entryAccesses (address : Nat) (w : EntryWrite) : List BusAction :=
  let state : BusAction := .write address (le8 w.state.code)
  if w.state = .taken then [state]
  else
    [.write (address + 4) (le8 w.code.code ++ List.replicate 3 0), .write (address + 40) (fitBytes 16 w.words),
     .write (address + 2) (le16 w.tag), state]

/-- An entry write announces its result (R166): it joins those the REQUEST cause stands for, and sets the cause. -/
def State.announceEntry (s : State) (start stop : Nat) : State :=
  let set := s.bus.causes.request
  (s.modReq fun q => { q with announced := (if set then q.announced else []) ++ [(start, stop)] }).setCause .request

/-- Write an entry: its accesses are issued and, for DONE and REFUSED, the copy is forgotten and the REQUEST cause
set; a repeated write sets the cause whatever it writes. DEDUCED: log entry 50. -/
def State.issueEntry (s : State) (i : Nat) (w : EntryWrite) (repeated : Bool) : State :=
  let accesses := entryAccesses (s.entryAddress i) w
  let start := s.bus.trace.length
  let s := s.issue accesses
  let s := s.modReq fun q =>
    { q with pendingWrites := q.pendingWrites.set i none,
             issued := q.issued.set i (some { write := w, start := start, count := accesses.length }),
             taken := if w.state = .taken then q.taken else q.taken.set i none }
  if w.state ≠ .taken ∨ repeated then s.announceEntry start (start + accesses.length) else s

/-- An entry write that falls due: in LOCKED it is kept unwritten until a reset (R166). -/
def State.writeEntry (s : State) (i : Nat) (w : EntryWrite) : State :=
  if s.device = .locked then s.modReq fun q => { q with pendingWrites := q.pendingWrites.set i (some w) }
  else s.issueEntry i w false

/-- The tag of the request held at an index. -/
def State.tagOf (s : State) (i : Nat) : Nat := ((s.req.taken.getD i none).map Request.tag).getD 0

/-- A taken request completes (R166). -/
def State.complete (s : State) (i : Nat) (state : ReqState) (code : ResultCode) (words : List Byte) : State :=
  s.writeEntry i { state := state, code := code, words := words, tag := s.tagOf i }

/-- A request answered in the scan that took it (R165). -/
def State.answer (s : State) (q : Request) (state : ReqState) (code : ResultCode) (words : List Byte) : State :=
  s.writeEntry q.index { state := state, code := code, words := words, tag := q.tag }

/-- A request that its owner refuses in the scan that took it. -/
def State.refuse (s : State) (q : Request) (code : ResultCode) : State := s.answer q .refused code []

/-- A request that its owner answers DONE in the scan that took it. -/
def State.done (s : State) (q : Request) (words : List Byte) : State := s.answer q .done .ok words

/-- A request that takes time: it is written TAKEN, and the Request Handler keeps its copy. -/
def State.take (s : State) (q : Request) : State :=
  (s.modReq fun h => { h with taken := h.taken.set q.index (some q) }).writeEntry q.index
    { state := .taken, code := .ok, words := [], tag := q.tag }

end Sys2Proof.Machine
end

