-- ==== Sys2Proof/Machine/Journal.lean ====
section
/-! DEFINITION. The Journal Writer (chapter 10): the arbiter and the outbound queue, losses and the gap, the room
check, the writing of records into slots, errors of its accesses, and its stop and resume. -/

namespace Sys2Proof.Machine

/-! ## Losses (R176) -/

/-- A loss of a kind noted in a gap state at P. -/
def GapState.lose (g : GapState) (kind : RecordKind) (p : Nat) : GapState :=
  { pending := true, counts := g.counts.modify (kind.code - 1) bump16, firstP := if g.pending then g.firstP else p,
    lastP := p }

/-- A gap state with later losses added. DEDUCED: log entry 30. -/
def GapState.add (g late : GapState) : GapState :=
  if late.pending = false then g
  else if g.pending = false then late
  else { pending := true, counts := List.zipWith add16 g.counts late.counts, firstP := g.firstP, lastP := late.lastP }

/-- A GAP record is being written. -/
def WriterPhase.gapUnderWay : WriterPhase → Bool
  | .writingGap _ => true
  | .idle => false
  | .afresh => false
  | .retry => false
  | .failed => false
  | .writing => false

/-- The record is an ALARM record of JOURNAL_LOSS. -/
def Rec.isLossAlarm : Rec → Bool
  | .alarm x => x.source == .journalLoss
  | .indication _ => false
  | .gap _ => false
  | .mark _ => false
  | .marker _ => false
  | .coupling _ => false
  | .survey _ => false
  | .dropped _ => false

/-- A record is lost (R176): a loss while a GAP is being written belongs to a new gap. DEDUCED: log entry 61. -/
def State.loseRecord (s : State) (x : Rec) : State :=
  let late := s.jrn.phase.gapUnderWay
  let s := s.modJrn fun j =>
    if late then { j with gapLate := j.gapLate.lose x.kind s.pos.p } else { j with gap := j.gap.lose x.kind s.pos.p }
  let g := if late then s.jrn.gapLate else s.jrn.gap
  if x.kind.essential ∧ x.isLossAlarm = false then
    s.raiseReport .journalWriter .journalLoss (.loss x.kind (g.counts.getD (x.kind.code - 1) 0) s.pos.p)
  else s

/-! ## The arbiter and the queue (R172) -/

/-- The producers in the arbiter's order. -/
def Producer.order : List Producer :=
  [.alarmUnit, .assembler .A, .assembler .B, .positionUnit, .marker .A, .marker .B, .couplingMonitor, .tracker .A,
   .tracker .B, .sequencer .A, .sequencer .B]

/-- The producer whose record the arbiter takes next. -/
def JournalWriter.nextProducer (j : JournalWriter) : Option Producer :=
  Producer.order.find? fun who => j.presented.any fun x => x.1 == who

/-- The record at the head is taken, and so being written until it is complete or lost (R174). -/
def JournalWriter.headTaken (j : JournalWriter) : Bool := j.phase != .idle

/-- The newest ROUTINE record of the queue that is not being written. -/
def JournalWriter.newestRoutine (j : JournalWriter) : Option Nat :=
  ((indexed j.queue).filter fun x => !x.2.kind.essential && !(j.headTaken && x.1 == 0)).getLast?.map Prod.fst

/-- A record appended as the newest. DESIGN CHOICE: log entry 2. -/
def State.enqueue (s : State) (x : Rec) : State := s.modJrn fun j => { j with queue := j.queue ++ [x] }

/-- A record taken by the arbiter is placed or lost, by the first case that applies (R172). -/
def State.placeRecord (s : State) (x : Rec) : State :=
  if s.jrn.queue.length < Config.queueRecords then s.enqueue x
  else if x.kind.essential = false then s.loseRecord x
  else
    match s.jrn.newestRoutine with
    | none => s.loseRecord x
    | some i =>
      match s.jrn.queue[i]? with
      | none => s.loseRecord x
      | some old => ((s.modJrn fun j => { j with queue := j.queue.eraseIdx i }).loseRecord old).enqueue x

/-- RECORD_OFFER. -/
def execRecordOffer (s : State) : Host.Outcome State Fault Refusal :=
  .next <| match s.jrn.nextProducer with
  | none => s
  | some who =>
    match takeFirst (fun x => x.1 == who) s.jrn.presented with
    | none => s
    | some (x, rest) => (s.modJrn fun j => { j with presented := rest }).placeRecord x.2

/-! ## The room check (R174) -/

/-- The slots a record needs. -/
def JournalWriter.needed (j : JournalWriter) (x : Rec) : Nat :=
  x.slotCount + (if x.kind.essential then 0 else j.reserve) + (if j.gap.pending then 1 else 0)

/-- Masks read as zero, up to the first that is not. DESIGN CHOICE: log entry 48. -/
def zeroMasks (masks : List Byte) : Nat := (masks.takeWhile (· == 0)).length

/-- The known-free count after reading the masks of the slots behind it, as many as are needed. -/
def JournalWriter.freeAfter (j : JournalWriter) (need : Nat) (masks : List Byte) : Nat :=
  j.knownFree + zeroMasks (masks.take (need - j.knownFree))

/-- The record at the head is lost and leaves the queue. -/
def State.shedHead (s : State) (x : Rec) : State :=
  (s.modJrn fun j => { j with queue := j.queue.tail, phase := .idle }).loseRecord x

/-- The GAP record built as it is written (R176). -/
def State.buildGap (s : State) : GapRecord :=
  { counts := s.jrn.gap.counts, firstP := s.jrn.gap.firstP, lastP := s.jrn.gap.lastP, t := s.pos.t }

/-- The room check of the head record, given the masks read (R174, R175). -/
def State.roomCheck (s : State) (x : Rec) (masks : List Byte) : State :=
  let need := s.jrn.needed x
  let free := s.jrn.freeAfter need masks
  let s := s.modJrn fun j => { j with knownFree := free }
  if need ≤ free then
    s.modJrn fun j => { j with phase := if j.gap.pending then .writingGap s.buildGap else .writing }
  else if x.kind.essential then s.modJrn fun j => { j with phase := .retry }
  else s.shedHead x

/-- The writer is about to check the record it takes, for the first time or afresh on a resume (R174, R177). -/
def WriterPhase.takes (p : WriterPhase) : Bool := p == .idle || p == .afresh

/-- The check of a record waits for its repetition 50 µs later (R174, R175). -/
def WriterPhase.waits (p : WriterPhase) : Bool := p == .retry || p == .failed

/-- The writer as it takes a check up: behind a failed write that did not stop it, its known-free count becomes 0
(R175). DEDUCED: log entry 81. -/
def State.beginCheck (s : State) : State :=
  s.modJrn fun j => if j.phase = .failed then { j with knownFree := 0 } else j

/-- JOURNAL_TAKE_RECORD: the writer, not stopped, takes the oldest record, or takes the head record afresh. -/
def execJournalTakeRecord (masks : List Byte) (s : State) : Host.Outcome State Fault Refusal :=
  .next <| match s.jrn.queue with
  | [] => s
  | x :: _ => if s.jrn.stopped = false ∧ s.jrn.phase.takes then s.roomCheck x masks else s

/-- ROOM_CHECK_RETRY: the check of the head record that waits is repeated, or made afresh behind a failed write. -/
def execRoomCheckRetry (masks : List Byte) (s : State) : Host.Outcome State Fault Refusal :=
  .next <| match s.jrn.queue with
  | [] => s
  | x :: _ => if s.jrn.stopped = false ∧ s.jrn.phase.waits then s.beginCheck.roomCheck x masks else s

/-- A reader-mask read of a check ends in an error: the masks read before it count, and the record waits (R174). -/
def State.readFails (s : State) (x : Rec) (masks : List Byte) : State :=
  (s.modJrn fun j => { j with knownFree := j.freeAfter (j.needed x) masks, phase := .retry }).raiseReport
    .journalWriter .contextFault (.block .journalWriter)

/-- JOURNAL_READ_ERROR: it concerns the check of a record just taken or of one that waits. -/
def execJournalReadError (masks : List Byte) (s : State) : Host.Outcome State Fault Refusal :=
  .next <| match s.jrn.queue with
  | [] => s
  | x :: _ =>
    if s.jrn.stopped = false ∧ (s.jrn.phase.takes ∨ s.jrn.phase.waits) then s.beginCheck.readFails x masks else s

/-! ## Writing (R173, R175) -/

/-- The address of the i-th slot from W. -/
def JournalWriter.slotAddress (j : JournalWriter) (i : Nat) : Nat := j.base + 64 * ((j.w + i) % j.slotCount)

/-- The accesses of slot `i` of a record of `n` slots: its body and then its header. -/
def JournalWriter.slotAccesses (j : JournalWriter) (x : Rec) (n i : Nat) (body : List Byte) : List BusAction :=
  [.write (j.slotAddress i + 8) body,
   .write (j.slotAddress i) (slotHeader (readerMask j.consumers x.kind) x.kind n i j.nextSeq)]

/-- The accesses of a record: each slot after the first, in ring order, and the first slot last (R175). -/
def JournalWriter.recordAccesses (j : JournalWriter) (x : Rec) : List BusAction :=
  let slots := (indexed x.bodies).map fun k => j.slotAccesses x x.slotCount k.1 k.2
  slots.tail.flatten ++ slots.headD []

/-- W, the known-free count and the next sequence once a record is complete (R175). -/
def JournalWriter.advance (j : JournalWriter) (n : Nat) : JournalWriter :=
  { j with w := (j.w + n) % j.slotCount, knownFree := j.knownFree - n, nextSeq := j.nextSeq + 1 }

/-- A record's accesses have landed and it is complete: they stand in the trace from this moment (R179).
DESIGN CHOICE: log entry 110. -/
def State.recordWritten (s : State) (x : Rec) : State :=
  let s := (s.issue (s.jrn.recordAccesses x)).modJrn fun j => j.advance x.slotCount
  if x.kind.essential then s.setCause .journal else s

/-- The record the writer is writing. -/
def JournalWriter.current (j : JournalWriter) : Option Rec :=
  match j.phase with
  | .writingGap g => some (.gap g)
  | .writing => j.queue.head?
  | .idle => none
  | .afresh => none
  | .retry => none
  | .failed => none

/-- JOURNAL_WRITE_COMPLETE: behind a GAP the record at the head is written; behind that record the writer is free. A record
whose room check has passed is completed without a GAP for a loss that falls while it is written (R175).
DESIGN CHOICE: log entry 114. -/
def execJournalWriteComplete (s : State) : Host.Outcome State Fault Refusal :=
  .next <| match s.jrn.phase with
  | .writingGap g =>
    (s.recordWritten (.gap g)).modJrn fun j => { j with gap := j.gapLate, gapLate := .clear, phase := .writing }
  | .writing =>
    match s.jrn.queue with
    | [] => s
    | x :: rest => (s.recordWritten x).modJrn fun j => { j with queue := rest, phase := .idle }
  | .idle => s
  | .afresh => s
  | .retry => s
  | .failed => s

/-- A write under way ends: its record stays at the head, and losses gathered beside a GAP go back to the gap. -/
def JournalWriter.breakOff (j : JournalWriter) : JournalWriter :=
  { j with gap := j.gap.add j.gapLate, gapLate := .clear, phase := if j.phase = .idle then .idle else .retry }

/-- JOURNAL_WRITE_ERROR: the accesses that had landed stand in the slots, the first slot's header, which completes a
record, never among them (R175). -/
def execJournalWriteError (landed : Nat) (s : State) : Host.Outcome State Fault Refusal :=
  .next <| match s.jrn.current with
  | none => s
  | some x =>
    ((s.issue ((s.jrn.recordAccesses x).dropLast.take landed)).modJrn fun j =>
      { j.breakOff with phase := .failed }).raiseReport .journalWriter .contextFault (.block .journalWriter)

/-! ## Stop and resume (R177) -/

/-- The writer stops: a check or write under way ends, and its record stays at the head. DEDUCED: log entry 31. None of
the accesses of a record broken off is in the trace. DESIGN CHOICE: log entry 93. -/
def State.stopWriter (s : State) : State := s.modJrn fun j => { j.breakOff with stopped := true }

/-- A stopped writer resumes: its known-free count becomes 0, and it takes the head record, if there is one, afresh. -/
def State.resumeWriter (s : State) : State :=
  s.modJrn fun j =>
    if j.stopped then
      { j with stopped := false, knownFree := 0, phase := if j.queue.isEmpty then .idle else .afresh }
    else j

end Sys2Proof.Machine
end

