-- ==== Sys2Proof/Machine/Evaluation.lean ====
section
/-! DEFINITION. Echo evaluation and projection (chapter 4): the gate accumulators of a shot, the judgement of a
firing (R56), the projection of a detection (R71 to R74), DROP hits (R70), and the items a judged shot places on the
release path (R76). -/

namespace Sys2Proof.Machine

/-! ## Building and filling accumulators (R64 to R66) -/

/-- The effective threshold of a FLAW gate (R65). -/
def effectiveThreshold (threshold : Nat) (offset : Int) : Nat := (max 1 (min 254 ((threshold : Int) + offset))).toNat

/-- The accumulator of a gate as built at the FIRE (R66). -/
def buildGate (offset : Int) (g : GateDesc) : GateAcc :=
  { role := g.role, mode := g.mode,
    threshold := if g.role = .flaw then effectiveThreshold g.threshold offset else g.threshold,
    start := g.start, length := g.length, peak := 0, peakTick := none, firstCross := none, present := false }

/-- The tick is earlier than the one noted, or none is noted. -/
def earlierThan (tick : Nat) : Option Nat → Bool
  | none => true
  | some t => decide (tick < t)

/-- One sample given to an accumulator whose gate covers its tick (R66). -/
def GateAcc.sample (g : GateAcc) (tick value : Nat) : GateAcc :=
  if tick < g.start ∨ g.start + g.length ≤ tick then g
  else
    match g.role with
    | .flaw =>
      let g := if g.peak < value ∨ (value = g.peak ∧ earlierThan tick g.peakTick) then
          { g with peak := value, peakTick := some tick } else g
      if g.threshold ≤ value ∧ earlierThan tick g.firstCross then { g with firstCross := some tick } else g
    | .coupling => { g with present := g.present || decide (g.threshold ≤ value) }
    | .backwall => { g with present := g.present || decide (g.threshold ≤ value) }

/-- The samples of a frame given to an accumulator, from a tick on; ticks at L and above are ignored (R53). -/
def GateAcc.samples (listen : Nat) (g : GateAcc) : Nat → List Byte → GateAcc
  | _, [] => g
  | tick, v :: vs => GateAcc.samples listen (if tick < listen then g.sample tick v.toNat else g) (tick + 1) vs

/-- A frame accepted for a firing: entered in the expected frame map, kept when copied, and given to the gates (R53,
R64, R167). -/
def Firing.accept (f : Firing) (listen index : Nat) (damaged : Bool) (samples : List Byte) : Firing :=
  { f with received := f.received ++ [index], damagedSeen := f.damagedSeen || damaged,
           copied := if f.copying then f.copied ++ [(index, samples)] else f.copied,
           gates := f.gates.map fun g => g.samples listen (64 * index) samples }

/-- A firing takes a frame of its channel whose index is below its frame count and has not been accepted (R53); a channel
above 3 names no firing (R188). -/
def Firing.takes (f : Firing) (channel index : Nat) : Bool :=
  f.channel == channel && decide (channel ≤ 3) && decide (index < f.frames) && !f.received.contains index

/-! ## Judgement (R56) -/

/-- A firing is whole at an END frame carrying the frame counts of the channels; the count of a channel above 3, which
only an upset leaves, reads as 0. DESIGN CHOICE: log entry 122. -/
def Firing.whole (f : Firing) (counts : List Nat) : Bool :=
  ((List.range f.frames).all fun i => f.received.contains i) && counts.getD f.channel 0 == f.frames && !f.damagedSeen

/-! ## Projection (R71 to R74) -/

/-- What projection makes of a detection. -/
inductive Projection where
  | wedge
  | beyond
  | hit (x d : Nat) (edge : Bool)
deriving DecidableEq, Repr

/-- Stage 4: the along-rail term in mm, a half rounded away from zero (R73). -/
def alongTerm (s : Nat) (factor : Int) : Int :=
  let um := ((s : Int) * factor).tdiv 32768
  if 0 ≤ um then (um + 500) / 1000 else -((-um + 500) / 1000)

/-- The one-way sound path in µm (R71). -/
def soundPath (e : ElementDesc) (t : Nat) : Nat := (t - e.delay) * e.path / 1024

/-- The depth in depth units (R72). -/
def depthOf (e : ElementDesc) (s : Nat) : Nat := s * e.depthFactor / 32768 / 100

/-- A car-frame offset placed on the rail, before the clamp (R74). -/
def Shot.place (x : Shot) (offset : Int) : Int := (x.pc : Int) + x.sense * offset

/-- Projection of a detection at an echo time (R71 to R74). -/
def project (x : Shot) (e : ElementDesc) (t : Nat) : Projection :=
  if t < e.delay then .wedge
  else
    let s := soundPath e t
    if x.railHeight < depthOf e s then .beyond
    else
      let at_ := x.place (e.mount + alongTerm s e.alongFactor)
      .hit (clampPos at_) (depthOf e s) (offScale at_)

/-! ## Results of a firing (R67 to R70, R76) -/

/-- The echo time of a FLAW gate's detection, none when it has no detection (R67). -/
def GateAcc.detection (g : GateAcc) : Option Nat :=
  match g.firstCross with
  | none => none
  | some first => if g.mode = .first then some first else g.peakTick

/-- The items and the counts that judging a shot gives. -/
structure Results where
  items : List ReleaseItem
  wedge : Nat
  beyond : Nat
deriving DecidableEq, Repr

/-- The gate of a role is present (R68); none when the firing has no such gate. -/
def Firing.presence (f : Firing) (role : GateRole) : Option Bool :=
  (f.gates.find? fun g => g.role == role).map GateAcc.present

/-- The hit of a FLAW gate, or its count (R67, R71, R72). -/
def flawResults (x : Shot) (f : Firing) (g : GateAcc) : Results :=
  match g.detection with
  | none => ⟨[], 0, 0⟩
  | some t =>
    match project x f.desc t with
    | .wedge => ⟨[], 1, 0⟩
    | .beyond => ⟨[], 0, 1⟩
    | .hit at_ d edge =>
      ⟨[.hit { element := f.element, group := f.desc.group, kind := .reflector, x := at_, d := some d,
               amplitude := g.peak, saturated := g.peak == 255, edge := edge }], 0, 0⟩

/-- The DROP hit of a firing at the place of its BACKWALL gate (R70). -/
def dropResults (x : Shot) (f : Firing) (g : GateAcc) : Results :=
  if f.presence .coupling = some true ∧ g.present = false then
    let at_ := x.place f.desc.mount
    ⟨[.hit { element := f.element, group := f.desc.group, kind := .drop, x := clampPos at_, d := none, amplitude := 0,
             saturated := false, edge := offScale at_ }], 0, 0⟩
  else ⟨[], 0, 0⟩

/-- What a gate gives at its place in plan order. -/
def gateResults (x : Shot) (f : Firing) (g : GateAcc) : Results :=
  match g.role with
  | .flaw => flawResults x f g
  | .coupling => ⟨[], 0, 0⟩
  | .backwall => dropResults x f g

/-- Results one after another. -/
def Results.append (u v : Results) : Results := ⟨u.items ++ v.items, u.wedge + v.wedge, u.beyond + v.beyond⟩

/-- Results of a list of parts. -/
def Results.join (xs : List Results) : Results := xs.foldl Results.append ⟨[], 0, 0⟩

/-- The results of a whole firing: the COUPLING result, then the hits in the plan order of the gates (R76). -/
def firingResults (x : Shot) (f : Firing) : Results :=
  let coupling : List ReleaseItem := match f.presence .coupling with
    | none => []
    | some present => [.result f.element present x.seq x.pc]
  Results.append ⟨coupling, 0, 0⟩ (Results.join (f.gates.map (gateResults x f)))

/-- The results of a shot, given which firings are whole, and the shot-released marker behind them (R69). -/
def shotResults (x : Shot) (whole : Firing → Bool) : Results :=
  (Results.join ((x.firings.filter whole).map (firingResults x))).append ⟨[.released x.seq], 0, 0⟩

/-- The evaluator releases a judged shot (R69, R76, R78). -/
def Evaluator.releaseShot (v : Evaluator) (x : Shot) (whole : Firing → Bool) : Evaluator :=
  let res := shotResults x whole
  { v with release := v.release ++ res.items, wedge := add16 v.wedge res.wedge, beyond := add16 v.beyond res.beyond }

/-! ## Captures (R167) -/

/-- The samples of a whole firing in tick order, up to the listen length. -/
def Firing.capture (f : Firing) (listen : Nat) : List Byte :=
  ((List.range f.frames).flatMap fun i => ((f.copied.find? fun k => k.1 == i).map Prod.snd).getD []).take listen

/-- The capture a judged shot gives: its first whole firing that was being copied. -/
def Shot.capture (x : Shot) (whole : Firing → Bool) : Option Capture :=
  (x.firings.find? fun f => f.copying && whole f).map fun f =>
    { samples := f.capture x.listen, pc := x.pc, seq := x.seq }

end Sys2Proof.Machine
end

