-- ==== Sys2Proof/Machine/Firing.lean ====
section
/-! DEFINITION. Firing and the front-end link (chapter 3): what the Sweep Sequencer and the Link Controller of a rail
do at a progress event, a LIFT change, a frame, a timer and an order, with the snapshot copies of R167. -/

namespace Sys2Proof.Machine

/-! ## Firing a shot (R47) -/

/-- The frames of a firing: L divided by 64, rounded up. -/
def frameCount (listen : Nat) : Nat := (listen + 63) / 64

/-- A snapshot that a whole firing can still give its capture: none is made, and its sweep count is short of 16. -/
def Snapshot.open (x : Snapshot) : Bool := x.capture.isNone && decide (x.sweeps < Config.snapshotSweeps)

/-- A snapshot is in flight for the element, its capture still to be made. DEDUCED: log entry 55. -/
def State.copies (s : State) (r : Rail) (e : Nat) : Bool :=
  match s.req.snapshot.get r with
  | none => false
  | some x => x.element == e && x.open

/-- A firing of the shot being latched. -/
def State.latchFiring (s : State) (r : Rail) (listen : Nat) (f : FiringDesc) : Firing :=
  { element := f.element, channel := f.channel, desc := Plan.element s.plan r f.element, frames := frameCount listen,
    received := [], damagedSeen := false, gates := f.gates.map (buildGate (s.rail r).eval.offset),
    copying := s.copies r f.element, copied := [] }

/-- The shot latched from the plan in force, with the sequence number increased (R47). Whether it is the last of the list
(R48) is decided by the shot count of this moment. DESIGN CHOICE: log entry 99. -/
def State.latchShot (s : State) (r : Rail) (index : Nat) (d : ShotDesc) : Shot :=
  { index := index, last := index + 1 == Plan.shotCount s.plan r, listen := d.listen, seq := (s.rail r).seq.shotSeq + 1,
    pc := s.pos.p, offset := (s.rail r).eval.offset, railHeight := Plan.railHeight s.plan r,
    endAllowance := Plan.endAllowance s.plan r, sense := Plan.sense s.plan,
    firings := d.firings.map (s.latchFiring r d.listen) }

/-- The length of the END timer in ticks: L, and 80 ticks for each µs of the end_allowance (R47). -/
def endTimerLength (x : Shot) : Nat := x.listen + 80 * x.endAllowance

/-- Fire a shot of the list: the shot is latched, the FIRE frame sent and the END timer started (R47). -/
def State.fireShot (s : State) (r : Rail) (index : Nat) : State :=
  match (Plan.shots s.plan r)[index]? with
  | none => s
  | some d =>
    let x := s.latchShot r index d
    s.modRail r fun b =>
      { b with shot := some x, seq := { b.seq with state := .shot, shotSeq := x.seq },
               link := { b.link with endTimer := some (endTimerLength x), sent := b.link.sent ++ [fireFrame x] } }

/-! ## The end of a sweep, of a shot and of a hold -/

/-- A sweep of the rail ends: a snapshot in flight without a capture counts it (R168). -/
def State.sweepEnded (s : State) (r : Rail) : State :=
  s.modReq fun q => { q with snapshot := q.snapshot.modify r fun o => o.map fun x =>
    if x.capture.isNone then { x with sweeps := min Config.snapshotSweeps (x.sweeps + 1) } else x }

/-- A sweep that fired every shot of its list (R45). -/
def State.countSweep (s : State) (r : Rail) : State :=
  (s.count r fun k => { k with sweeps := bump16 k.sweeps }).sweepEnded r

/-- A sweep ended with shots unfired (R45). -/
def State.countTruncated (s : State) (r : Rail) : State :=
  (s.count r fun k => { k with truncated := bump16 k.truncated }).sweepEnded r

/-- The sweep of a shot that was its rail's last fired: counted in sweeps when the shot was the last of the list.
DEDUCED: log entry 14. -/
def State.countSweepOf (s : State) (r : Rail) (x : Shot) : State :=
  if x.last then s.countSweep r else s.countTruncated r

/-- The release path holds no shot-released marker still to be taken. -/
def Evaluator.drained (v : Evaluator) : Bool := v.release.isEmpty

/-- A held Sequencer reports its rail held, once, when it has no shot in flight and its results are released (R46).
DEDUCED: log entry 54. -/
def State.reportHeld (s : State) (r : Rail) : State :=
  let b := s.rail r
  if b.seq.held ∧ b.seq.heldReported = false ∧ b.shot.isNone ∧ b.eval.drained then
    (s.modSeq r fun q => { q with heldReported := true }).modPlans fun p =>
      { p with heldReports := p.heldReports.modify r (· + 1) }
  else s

/-- A Sequencer's state once it has left OFF, with no shot in flight (R40, R41). -/
def RailBlocks.idleState (b : RailBlocks) : SeqState :=
  if b.seq.lift then .lifted else if b.link.state = .down then .linkDown else .waiting

/-- The shot in flight is abandoned (R50). -/
def State.abandonShot (s : State) (r : Rail) : State :=
  match (s.rail r).shot with
  | none => s
  | some x =>
    let s := s.modRail r fun b => { b with shot := none, link := { b.link with endTimer := none } }
    let s := s.count r fun k => { k with abandoned := bump16 k.abandoned }
    s.countSweepOf r x

/-- The Sequencer goes on after the end of a shot with the link UP (R48). DEDUCED: log entry 38. -/
def State.afterShot (s : State) (r : Rail) (x : Shot) : State :=
  let q := (s.rail r).seq
  if x.last = false ∧ q.state = .shot ∧ q.held = false ∧ x.index + 1 < (Plan.shots s.plan r).length then
    s.fireShot r (x.index + 1)
  else
    let s := s.modSeq r fun q => { q with state := if q.state = .shot then .waiting else q.state }
    (s.countSweepOf r x).reportHeld r

/-- A capture kept, where the snapshot still takes one (R167). -/
def Snapshot.keep (x : Snapshot) (c : Capture) : Snapshot := if x.open then { x with capture := some c } else x

/-- The shot in flight is judged: the evaluator releases its results, a capture is kept, and no shot is in flight
(R48, R49, R69, R167). -/
def State.judgeShot (s : State) (r : Rail) (x : Shot) (whole : Firing → Bool) : State :=
  let damaged := (x.firings.filter fun f => !whole f).length
  let s := s.modRail r fun b =>
    { b with shot := none, link := { b.link with endTimer := none }, eval := b.eval.releaseShot x whole }
  let s := s.count r fun k => { k with damaged := add16 k.damaged damaged }
  match x.capture whole with
  | none => s
  | some c => s.modReq fun q => { q with snapshot := q.snapshot.modify r fun o => o.map fun k => k.keep c }

/-! ## The link (R57 to R60) -/

/-- The link goes DOWN while the device is ACTIVE: the interrupt notice is sent and LINK_DOWN raised (R57). What the
Sequencer does is the caller's. -/
def State.linkGoesDown (s : State) (r : Rail) : State :=
  let s := s.modLink r fun l => { l with state := .down, good := 0, downHeld := true }
  let s := s.modTrk r fun k => { k with interruptNotices := k.interruptNotices + 1 }
  s.raiseReport (.link r) .linkDown (.rail r)

/-- The Sequencer is told that the link is DOWN: from WAITING or SHOT it enters LINK_DOWN (R41). -/
def State.seqLinkDown (s : State) (r : Rail) : State :=
  s.modSeq r fun q => { q with state := if q.state = .waiting ∨ q.state = .shot then .linkDown else q.state }

/-- The link is held DOWN as the device leaves ACTIVE (R59). -/
def State.holdLink (s : State) (r : Rail) : State :=
  let held := (s.rail r).link.downHeld
  let s := s.modLink r fun l => { l with state := .down, presence := false, good := 0, downHeld := false }
  if held then s.report (.link r) (.condEnd .linkDown (some r)) else s

/-- The device leaves ACTIVE: the Sequencer enters OFF, abandoning its shot, and the link is held DOWN (R43, R59). -/
def State.railOff (s : State) (r : Rail) : State :=
  let s := s.abandonShot r
  let s := s.modSeq r fun q => { q with state := .off }
  (s.holdLink r).reportHeld r

/-- The device becomes ACTIVE: the link starts its presence timer, and the Sequencer leaves OFF (R41, R59). -/
def State.railOn (s : State) (r : Rail) : State :=
  let s := s.modLink r fun l => { l with presence := true, good := 0, upSinceEntry := false }
  s.modSeq r fun q => { q with state := (s.rail r).idleState }

/-! ## Frames (R51, R53 to R55) -/

/-- A frame found stray (R53, R54). -/
def State.strayFrame (s : State) (r : Rail) : State := s.count r fun k => { k with stray := bump16 k.stray }

/-- FRONT_END_WARNING when a status flag is set (R55). -/
def State.frontEndWarning (s : State) (r : Rail) (flags : BitVec 8) : State :=
  if flags = 0 then s else s.raiseReport (.link r) .frontEndWarning (.status r flags)

/-- A SAMPLE frame entered for the firing of the shot that takes it (R53, R64), and for each of them where an upset has left
several of one channel. DESIGN CHOICE: log entry 97. -/
def Shot.acceptSample (x : Shot) (channel index : Nat) (damaged : Bool) (samples : List Byte) : Shot :=
  { x with
    firings := x.firings.map fun f =>
      if f.takes channel index then f.accept x.listen index damaged samples else f }

/-- A SAMPLE frame is accepted for the shot in flight, or stray (R53). -/
def State.sampleReceived (s : State) (r : Rail) (seq : BitVec 8) (channel index : Nat) (damaged : Bool)
    (samples : List Byte) : State :=
  match (s.rail r).shot with
  | none => s.strayFrame r
  | some x =>
    if x.seq = seq ∧ x.firings.any (fun f => f.takes channel index) then
      s.setShot r (some (x.acceptSample channel index damaged samples))
    else s.strayFrame r

/-- An END frame ends the shot in flight, or is stray (R48, R54). -/
def State.endReceived (s : State) (r : Rail) (seq flags : BitVec 8) (counts : List Nat) : State :=
  match (s.rail r).shot with
  | none => s.strayFrame r
  | some x =>
    if x.seq = seq then
      let s := s.frontEndWarning r flags
      let s := s.modLink r fun l => { l with missing := 0 }
      (s.judgeShot r x fun f => f.whole counts).afterShot r x
    else s.strayFrame r

/-- A frame that passed the checks restarts the presence timer and counts toward the consecutive-good count (R51,
R58). -/
def State.frameCounts (s : State) (r : Rail) : State :=
  s.modLink r fun l =>
    { l with presence := true, good := if l.state = .down then min Config.goodFrames (l.good + 1) else l.good }

/-- A frame received on a rail's link: its bytes decide what it is. Outside ACTIVE it is discarded (R51, R59).
DESIGN CHOICE: log entry 32. -/
def State.receive (s : State) (r : Rail) (bytes : List Byte) : State :=
  if s.device ≠ .active then s
  else
    match readFrame bytes with
    | none =>
      (s.count r fun k => { k with crcErrors := bump16 k.crcErrors }).modLink r fun l => { l with good := 0 }
    | some (.sample seq channel index damaged samples) =>
      (s.frameCounts r).sampleReceived r seq channel index damaged samples
    | some (.finish seq flags counts) => (s.frameCounts r).endReceived r seq flags counts
    | some (.idle flags) => (s.frameCounts r).frontEndWarning r flags

/-- SAMPLE_FRAME. -/
def execSampleFrame (r : Rail) (bytes : List Byte) (s : State) : Host.Outcome State Fault Refusal :=
  .next (s.receive r bytes)

/-- END_FRAME. -/
def execEndFrame (r : Rail) (bytes : List Byte) (s : State) : Host.Outcome State Fault Refusal :=
  .next (s.receive r bytes)

/-- IDLE_FRAME. -/
def execIdleFrame (r : Rail) (bytes : List Byte) (s : State) : Host.Outcome State Fault Refusal :=
  .next (s.receive r bytes)

/-- BAD_FRAME. -/
def execBadFrame (r : Rail) (bytes : List Byte) (s : State) : Host.Outcome State Fault Refusal :=
  .next (s.receive r bytes)

/-! ## Timers and link state (R49, R57 to R59) -/

/-- The END timer of the shot in flight expires (R49). -/
def State.endTimerExpires (s : State) (r : Rail) : State :=
  match (s.rail r).shot with
  | none => s
  | some x =>
    let missing := (s.rail r).link.missing + 1
    let s := s.count r fun k => { k with missingEnds := bump16 k.missingEnds }
    let s := s.judgeShot r x fun _ => false
    if missing < Config.missingEnds then (s.modLink r fun l => { l with missing := missing }).afterShot r x
    else
      let s := (s.modLink r fun l => { l with missing := 0 }).linkGoesDown r
      ((s.seqLinkDown r).countSweepOf r x).reportHeld r

/-- END_TIMER_EXPIRY: it acts while the timer runs. -/
def execEndTimerExpiry (r : Rail) (s : State) : Host.Outcome State Fault Refusal :=
  .next (if (s.rail r).link.endTimer.isSome then s.endTimerExpires r else s)

/-- The presence timer expires (R57, R59). -/
def State.presenceExpires (s : State) (r : Rail) : State :=
  let l := (s.rail r).link
  if l.state = .up then ((((s.linkGoesDown r).abandonShot r).seqLinkDown r).reportHeld r)
  else if l.upSinceEntry = false ∧ l.downHeld = false then
    (s.modLink r fun l => { l with downHeld := true }).raiseReport (.link r) .linkDown (.rail r)
  else s

/-- PRESENCE_TIMER_EXPIRY: it acts while the timer runs, which is in ACTIVE. DEDUCED: log entry 56. -/
def execPresenceTimerExpiry (r : Rail) (s : State) : Host.Outcome State Fault Refusal :=
  .next (if s.device = .active ∧ (s.rail r).link.presence then s.presenceExpires r else s)

/-- The link comes UP (R58). -/
def State.linkComesUp (s : State) (r : Rail) : State :=
  let held := (s.rail r).link.downHeld
  let s := s.modLink r fun l =>
    { l with state := .up, good := 0, missing := 0, upSinceEntry := true, downHeld := false }
  let s := s.modSeq r fun q => { q with state := if q.state = .linkDown then .waiting else q.state }
  if held then s.report (.link r) (.condEnd .linkDown (some r)) else s

/-- LINK_UP: it takes place when the consecutive-good count has reached 8. DEDUCED: log entry 16. -/
def execLinkUp (r : Rail) (s : State) : Host.Outcome State Fault Refusal :=
  let l := (s.rail r).link
  .next (if s.device = .active ∧ l.state = .down ∧ l.good = Config.goodFrames then s.linkComesUp r else s)

/-! ## LIFT (R42) -/

/-- The Sequencer takes a change of its LIFT level. -/
def State.liftChanges (s : State) (r : Rail) (asserted : Bool) : State :=
  let s := s.modSeq r fun q => { q with lift := asserted }
  if (s.rail r).seq.state = .off then s
  else if asserted then
    let s := s.abandonShot r
    let s := s.modSeq r fun q => { q with state := .lifted }
    let s := s.modTrk r fun k => { k with liftNotices := k.liftNotices + 1 }
    let s := s.modCoupling fun m => { m with carriage := m.carriage.modify r (· ++ [.lift]) }
    s.reportHeld r
  else
    let s := s.modSeq r fun q => { q with state := (s.rail r).idleState }
    s.modCoupling fun m => { m with carriage := m.carriage.modify r (· ++ [.release]) }

/-- LIFT_CHANGE: the level is taken; where it is the level already recorded there is no change. -/
def execLiftChange (r : Rail) (asserted : Bool) (s : State) : Host.Outcome State Fault Refusal :=
  .next (if (s.rail r).seq.lift = asserted then s else s.liftChanges r asserted)

/-! ## Sweep steps (R44, R45, R38) -/

/-- A byte of a bank struck (R38): the contents change and the kept check codes do not. -/
def Bank.strike (b : Bank) (offset : Nat) (value : Byte) : Bank := { b with contents := b.contents.set offset value }

/-- A nozzle whose descriptor in the ACTIVE bank now reads as `d`: it acts under what it reads, so that one that comes to
read as SPRAY is on while it has a SPRAYING entry or is latched; where it reads as not defined it has no position and its
drive is off except where latched. DEDUCED: log entry 20. A drive that is on as the mode becomes LATCH or PULSE stays on.
DESIGN CHOICE: log entry 116. -/
def Nozzle.reads (z : Nozzle) (d : Option NozzleDesc) (spraying : Bool) : Nozzle :=
  if z.desc = d then z
  else
    match d with
    | some x =>
      if x.mode = .spray ∧ z.desc.map NozzleDesc.mode ≠ some .spray then
        { z with desc := some x, drive := z.latched || spraying }
      else { z with desc := some x }
    | none => { z with desc := none, position := none, drive := z.latched }

/-- A Marker Controller reads its nozzles and the chainage sense from the ACTIVE bank (R19, R29); between the swap of a
switch and its NOZZLE_CHECK, and with no plan in force, it keeps what it holds. Positions follow at the next notice
that recomputes them (R133). DEDUCED: log entry 20. The queue stays as it is, entries that a new merge_distance would
merge included. DESIGN CHOICE: log entry 126. -/
def State.readNozzles (s : State) (r : Rail) : State :=
  if s.inForce = false ∨ (s.rail r).mrk.orders.contains .nozzleCheck then s
  else s.modMrk r fun m =>
    { m with sense := Plan.sense s.plan,
             nozzles := (indexed m.nozzles).map fun x => x.2.reads (Plan.nozzle s.plan r x.1) (sprays m.queue x.1) }

/-- The upsets that have struck plan storage by a sweep step. DESIGN CHOICE: log entry 8. -/
def State.strike (s : State) (strikes : List Strike) : State :=
  (s.modPlans fun p => strikes.foldl (fun p k => match k.role with
    | .active => { p with active := p.active.strike k.offset k.value }
    | .standby => { p with standby := p.standby.strike k.offset k.value }) p).bothRails fun r s => s.readNozzles r

/-- The check code of the rail in the ACTIVE bank does not differ from the kept one (R38).
DESIGN CHOICE: log entry 9. -/
def State.checkPasses (s : State) (r : Rail) : Bool :=
  match s.plans.active.codes.get r with
  | none => false
  | some k => k.covered == Plan.covered s.plan r

/-- A step not swept. -/
def State.countUntested (s : State) (r : Rail) : State := s.count r fun k => { k with untested := bump16 k.untested }

/-- A sweep starts: the check code is verified, and shot 0 is fired (R45). -/
def State.startSweep (s : State) (r : Rail) : State :=
  if s.checkPasses r then s.fireShot r 0
  else (s.raiseReport (.sequencer r) .planFault (.rail r)).countUntested r

/-- What a sweep step does by the Sequencer's state (R44). -/
def State.stepEffect (s : State) (r : Rail) : State :=
  let q := (s.rail r).seq
  match q.state with
  | .waiting => if q.held then s.countUntested r else s.startSweep r
  | .shot =>
    if q.held then s.countUntested r
    else (s.count r fun k => { k with skipped := bump16 k.skipped }).raiseReport (.sequencer r) .overspeed (.rail r)
  | .off => s.countUntested r
  | .lifted => s.countUntested r
  | .linkDown => s.countUntested r

/-- A Sequencer takes the sweep step of a progress event (R44): below its next mark, or with no plan in force, it is
left unchanged. -/
def State.sweepStep (s : State) (r : Rail) (t : Nat) : State :=
  if s.inForce = true ∧ (s.rail r).seq.nextMark ≤ t then
    let s := s.modSeq r fun q => { q with nextMark := add32 t (Plan.step s.plan r) }
    let s := s.modPlans fun p => { p with stepReports := p.stepReports.modify r (· + 1) }
    s.stepEffect r
  else s

/-- A survey mark is due at a progress event (R62). DESIGN CHOICE: log entry 53. -/
def State.surveyDue (s : State) (r : Rail) (t : Nat) : Bool :=
  s.inForce && Plan.surveyInterval s.plan != 0 && decide ((s.rail r).seq.surveyMark ≤ t)

/-- The head of a Sequencer's notices replaced. -/
def State.putNotices (s : State) (r : Rail) (xs : List SeqNotice) : State := s.modSeq r fun q => { q with notices := xs }

/-- SWEEP_STEP: the progress event at the head of the Sequencer's notices, which stays there while its survey mark is
still to be taken. -/
def execSweepStep (r : Rail) (strikes : List Strike) (s : State) : Host.Outcome State Fault Refusal :=
  .next <| match (s.rail r).seq.notices with
  | .progress t p false surveyTaken :: rest =>
    let s := (s.strike strikes).sweepStep r t
    s.putNotices r (if s.surveyDue r t && !surveyTaken then .progress t p true false :: rest else rest)
  | _ => s.strike strikes

/-! ## Survey marks (R62) -/

/-- The SURVEY record of a mark. -/
def State.surveyRecord (s : State) (r : Rail) (t p : Nat) : SurveyRecord :=
  let b := s.rail r
  { rail := r, t := t, p := p, planId := s.plans.active.planId, seqState := b.seq.state, linkState := b.link.state,
    counters := b.seq.counters, wedge := b.eval.wedge, beyond := b.eval.beyond,
    hitsSuppressed := s.coupling.suppressed.get r, hitsLost := b.trk.lost,
    coupling := (s.coupling.elements.get r).map ElementRecord.state }

/-- The four counts other blocks keep for a rail set to 0 (R61, R62). -/
def State.clearRailCounts (s : State) (r : Rail) : State :=
  (s.modRail r fun b => { b with eval := { b.eval with wedge := 0, beyond := 0 }, trk := { b.trk with lost := 0 } }).modCoupling
    fun m => { m with suppressed := m.suppressed.set r 0 }

/-- A survey mark taken at a progress event (R62). -/
def State.takeSurvey (s : State) (r : Rail) (t p : Nat) : State :=
  let record := s.surveyRecord r t p
  let s := (s.clearRailCounts r).offer (.sequencer r) (.survey record)
  s.modSeq r fun q => { q with counters := .zero, surveyMark := add32 t (Plan.surveyInterval s.plan) }

/-- SURVEY_MARK: the progress event at the head of the Sequencer's notices, which stays there while its sweep step is
still to be taken. -/
def execSurveyMark (r : Rail) (s : State) : Host.Outcome State Fault Refusal :=
  .next <| match (s.rail r).seq.notices with
  | .progress t p stepTaken false :: rest =>
    if s.surveyDue r t then
      (s.takeSurvey r t p).putNotices r (if stepTaken then rest else .progress t p false true :: rest)
    else if stepTaken then s.putNotices r rest
    else s
  | _ => s

/-- SEQUENCER_REVERSAL_NOTICE (R44). -/
def execSequencerReversalNotice (r : Rail) (s : State) : Host.Outcome State Fault Refusal :=
  .next <| match (s.rail r).seq.notices with
  | .reversal _ _ _ :: rest =>
    (s.count r fun k => { k with reversals := bump16 k.reversals }).putNotices r rest
  | _ => s

/-! ## Holds (R46) -/

/-- HOLD_ORDER. -/
def execHoldOrder (r : Rail) (s : State) : Host.Outcome State Fault Refusal :=
  .next <| match (s.rail r).seq.orders with
  | .hold :: rest => (s.modSeq r fun q => { q with orders := rest, held := true, heldReported := false }).reportHeld r
  | _ => s

/-- HOLD_RELEASE: at step 7 of a switch the next mark is the current T plus the step of the new plan, and a lifted
Sequencer sends its lift notice again (R33, R42, R46). -/
def execHoldRelease (r : Rail) (s : State) : Host.Outcome State Fault Refusal :=
  .next <| match (s.rail r).seq.orders with
  | .release :: rest =>
    let s := s.modSeq r fun q =>
      { q with orders := rest, held := false, heldReported := false,
               nextMark := add32 s.pos.t (Plan.step s.plan r) }
    if (s.rail r).seq.lift then
      s.modCoupling fun m => { m with carriage := m.carriage.modify r (· ++ [.lift]) }
    else s
  | _ => s

end Sys2Proof.Machine
end

