-- ==== Sys2Proof/Machine/Coupling.lean ====
section
/-! DEFINITION. The Coupling Monitor (chapter 5): decisions on COUPLING results, the hit filter, the COUPLING_LOSS
condition, COUPLING records, and lifts, plans and resets of element records. -/

namespace Sys2Proof.Machine

/-! ## Element records -/

/-- The record of an element (R80); an element code above 11, which only an upset leaves, reads as UNMONITORED.
DESIGN CHOICE: log entry 101. -/
def CouplingMonitor.element (m : CouplingMonitor) (r : Rail) (e : Nat) : ElementRecord :=
  (m.elements.get r).getD e (.fresh .unmonitored)

/-- The record of an element replaced; there is none to replace for a code above 11. DESIGN CHOICE: log entry 101. -/
def State.setElement (s : State) (r : Rail) (e : Nat) (x : ElementRecord) : State :=
  s.modCoupling fun m => { m with elements := m.elements.modify r fun xs => xs.set e x }

/-- Some element of either rail is LOST. -/
def CouplingMonitor.anyLost (m : CouplingMonitor) : Bool := m.allElements.any fun x => x.state == .lost

/-- An element has a COUPLING gate in the plan in force. -/
def State.monitors (s : State) (r : Rail) (e : Nat) : Bool := s.inForce && Plan.hasGate s.plan r e .coupling

/-- UNKNOWN for an element with a COUPLING gate in the plan in force, else UNMONITORED (R87, R88). -/
def State.freshState (s : State) (r : Rail) (e : Nat) : CouplingState :=
  if s.monitors r e then .unknown else .unmonitored

/-! ## Decisions (R81, R82) -/

/-- A present result, given the restore count; true when the element is restored (R81). Counts have no upper bound where
an upset has left a restore or loss count outside its range. DESIGN CHOICE: log entry 73. -/
def ElementRecord.takePresent (x : ElementRecord) (restore : Nat) : ElementRecord × Bool :=
  match x.state with
  | .unknown => ({ x with state := .coupled, absence := 0 }, false)
  | .coupled => ({ x with absence := 0 }, false)
  | .doubtful => ({ x with state := .coupled, absence := 0 }, false)
  | .lost =>
    if restore ≤ x.presence + 1 then (.fresh .coupled, true) else ({ x with presence := x.presence + 1 }, false)
  | .unmonitored => (x, false)
  | .lifted => (x, false)

/-- An element with its new absence count: LOST once it has reached the loss count, else in the state given (R82). -/
def ElementRecord.absent (x : ElementRecord) (count loss pc group : Nat) (below : CouplingState) : ElementRecord :=
  if loss ≤ count then
    { x with state := .lost, absence := count, presence := 0, lostAt := some pc, lostGroup := group }
  else { x with state := below, absence := count }

/-- An absent result, given the loss count, the Pc of the firing and the element's group (R82). Counts as in
`takePresent`. DESIGN CHOICE: log entry 73. -/
def ElementRecord.takeAbsent (x : ElementRecord) (loss pc group : Nat) : ElementRecord :=
  match x.state with
  | .unknown => x.absent (x.absence + 1) loss pc group .unknown
  | .coupled => x.absent 1 loss pc group .doubtful
  | .doubtful => x.absent (x.absence + 1) loss pc group .doubtful
  | .lost => { x with presence := 0 }
  | .unmonitored => x
  | .lifted => x

/-! ## Leaving LOST (R85, R86) -/

/-- The COUPLING record of an element leaving LOST: `restored` is the Pc that completed the restore count. -/
def State.couplingRecord (s : State) (r : Rail) (e : Nat) (reason : CouplingReason) (restored : Option Nat) :
    CouplingRecord :=
  let x := s.coupling.element r e
  let lostAt := x.lostAt.getD 0
  { rail := r, element := e, group := x.lostGroup, reason := reason, lostAt := lostAt, restoredAt := restored,
    untested := restored.map (dist lostAt), endP := if restored.isSome then none else some s.pos.p }

/-- The record of an element leaving LOST is offered. -/
def State.recordLoss (s : State) (r : Rail) (e : Nat) (reason : CouplingReason) (restored : Option Nat) : State :=
  if (s.coupling.element r e).state = .lost then
    s.offer .couplingMonitor (.coupling (s.couplingRecord r e reason restored))
  else s

/-- Elements have left LOST: when none remains and the loss flag is held, the end is reported (R85). -/
def State.reportLossEnd (s : State) : State :=
  if s.coupling.lossFlag ∧ s.coupling.anyLost = false then
    (s.modCoupling fun m => { m with lossFlag := false }).report .couplingMonitor (.condEnd .couplingLoss none)
  else s

/-- One element is set afresh, with a record when it was LOST. -/
def State.resetElement (s : State) (r : Rail) (reason : CouplingReason) (f : Nat → CouplingState) (e : Nat) : State :=
  (s.recordLoss r e reason none).setElement r e (.fresh (f e))

/-- Every element of a rail is set afresh, in element index order. DESIGN CHOICE: log entry 83. -/
def State.resetElements (s : State) (r : Rail) (reason : CouplingReason) (f : Nat → CouplingState) : State :=
  (List.range 12).foldl (fun s e => s.resetElement r reason f e) s

/-! ## The release path (R81 to R84, R76) -/

/-- The head of a rail's release path taken. -/
def State.putRelease (s : State) (r : Rail) (xs : List ReleaseItem) : State := s.modEval r fun v => { v with release := xs }

/-- A COUPLING result decided (R81, R82): with no plan in force it changes nothing (R83). DEDUCED: log entry 58. The
counts of an element's group that an upset has left above 7 are read at `Plan.groupBase`. DESIGN CHOICE: log entry 84. -/
def State.judgeResult (s : State) (r : Rail) (e : Nat) (present : Bool) (pc : Nat) : State :=
  if s.inForce = false then s
  else
    let x := s.coupling.element r e
    let group := (Plan.element s.plan r e).group
    if present then
      let y := x.takePresent (Plan.restoreCount s.plan r group)
      if y.2 then ((s.recordLoss r e .restored (some pc)).setElement r e y.1).reportLossEnd
      else s.setElement r e y.1
    else
      let y := x.takeAbsent (Plan.lossCount s.plan r group) pc group
      let s := s.setElement r e y
      if y.state = .lost ∧ x.state ≠ .lost then
        (s.modCoupling fun m => { m with lossFlag := true }).raiseReport .couplingMonitor .couplingLoss
          (.element r e pc)
      else s

/-- COUPLING_RESULT. -/
def execCouplingResult (r : Rail) (s : State) : Host.Outcome State Fault Refusal :=
  .next <| match (s.rail r).eval.release with
  | .result e present _ pc :: rest => (s.putRelease r rest).judgeResult r e present pc
  | _ => s

/-- A hit filtered by the state its element has at that moment (R84), also between the emptying of the bank and the notice
of it (R89). DESIGN CHOICE: log entry 118. -/
def State.filterHit (s : State) (r : Rail) (h : Hit) : State :=
  if (s.coupling.element r h.element).state = .lost then
    s.modCoupling fun m => { m with suppressed := m.suppressed.modify r bump16 }
  else s.modTrk r fun k => { k with hits := k.hits ++ [h] }

/-- HIT_FILTER. -/
def execHitFilter (r : Rail) (s : State) : Host.Outcome State Fault Refusal :=
  .next <| match (s.rail r).eval.release with
  | .hit h :: rest => (s.putRelease r rest).filterHit r h
  | _ => s

/-- An item of the release path taken. -/
def State.takeReleased (r : Rail) (s : State) : ReleaseItem → State
  | .result e present _ pc => s.judgeResult r e present pc
  | .hit h => s.filterHit r h
  | .released _ => s.reportHeld r

/-- SHOT_RELEASED_MARKER: the release is reported to the Sequencer, which may then report its rail held (R46, R76). -/
def execShotReleasedMarker (r : Rail) (s : State) : Host.Outcome State Fault Refusal :=
  .next <| match (s.rail r).eval.release with
  | .released _ :: rest => (s.putRelease r rest).reportHeld r
  | _ => s

/-! ## Lifts and releases (R87, R88) -/

/-- A lift notice's effect on a rail (R87). -/
def State.liftRail (s : State) (r : Rail) : State := (s.resetElements r .lifted fun _ => .lifted).reportLossEnd

/-- A release notice's effect on a rail: it concerns the elements that are LIFTED (R87). -/
def State.releaseRail (s : State) (r : Rail) : State :=
  (List.range 12).foldl (fun s e =>
    if (s.coupling.element r e).state = .lifted then s.setElement r e (.fresh (s.freshState r e)) else s) s

/-- The effect of a notice of the Sequencer on a rail. -/
def State.takeCarriage (r : Rail) (s : State) : CarriageNotice → State
  | .lift => s.liftRail r
  | .release => s.releaseRail r

/-- The monitor keeps a rail in step with its carriage at an entry to ACTIVE (R88): the notices the Sequencer sent
before are taken in order, and then the state it has entered on leaving OFF. DEDUCED: log entry 72. -/
def State.carriageInStep (s : State) (r : Rail) : State :=
  let notices := s.coupling.carriage.get r
  let s := notices.foldl (State.takeCarriage r) (s.modCoupling fun m => { m with carriage := m.carriage.set r [] })
  if (s.rail r).seq.state = .lifted then s.liftRail r else s.releaseRail r

/-- COUPLING_LIFT_NOTICE. -/
def execCouplingLiftNotice (r : Rail) (s : State) : Host.Outcome State Fault Refusal :=
  .next <| match s.coupling.carriage.get r with
  | .lift :: rest => (s.modCoupling fun m => { m with carriage := m.carriage.set r rest }).liftRail r
  | _ => s

/-- COUPLING_RELEASE_NOTICE. -/
def execCouplingReleaseNotice (r : Rail) (s : State) : Host.Outcome State Fault Refusal :=
  .next <| match s.coupling.carriage.get r with
  | .release :: rest => (s.modCoupling fun m => { m with carriage := m.carriage.set r rest }).releaseRail r
  | _ => s

/-! ## Plans (R88, R89) -/

/-- The monitor's reset when a plan comes into force (R88): rail A, then rail B. DESIGN CHOICE: log entry 83. -/
def State.couplingReset (s : State) : State :=
  ((s.resetElements .A .planSwitch (s.freshState .A)).resetElements .B .planSwitch (s.freshState .B)).reportLossEnd

/-- COUPLING_PLAN_RESET: the reset of a switch, with the report to the Plan Store that it is done. -/
def execCouplingPlanReset (s : State) : Host.Outcome State Fault Refusal :=
  .next <| match s.coupling.orders with
  | .planReset :: rest =>
    ((s.modCoupling fun m => { m with orders := rest }).couplingReset).modPlans fun p =>
      { p with resetDone := p.resetDone + 1 }
  | _ => s

/-- The monitor's part when the ACTIVE bank is emptied (R89): rail A, then rail B. DESIGN CHOICE: log entry 83. -/
def State.couplingEnds (s : State) : State :=
  ((s.resetElements .A .planEnded fun _ => .unmonitored).resetElements .B .planEnded fun _ => .unmonitored).reportLossEnd

/-- COUPLING_PLAN_ENDED. -/
def execCouplingPlanEnded (s : State) : Host.Outcome State Fault Refusal :=
  .next <| match s.coupling.orders with
  | .planEnded :: rest => (s.modCoupling fun m => { m with orders := rest }).couplingEnds
  | _ => s

end Sys2Proof.Machine
end

