-- ==== Sys2Proof/Machine/Tracks.lean ====
section
/-! DEFINITION. The Track Correlator (chapter 6): association, joining, opening, eviction and lost hits, closing by
gap and by length, forced closes with their flush markers, and DROPPED_TRACK records. -/

namespace Sys2Proof.Machine

/-! ## Table entries -/

/-- The track in an entry of the table; none when it is FREE. -/
def Tracker.entry (k : Tracker) (i : Nat) : Option Track := (k.table[i]?).join

/-- An entry of the table replaced. -/
def State.putTrack (s : State) (r : Rail) (i : Nat) (x : Option Track) : State :=
  s.modTrk r fun k => { k with table := k.table.set i x }

/-- An item sent on the ordered path to the assembler (R101, R108). -/
def State.sendPath (s : State) (r : Rail) (x : PathItem) : State := s.modTrk r fun k => { k with path := k.path ++ [x] }

/-- A DROPPED_TRACK record (R111). -/
def State.dropTrack (s : State) (r : Rail) (i : Nat) (x : Track) (reason : DropReason) (cause : Option DropCause) :
    State :=
  s.offer (.tracker r) (.dropped
    { rail := r, index := i, reason := reason, cause := cause, track := x, tClose := s.pos.t })

/-- A track is closed: CONFIRMED, it goes to the assembler, TENTATIVE, it is dropped; its entry becomes FREE (R101). -/
def State.closeTrack (s : State) (r : Rail) (i : Nat) (x : Track) (reason : DropReason) (cause : Option DropCause) :
    State :=
  let s := s.putTrack r i none
  match x.state with
  | .confirmed => s.sendPath r (.summary x)
  | .tentative => s.dropTrack r i x reason cause

/-- Do something with each open track, in index order. -/
def State.eachTrack (s : State) (r : Rail) (f : State → Nat → Track → State) : State :=
  (List.range Config.trackEntries).foldl (fun s i => match (s.rail r).trk.entry i with
    | none => s
    | some x => f s i x) s

/-! ## Association (R93, R94) -/

/-- The position distance of a hit from a track's extent. -/
def Track.dx (k : Track) (x : Nat) : Nat := if x < k.xMin then k.xMin - x else x - k.xMax

/-- The depth distance of a hit from a track's d_ref, 0 for DROP. -/
def Track.dd (k : Track) (h : Hit) : Nat :=
  match h.kind, h.d, k.dRef with
  | .reflector, some d, some ref => dist d ref
  | _, _, _ => 0

/-- A candidate within its windows, by its distances. -/
def Track.match? (k : Track) (h : Hit) (wx wd : Nat) : Option (Nat × Nat) :=
  if k.group = h.group ∧ k.kind = h.kind ∧ k.dx h.x ≤ wx ∧ k.dd h ≤ wd then some (k.dx h.x, k.dd h) else none

/-- Of two matches the one that goes before: the smaller dx, then the smaller dd, then the earlier index. -/
def better (best : Option (Nat × Nat × Nat)) (dx dd i : Nat) : Option (Nat × Nat × Nat) :=
  match best with
  | none => some (dx, dd, i)
  | some b => if dx < b.1 ∨ (dx = b.1 ∧ dd < b.2.1) then some (dx, dd, i) else some b

/-- The entry a hit joins (R94). -/
def chooseTrack (table : List (Option Track)) (h : Hit) (wx wd : Nat) : Option Nat :=
  ((indexed table).foldl (fun best e => match e.2.bind fun k => k.match? h wx wd with
    | none => best
    | some m => better best m.1 m.2 e.1) none).map fun b => b.2.2

/-! ## Joining (R95, R96) -/

/-- The lesser of two depths, none where both are none. -/
def minDepth : Option Nat → Option Nat → Option Nat
  | some a, some b => some (min a b)
  | some a, none => some a
  | none, b => b

/-- The greater of two depths, none where both are none. -/
def maxDepth : Option Nat → Option Nat → Option Nat
  | some a, some b => some (max a b)
  | some a, none => some a
  | none, b => b

/-- A hit's EDGE as a flag. -/
def Hit.flags (h : Hit) : BitVec 8 := if h.edge then flagEdge else 0

/-- A track with a hit joined at T (R95). -/
def Track.join (k : Track) (h : Hit) (t : Nat) : Track :=
  let peaks := k.peak < h.amplitude
  { k with
    xMin := min k.xMin h.x, xMax := max k.xMax h.x, dMin := minDepth k.dMin h.d, dMax := maxDepth k.dMax h.d,
    peak := if peaks then h.amplitude else k.peak, peakX := if peaks then h.x else k.peakX,
    dRef := if peaks then h.d else k.dRef, saturated := k.saturated || h.saturated, hitCount := bump16 k.hitCount,
    elementMask := k.elementMask ||| elementBit h.element, tLast := t, flags := k.flags ||| h.flags }

/-- Confirmation: a TENTATIVE track whose hit_count equals Nc (R96), and no track that an upset of Nc leaves above it.
DESIGN CHOICE: log entry 102. -/
def Track.confirm (k : Track) (nc : Nat) : Track :=
  if k.state = .tentative ∧ k.hitCount = nc then { k with state := .confirmed } else k

/-- The length test (R96). -/
def Track.tooLong (k : Track) (lmax : Nat) : Bool := decide (lmax < k.xMax - k.xMin + 1)

/-- A flag added to a track. -/
def Track.flag (k : Track) (flag : BitVec 8) : Track := { k with flags := k.flags ||| flag }

/-- A hit joins the track of an entry (R95, R96). -/
def State.joinTrack (s : State) (r : Rail) (i : Nat) (k : Track) (h : Hit) : State :=
  let k := (k.join h s.pos.t).confirm (Plan.confirm s.plan r h.group)
  if k.tooLong (Plan.maxLength s.plan r h.group) then s.closeTrack r i (k.flag flagLong) .long none
  else s.putTrack r i (some k)

/-! ## Opening (R97 to R99) -/

/-- The track a hit opens at T (R97). -/
def Hit.open (h : Hit) (t nc : Nat) : Track :=
  { state := if nc = 1 then .confirmed else .tentative, group := h.group, kind := h.kind, xMin := h.x, xMax := h.x,
    dMin := h.d, dMax := h.d, dRef := h.d, peak := h.amplitude, peakX := h.x, saturated := h.saturated, hitCount := 1,
    elementMask := elementBit h.element, tFirst := t, tLast := t, flags := h.flags }

/-- The FREE entry of the lowest index. -/
def freeEntry (table : List (Option Track)) : Option Nat := table.findIdx? Option.isNone

/-- The TENTATIVE entry with the smallest T_last, the lowest index among equals (R98). -/
def evictable (table : List (Option Track)) : Option (Nat × Track) :=
  (indexed table).foldl (fun best e => match e.2 with
    | none => best
    | some k =>
      if k.state = .tentative then
        match best with
        | none => some (e.1, k)
        | some b => if k.tLast < b.2.tLast then some (e.1, k) else some b
      else best) none

/-- A hit without a match opens a track, evicts a TENTATIVE one, or is lost (R97 to R99). -/
def State.openTrack (s : State) (r : Rail) (h : Hit) : State :=
  let table := (s.rail r).trk.table
  let k := h.open s.pos.t (Plan.confirm s.plan r h.group)
  match freeEntry table with
  | some i => s.putTrack r i (some k)
  | none =>
    match evictable table with
    | some (i, old) => (s.dropTrack r i old .evicted none).putTrack r i (some k)
    | none =>
      (s.modTrk r fun q => { q with lost := bump16 q.lost }).raiseReport (.tracker r) .trackTableFull (.rail r)

/-- The correlator takes a hit (R92 to R99): with no plan in force it is discarded. -/
def State.takeHit (s : State) (r : Rail) (h : Hit) : State :=
  if s.inForce = false then s
  else
    let table := (s.rail r).trk.table
    match chooseTrack table h (Plan.windowX s.plan r h.group) (Plan.windowD s.plan r h.group) with
    | none => s.openTrack r h
    | some i =>
      match (s.rail r).trk.entry i with
      | none => s
      | some k => s.joinTrack r i k h

/-- TRACK_HIT. -/
def execTrackHit (r : Rail) (s : State) : Host.Outcome State Fault Refusal :=
  .next <| match (s.rail r).trk.hits with
  | h :: rest => (s.modTrk r fun k => { k with hits := rest }).takeHit r h
  | [] => s

/-! ## Closing by gap (R100) -/

/-- Close every track whose T_last is below the event's T by more than G of its group. -/
def State.gapClose (s : State) (r : Rail) (t : Nat) : State :=
  s.eachTrack r fun s i k =>
    if k.tLast + Plan.gap s.plan r k.group < t then s.closeTrack r i k .unconfirmed none else s

/-- The head of a correlator's notices taken. -/
def State.putTrackNotices (s : State) (r : Rail) (xs : List PosNotice) : State :=
  s.modTrk r fun k => { k with notices := xs }

/-- TRACK_GAP_CLOSE. -/
def execTrackGapClose (r : Rail) (s : State) : Host.Outcome State Fault Refusal :=
  .next <| match (s.rail r).trk.notices with
  | .progress t _ :: rest =>
    let s := s.putTrackNotices r rest
    if s.inForce then s.gapClose r t else s
  | _ => s

/-! ## Interruptions (R102) -/

/-- INTERRUPTED is set on every open track of the rail. -/
def State.interrupt (s : State) (r : Rail) : State :=
  s.modTrk r fun k => { k with table := k.table.map fun e => e.map fun x => x.flag flagInterrupted }

/-- TRACK_LIFT_NOTICE. -/
def execTrackLiftNotice (r : Rail) (s : State) : Host.Outcome State Fault Refusal :=
  .next <| if (s.rail r).trk.liftNotices = 0 then s
    else (s.modTrk r fun k => { k with liftNotices := k.liftNotices - 1 }).interrupt r

/-- TRACK_INTERRUPT_NOTICE. -/
def execTrackInterruptNotice (r : Rail) (s : State) : Host.Outcome State Fault Refusal :=
  .next <| if (s.rail r).trk.interruptNotices = 0 then s
    else (s.modTrk r fun k => { k with interruptNotices := k.interruptNotices - 1 }).interrupt r

/-! ## Forced closes (R103 to R107) -/

/-- Every open track is closed with the flag of the cause (R103). -/
def State.closeAll (s : State) (r : Rail) (flag : BitVec 8) (reason : DropReason) (cause : DropCause) : State :=
  s.eachTrack r fun s i k => s.closeTrack r i (k.flag flag) reason (some cause)

/-- A forced close, with its flush marker where the cause has one: with no plan in force it does nothing (R103). -/
def State.forcedClose (s : State) (r : Rail) (flag : BitVec 8) (reason : DropReason) (cause : DropCause)
    (marker : Option FlushCause) : State :=
  if s.inForce = false then s
  else
    let s := s.closeAll r flag reason cause
    match marker with
    | none => s
    | some c => s.sendPath r (.marker { cause := c, tag := 0 })

/-- The close at a TACH_FAULT (R106). -/
def State.tachClose (s : State) (r : Rail) : State := s.forcedClose r flagCut .cut .tachFault (some .tachFault)

/-- TRACK_PRESET_CUT (R104). -/
def execTrackPresetCut (r : Rail) (s : State) : Host.Outcome State Fault Refusal :=
  .next <| match (s.rail r).trk.notices with
  | .preset _ _ _ :: rest => (s.putTrackNotices r rest).forcedClose r flagCut .cut .preset none
  | _ => s

/-- TRACK_REVERSAL_CLOSE (R105). -/
def execTrackReversalClose (r : Rail) (s : State) : Host.Outcome State Fault Refusal :=
  .next <| match (s.rail r).trk.notices with
  | .reversal _ _ _ :: rest =>
    (s.putTrackNotices r rest).forcedClose r flagReversal .reversal .reversal (some .reversal)
  | _ => s

/-- TRACK_TACH_FAULT_CLOSE (R106). -/
def execTrackTachFaultClose (r : Rail) (s : State) : Host.Outcome State Fault Refusal :=
  .next <| if (s.rail r).trk.tachNotices = 0 then s
    else (s.modTrk r fun k => { k with tachNotices := k.tachNotices - 1 }).tachClose r

/-- The head of the Plan Store's orders to a correlator taken. -/
def State.putTrackOrders (s : State) (r : Rail) (xs : List TrackOrder) : State :=
  s.modTrk r fun k => { k with orders := xs }

/-- CUT_ORDER (R107): every hit released before the rail was held is taken before it. DEDUCED: log entry 70. -/
def execCutOrder (r : Rail) (s : State) : Host.Outcome State Fault Refusal :=
  .next <| match (s.rail r).trk.orders with
  | .cut :: rest =>
    if (s.rail r).trk.hits = [] then
      (s.putTrackOrders r rest).forcedClose r flagCut .cut .switch (some .switch)
    else s
  | _ => s

/-- STOP_ORDER (R107): every hit released before the rail was held is taken before it. DEDUCED: log entry 70. -/
def execStopOrder (r : Rail) (s : State) : Host.Outcome State Fault Refusal :=
  .next <| match (s.rail r).trk.orders with
  | .stop :: rest =>
    if (s.rail r).trk.hits = [] then
      (s.putTrackOrders r rest).forcedClose r flagFlushed .flushed .stop (some .stop)
    else s
  | _ => s

/-! ## FLUSH and the end of a plan (R109, R110) -/

/-- The open tracks of a state. -/
def Tracker.countOf (k : Tracker) (st : TrackState) : Nat :=
  (k.table.filter fun e => (e.map Track.state) == some st).length

/-- The close of a FLUSH order: the counts of tracks sent and dropped are reported to the Request Handler, and the
marker carries the request's tag (R103, R110). -/
def State.flushClose (s : State) (r : Rail) (tag : Nat) : State :=
  let k := (s.rail r).trk
  let counts := if s.inForce then (k.countOf .confirmed, k.countOf .tentative) else (0, 0)
  let s := s.modReq fun q =>
    { q with flush := q.flush.map fun f => if f.tag = tag then { f with counts := f.counts.set r counts } else f }
  let s := if s.inForce then s.closeAll r flagFlushed .flushed .flush else s
  s.sendPath r (.marker { cause := .flush, tag := tag })

/-- FLUSH_ORDER. -/
def execFlushOrder (r : Rail) (s : State) : Host.Outcome State Fault Refusal :=
  .next <| match (s.rail r).trk.flushOrders with
  | tag :: rest => (s.modTrk r fun k => { k with flushOrders := rest }).flushClose r tag
  | [] => s

/-- Every open track is discarded, TENTATIVE or CONFIRMED, with reason PLAN_ENDED (R109). -/
def State.discardTracks (s : State) (r : Rail) : State :=
  s.eachTrack r fun s i k => (s.putTrack r i none).dropTrack r i k .planEnded (some .planEnded)

/-- TRACK_PLAN_ENDED. -/
def execTrackPlanEnded (r : Rail) (s : State) : Host.Outcome State Fault Refusal :=
  .next <| match (s.rail r).trk.orders with
  | .planEnded :: rest => (s.putTrackOrders r rest).discardTracks r
  | _ => s

end Sys2Proof.Machine
end

