-- ==== Sys2Proof/Machine/Assembly.lean ====
section
/-! DEFINITION. The Indication Assembler (chapter 7): the overlap test, arrivals and merges, finalization by horizon,
early, by flush marker and at the end of a plan, classification, mark requests and INDICATION records. -/

namespace Sys2Proof.Machine

/-! ## Overlap (R115) -/

/-- Two intervals lie at most a margin apart. -/
def intervalsMeet (lo hi lo' hi' margin : Nat) : Bool := decide (lo ≤ hi' + margin ∧ lo' ≤ hi + margin)

/-- The depth condition: unordered, and so overlapping, where either has no depth. -/
def depthsMeet (u v : Entry) (margin : Nat) : Bool :=
  match u.dMin, u.dMax, v.dMin, v.dMax with
  | some a, some b, some c, some d => intervalsMeet a b c d margin
  | _, _, _, _ => true

/-- The overlap test. -/
def Entry.overlaps (u v : Entry) (ma md : Nat) : Bool :=
  intervalsMeet u.xMin u.xMax v.xMin v.xMax ma && depthsMeet u v md

/-! ## Entries (R113, R116 to R118) -/

/-- A track as the contributor of its arrival number. -/
def Track.contributor (k : Track) (arrival : Nat) : Contributor :=
  { group := k.group, kind := k.kind, elementMask := k.elementMask, xMin := k.xMin, xMax := k.xMax, dMin := k.dMin,
    dMax := k.dMax, peak := k.peak, hitCount := k.hitCount, flags := k.flags, arrival := arrival }

/-- A track as an entry of its own, with the arrival T. -/
def Track.entry (k : Track) (arrival t : Nat) : Entry :=
  { xMin := k.xMin, xMax := k.xMax, dMin := k.dMin, dMax := k.dMax, peak := k.peak, groups := groupBit k.group,
    contributors := [k.contributor arrival], total := 1, tJoin := t, flags := k.flags }

/-- Contributors merged in arrival order. -/
def mergeContributors : List Contributor → List Contributor → List Contributor
  | [], ys => ys
  | x :: xs, ys => (ys.takeWhile fun y => decide (y.arrival < x.arrival)) ++ x ::
      mergeContributors xs (ys.dropWhile fun y => decide (y.arrival < x.arrival))

/-- A contributor goes before another in keeping: a higher peak, or an equal peak and an earlier arrival. -/
def Contributor.beats (x y : Contributor) : Bool := decide (y.peak < x.peak) || (x.peak == y.peak && decide (x.arrival < y.arrival))

/-- The eight contributors kept: those that fewer than eight others go before (R118). -/
def keepContributors (xs : List Contributor) : List Contributor :=
  if xs.length ≤ Config.keptContributors then xs
  else xs.filter fun x => (xs.filter fun y => y.beats x).length < Config.keptContributors

/-- Two entries merged (R117, R118); the arrival T is that of the first, which the arriving track has joined. -/
def Entry.merge (u v : Entry) : Entry :=
  let all := mergeContributors u.contributors v.contributors
  let kept := keepContributors all
  let flags := u.flags ||| v.flags
  { xMin := min u.xMin v.xMin, xMax := max u.xMax v.xMax, dMin := minDepth u.dMin v.dMin,
    dMax := maxDepth u.dMax v.dMax, peak := max u.peak v.peak, groups := u.groups ||| v.groups, contributors := kept,
    total := add32 u.total v.total, tJoin := u.tJoin,
    flags := if all.length ≤ Config.keptContributors then flags else flags ||| flagTruncated }

/-- Merge into an entry every entry of the list it overlaps, and repeat until none remains (R117). -/
def absorb (ma md : Nat) : Nat → Entry → List Entry → Entry × List Entry
  | 0, u, list => (u, list)
  | fuel + 1, u, list =>
    if list.any fun v => u.overlaps v ma md then
      absorb ma md fuel ((list.filter fun v => u.overlaps v ma md).foldl Entry.merge u)
        (list.filter fun v => !u.overlaps v ma md)
    else (u, list)

/-- An entry inserted at its place by x_min, after every entry of equal x_min (R113). -/
def insertEntry (e : Entry) : List Entry → List Entry
  | [] => [e]
  | v :: vs => if v.xMin ≤ e.xMin then v :: insertEntry e vs else e :: v :: vs

/-- The entry to finalize EARLY: the smallest T_join, then the lowest x_min, then the first in the list (R116). -/
def earliest : List Entry → Option Entry
  | [] => none
  | e :: es =>
    match earliest es with
    | none => some e
    | some f => if f.tJoin < e.tJoin ∨ (f.tJoin = e.tJoin ∧ f.xMin < e.xMin) then some f else some e

/-! ## Classification (R123, R124) -/

/-- An entry's groups at their places in a rule's masks. -/
def Entry.maskGroups (e : Entry) (r : Rail) : BitVec 16 := e.groups.zeroExtend 16 <<< (8 * Rail.idx r)

/-- The depth condition of a rule. -/
def ClassRule.depthHolds (q : ClassRule) (e : Entry) : Bool :=
  match e.dMin, e.dMax with
  | some a, some b => decide (q.depthMin ≤ a ∧ b ≤ q.depthMax)
  | _, _ => q.acceptNoDepth

/-- Every condition of a rule holds for an entry of a rail. -/
def ClassRule.holds (q : ClassRule) (e : Entry) (r : Rail) : Bool :=
  let groups := e.maskGroups r
  let required := BitVec.ofNat 16 q.required
  let anyOf := BitVec.ofNat 16 q.anyOf
  q.filter.admits r && groups &&& required == required && (anyOf == 0 || groups &&& anyOf != 0)
    && groups &&& BitVec.ofNat 16 q.excluded == 0 && q.depthHolds e
    && within q.lengthMin q.lengthMax (e.xMax - e.xMin + 1) && decide (q.minPeak ≤ e.peak)

/-- What a rule gives. -/
def ClassRule.classification (q : ClassRule) (index : Nat) : Classification :=
  { cls := q.cls, rule := some index, severity := q.severity, nozzle := q.nozzle, lead := q.lead, trail := q.trail }

/-- The classification of an entry with no rule (R124). -/
def defaultClass (plan : List Byte) (r : Rail) : Classification :=
  { cls := 255, rule := none, severity := Plan.defaultSeverity plan r, nozzle := Plan.defaultNozzle plan r, lead := 0,
    trail := 0 }

/-- The classification of an entry finalized with cause PLAN_ENDED (R124, R131). -/
def endedClass : Classification := { cls := 0, rule := none, severity := 0, nozzle := none, lead := 0, trail := 0 }

/-- The classification of an entry under a plan: the first rule that holds, else the defaults. -/
def classify (plan : List Byte) (r : Rail) (e : Entry) : Classification :=
  match (indexed (Plan.rules plan)).find? fun q => q.2.holds e r with
  | some q => q.2.classification q.1
  | none => defaultClass plan r

/-! ## Finalization (R122, R125 to R129) -/

/-- The mark interval (R127). -/
def markInterval (e : Entry) (c : Classification) (d : Dir) : Nat × Nat :=
  match d with
  | .decreasing => (clampPos ((e.xMin : Int) - c.trail), clampPos ((e.xMax : Int) + c.lead))
  | .increasing => (clampPos ((e.xMin : Int) - c.lead), clampPos ((e.xMax : Int) + c.trail))
  | .unknown => (clampPos ((e.xMin : Int) - c.lead), clampPos ((e.xMax : Int) + c.trail))

/-- The marker status that needs no mark request, none when one is to be sent (R126). -/
def State.markerStatus (s : State) (r : Rail) (e : Entry) (c : Classification) : Option MarkerStatus :=
  if c.nozzle.isNone then some .notRequired
  else if (s.rail r).asm.stopping then some .stopped
  else if hasFlag e.flags flagReversal then some .reversal
  else if (s.alarm.source .tachFault).state = .pending then some .noPosition
  else none

/-- The number the counter gives (R125). -/
def State.drawNumber (s : State) : State :=
  { s with indicationCounter := if s.indicationCounter < Config.maxU32 then s.indicationCounter + 1 else 1 }

/-- The INDICATION record (R128). -/
def Finalizing.record (f : Finalizing) (r : Rail) (status : MarkerStatus) (requested : Bool) : IndicationRecord :=
  { rail := r, number := f.number, planId := f.planId, cls := f.cls, status := status,
    interval := if requested then some (f.xStart, f.xEnd) else none, cause := f.cause, entry := f.entry, tFinal := f.t,
    pFinal := f.p, dir := f.dir }

/-- Steps 4 to 6: the record is offered, SEVERE_INDICATION raised, and the entry removed (R122). -/
def State.endFinal (s : State) (r : Rail) (f : Finalizing) (status : MarkerStatus) (requested : Bool) : State :=
  let s := s.offer (.assembler r) (.indication (f.record r status requested))
  let s := if f.cls.severity = 3 then
      s.raiseReport (.assembler r) .severeIndication (.indication r f.number f.cls.cls) else s
  s.modAsm r fun a => { a with list := a.list.erase f.entry }

/-- Steps 1 and 2: the number and the classification, with the values of the moment. With no plan in force an entry is
finalized as with cause PLAN_ENDED (R131). DEDUCED: log entry 18. DEDUCED: log entry 37. -/
def State.beginFinal (s : State) (r : Rail) (e : Entry) (cause : FinalCause) : Finalizing :=
  let ended : Bool := cause == .planEnded || !s.inForce
  let c := if ended then endedClass else classify s.plan r e
  let i := markInterval e c s.pos.dir
  { entry := e, cause := if ended then .planEnded else cause, number := s.indicationCounter,
    planId := if ended then 0 else s.plans.active.planId, cls := c, t := s.pos.t, p := s.pos.p, dir := s.pos.dir,
    xStart := i.1, xEnd := i.2, answer := none }

/-- Flush done on a marker, to the block that waits for its cause (R121). The Plan Store ignores the flush done of a
marker it has disowned, whose switch or stop a return to BOUND has ended (R34, R156). -/
def State.reportFlush (s : State) (r : Rail) (m : FlushMark) : State :=
  match m.cause with
  | .switch =>
    if m.tag = 0 then s.modPlans fun p => { p with switchDone := p.switchDone.modify r (· + 1) } else s
  | .stop => if m.tag = 0 then s.modPlans fun p => { p with stopDone := p.stopDone.modify r (· + 1) } else s
  | .flush => s.modReq fun q => { q with flushDone := q.flushDone.modify r (· ++ [m.tag]) }
  | .reversal => s
  | .tachFault => s

/-- What follows the finalizations of an item: an entry inserted behind the ASSEMBLY_FULL raise (R116), or flush done
(R121). DEDUCED: log entry 60. -/
def State.finishJob (s : State) (r : Rail) (after : AfterJob) : State :=
  let s := s.modAsm r fun a => { a with job := none }
  match after with
  | .nothing => s
  | .insert e =>
    (s.raiseReport (.assembler r) .assemblyFull (.rail r)).modAsm r fun a => { a with list := insertEntry e a.list }
  | .flushDone m => s.reportFlush r m

/-- Finalize entries one after the other; at an entry that needs a mark request the rest waits for the answer (R122,
R127). -/
def State.runJob (r : Rail) (after : AfterJob) : List (Entry × FinalCause) → State → State
  | [], s => s.finishJob r after
  | (e, cause) :: rest, s =>
    let f := s.beginFinal r e cause
    let s := s.drawNumber
    match s.markerStatus r e f.cls with
    | some status => State.runJob r after rest (s.endFinal r f status false)
    | none => s.modAsm r fun a => { a with job := some { current := f, todo := rest, after := after } }

/-- The assembler may take an item: no mark request is in hand (R127). DEDUCED: log entry 59. -/
def State.assemblerFree (s : State) (r : Rail) : Bool := (s.rail r).asm.job.isNone

/-- Taking an item of the ordered path would build an indication under the plan in force: a flush marker that finds
entries (R121), or a summary that overlaps none of a full list (R116). -/
def State.buildsUnderPlan (s : State) (r : Rail) : PathItem → Bool
  | .summary k =>
    let a := (s.rail r).asm
    s.inForce && decide (Config.assemblyEntries ≤ a.list.length) &&
      !a.list.any ((k.entry a.arrivals s.pos.t).overlaps · (Plan.marginA s.plan r) (Plan.marginD s.plan r))
  | .marker _ => s.inForce && !(s.rail r).asm.list.isEmpty

/-- The assembler may take an item of the ordered path (R114): it is free, and no stop-begun notice waits that an
indication built with the item would have to follow (R36, R130). DEDUCED: log entry 71. -/
def State.pathOpen (s : State) (r : Rail) (item : PathItem) : Bool :=
  s.assemblerFree r && !((s.rail r).asm.orders.contains .stopBegun && s.buildsUnderPlan r item)

/-! ## Items of the ordered path (R116, R117, R121, R131) -/

/-- The head of the ordered path taken. -/
def State.putPath (s : State) (r : Rail) (xs : List PathItem) : State := s.modTrk r fun k => { k with path := xs }

/-- A list with EARLY set on one of its entries. -/
def flagEarlyEntry (e : Entry) (list : List Entry) : List Entry :=
  list.map fun v => if v = e then { v with flags := v.flags ||| flagEarly } else v

/-- An arrival that overlaps no entry: it is inserted, behind an early finalization when the list is full (R116). -/
def State.arriveAlone (s : State) (r : Rail) (u : Entry) : State :=
  let list := (s.rail r).asm.list
  if list.length < Config.assemblyEntries then s.modAsm r fun a => { a with list := insertEntry u a.list }
  else
    match earliest list with
    | none => s
    | some e =>
      State.runJob r (.insert u) [({ e with flags := e.flags ||| flagEarly }, .early)]
        (s.modAsm r fun a => { a with list := flagEarlyEntry e a.list })

/-- A summary under a plan (R116, R117). -/
def State.arrive (s : State) (r : Rail) (u : Entry) : State :=
  let ma := Plan.marginA s.plan r
  let md := Plan.marginD s.plan r
  let list := (s.rail r).asm.list
  if list.any fun v => u.overlaps v ma md then
    let res := absorb ma md (list.length + 1) u list
    s.modAsm r fun a => { a with list := insertEntry res.1 res.2 }
  else s.arriveAlone r u

/-- A closed-track summary taken (R114, R116, R131). Whether a plan is in force decides, also between the emptying of
the bank and the notice of it. DESIGN CHOICE: log entry 76. -/
def State.takeSummary (s : State) (r : Rail) (k : Track) : State :=
  let u := k.entry (s.rail r).asm.arrivals s.pos.t
  let s := s.modAsm r fun a => { a with arrivals := a.arrivals + 1 }
  if s.inForce then s.arrive r u else State.runJob r .nothing [(u, .planEnded)] s

/-- TRACK_SUMMARY. -/
def execTrackSummary (r : Rail) (s : State) : Host.Outcome State Fault Refusal :=
  .next <| match (s.rail r).trk.path with
  | .summary k :: rest => if s.pathOpen r (.summary k) then (s.putPath r rest).takeSummary r k else s
  | _ => s

/-- A flush marker taken (R121): with no plan in force it finalizes nothing (R131), also between the emptying of the bank
and the notice of it. DESIGN CHOICE: log entry 76. -/
def State.takeMarker (s : State) (r : Rail) (m : FlushMark) : State :=
  let list := (s.rail r).asm.list
  State.runJob r (.flushDone m) (if s.inForce then list.map fun e => (e, .flush m.cause) else []) s

/-- An item of the ordered path taken. -/
def State.takePath (r : Rail) (s : State) : PathItem → State
  | .summary k => s.takeSummary r k
  | .marker m => s.takeMarker r m

/-- FLUSH_MARKER. -/
def execFlushMarker (r : Rail) (s : State) : Host.Outcome State Fault Refusal :=
  .next <| match (s.rail r).trk.path with
  | .marker m :: rest => if s.pathOpen r (.marker m) then (s.putPath r rest).takeMarker r m else s
  | _ => s

/-! ## Horizon, answers and notices (R120, R127, R130, R131) -/

/-- The entries at or beyond the horizon at a progress event, in list order (R120); with a horizon of 0, which only an
upset leaves, that takes in an entry of the event's own T. DESIGN CHOICE: log entry 74. -/
def State.horizonDue (s : State) (r : Rail) (t : Nat) : List (Entry × FinalCause) :=
  if s.inForce then
    ((s.rail r).asm.list.filter fun e => decide (e.tJoin + Plan.horizon s.plan r ≤ t)).map fun e => (e, .horizon)
  else []

/-- The head of the assembler's notices taken. -/
def State.putAsmNotices (s : State) (r : Rail) (xs : List PosNotice) : State :=
  s.modAsm r fun a => { a with notices := xs }

/-- HORIZON_FINALIZE. -/
def execHorizonFinalize (r : Rail) (s : State) : Host.Outcome State Fault Refusal :=
  .next <| match (s.rail r).asm.notices with
  | .progress t _ :: rest =>
    if s.assemblerFree r then State.runJob r .nothing (s.horizonDue r t) (s.putAsmNotices r rest) else s
  | _ => s

/-- The answer to the request in hand becomes the marker status, and the finalizations that waited go on, as begun also
where a stop has begun since. DESIGN CHOICE: log entry 117. -/
def State.takeAnswer (s : State) (r : Rail) : State :=
  match (s.rail r).asm.job with
  | some job =>
    match job.current.answer with
    | some status => State.runJob r job.after job.todo (s.endFinal r job.current status true)
    | none => s
  | none => s

/-- MARK_ANSWER. -/
def execMarkAnswer (r : Rail) (s : State) : Host.Outcome State Fault Refusal := .next (s.takeAnswer r)

/-- The head of the Plan Store's notices to the assembler taken. -/
def State.putAsmOrders (s : State) (r : Rail) (xs : List AssemblyOrder) : State :=
  s.modAsm r fun a => { a with orders := xs }

/-- STOP_BEGUN_NOTICE (R130). -/
def execStopBegunNotice (r : Rail) (s : State) : Host.Outcome State Fault Refusal :=
  .next <| match (s.rail r).asm.orders with
  | .stopBegun :: rest =>
    if s.assemblerFree r then (s.putAsmOrders r rest).modAsm r fun a => { a with stopping := true } else s
  | _ => s

/-- Every entry is finalized with cause PLAN_ENDED (R131). -/
def State.endEntries (s : State) (r : Rail) : State :=
  State.runJob r .nothing ((s.rail r).asm.list.map fun e => (e, .planEnded)) s

/-- ASSEMBLY_PLAN_ENDED. -/
def execAssemblyPlanEnded (r : Rail) (s : State) : Host.Outcome State Fault Refusal :=
  .next <| match (s.rail r).asm.orders with
  | .planEnded :: rest => if s.assemblerFree r then (s.putAsmOrders r rest).endEntries r else s
  | _ => s

end Sys2Proof.Machine
end

