-- ==== Sys2Proof/Machine/Markers.lean ====
section
/-! DEFINITION. The Marker Controller (chapter 8): nozzle positions, the marker queue and its travel order, answers to
mark requests, the outputs in their three modes, purges, translation, the plan switch, and MARKER records. -/

namespace Sys2Proof.Machine

/-! ## Nozzles and positions (R133, R136) -/

/-- A nozzle of a controller. -/
def Marker.nozzle (m : Marker) (j : Nat) : Nozzle := m.nozzles.getD j .cleared

/-- A nozzle changed. -/
def State.modNozzle (s : State) (r : Rail) (j : Nat) (f : Nozzle → Nozzle) : State :=
  s.modMrk r fun m => { m with nozzles := m.nozzles.modify j f }

/-- The nozzle position at P under the chainage sense held (R133). -/
def Nozzle.at (z : Nozzle) (sense : Int) (p : Nat) : Nozzle :=
  { z with position := z.desc.map fun d => (p : Int) + sense * d.offset }

/-- P as a notice carries it taken, and every nozzle position recomputed. -/
def Marker.reposition (m : Marker) (p : Nat) : Marker := { m with p := p, nozzles := m.nozzles.map fun z => z.at m.sense p }

/-- The output acts on the start of an entry (R136). -/
def Nozzle.start (z : Nozzle) : Nozzle :=
  match z.desc with
  | none => z
  | some d =>
    match d.mode with
    | .spray => { z with drive := true }
    | .latch => { z with drive := true, latched := true }
    | .pulse => { z with drive := true, pulse := some d.pulseLength }

/-- The output acts on the completion or removal of its last SPRAYING entry (R136). -/
def Nozzle.finish (z : Nozzle) : Nozzle :=
  match z.desc with
  | none => z
  | some d => if d.mode = .spray then { z with drive := z.latched } else z

/-- A drive turned off, its latched flag cleared and its pulse timer stopped (R136, R141). -/
def Nozzle.clearOutput (z : Nozzle) : Nozzle := { z with drive := false, latched := false, pulse := none }

/-- A nozzle whose plan has gone: no descriptor and no position, and the drive off except where latched (R133,
R136). DEDUCED: log entry 26. -/
def Nozzle.drop (z : Nozzle) : Nozzle := { z with desc := none, position := none, drive := z.latched }

/-! ## Intervals and travel order (R133, R134) -/

/-- A position has been passed by a nozzle standing at `n` (R133). -/
def Dir.passed (d : Dir) (n : Int) (x : Nat) : Bool :=
  match d with
  | .decreasing => decide (n < x)
  | .increasing => decide ((x : Int) < n)
  | .unknown => decide ((x : Int) < n)

/-- The near end of an interval (R133). -/
def Dir.nearEnd (d : Dir) (lo hi : Nat) : Nat :=
  match d with
  | .decreasing => hi
  | .increasing => lo
  | .unknown => lo

/-- The far end of an interval (R133). -/
def Dir.farEnd (d : Dir) (lo hi : Nat) : Nat :=
  match d with
  | .decreasing => lo
  | .increasing => hi
  | .unknown => hi

/-- A nozzle position lies within an interval. -/
def inside (n : Int) (lo hi : Nat) : Bool := decide ((lo : Int) ≤ n ∧ n ≤ hi)

/-- The distance between two intervals (R134). -/
def intervalDistance (lo hi lo' hi' : Nat) : Nat := if hi < lo' then lo' - hi else if hi' < lo then lo - hi' else 0

/-- An entry goes before another in travel order. -/
def MarkEntry.before (d : Dir) (u v : MarkEntry) : Bool :=
  match d with
  | .decreasing => decide (v.xEnd < u.xEnd)
  | .increasing => decide (u.xStart < v.xStart)
  | .unknown => decide (u.xStart < v.xStart)

/-- An entry placed by travel order, after any entry of equal key. -/
def insertMark (d : Dir) (e : MarkEntry) : List MarkEntry → List MarkEntry
  | [] => [e]
  | v :: vs => if e.before d v then e :: v :: vs else v :: insertMark d e vs

/-! ## MARKER records (R144) -/

/-- The MARKER record of an entry. -/
def State.markerRecord (s : State) (r : Rail) (e : MarkEntry) (reason : Option UnmarkedReason) : MarkerRecord :=
  { rail := r, nozzle := e.nozzle, reason := reason, broken := e.broken, xStart := e.xStart, xEnd := e.xEnd,
    origins := e.origins, originTotal := e.originTotal, p := s.pos.p, t := s.pos.t, dir := (s.rail r).mrk.dir }

/-- A mark abandoned: its record, and the raise of MARKER_UNMARKED. -/
def State.unmark (s : State) (r : Rail) (e : MarkEntry) (reason : UnmarkedReason) : State :=
  (s.offer (.marker r) (.marker (s.markerRecord r e (some reason)))).raiseReport (.marker r) .markerUnmarked
    (.unmarked r e.nozzle reason (e.origins.headD 0))

/-- A mark completed: its record. -/
def State.sprayed (s : State) (r : Rail) (e : MarkEntry) : State :=
  s.offer (.marker r) (.marker (s.markerRecord r e none))

/-- The outputs once entries have gone from a queue that was `before`: one with no SPRAYING entry left acts on the
completion or removal of the last it had, and one with another stays as it is (R136). -/
def Marker.settle (m : Marker) (before : List MarkEntry) : Marker :=
  { m with
    nozzles := (indexed m.nozzles).map fun x => if sprays before x.1 && !sprays m.queue x.1 then x.2.finish else x.2 }

/-- The queue replaced. -/
def State.putQueue (s : State) (r : Rail) (xs : List MarkEntry) : State := s.modMrk r fun m => { m with queue := xs }

/-- Go through the queue in travel order, each entry kept as changed or removed, and settle the outputs of the nozzles
whose SPRAYING entries have gone. -/
def State.eachMark (s : State) (r : Rail) (f : State → MarkEntry → State × Option MarkEntry) : State :=
  let before := (s.rail r).mrk.queue
  let res := before.foldl (fun acc e =>
    let y := f acc.1 e
    (y.1, acc.2 ++ y.2.toList)) (s, [])
  (res.1.putQueue r res.2).modMrk r fun m => m.settle before

/-! ## Position changes (R135) -/

/-- An entry judged at a position change. A PENDING entry that its nozzle has passed stays PENDING (log entry 124), and an
entry of a nozzle without a position keeps its state (log entry 125); only an upset leaves either. DESIGN CHOICE: both. -/
def State.passEntry (s : State) (r : Rail) (e : MarkEntry) : State × Option MarkEntry :=
  let m := (s.rail r).mrk
  match (m.nozzle e.nozzle).position with
  | none => (s, some e)
  | some n =>
    match e.state with
    | .pending =>
      if inside n e.xStart e.xEnd then (s.modNozzle r e.nozzle Nozzle.start, some { e with state := .spraying })
      else (s, some e)
    | .spraying => if m.dir.passed n (m.dir.farEnd e.xStart e.xEnd) then (s.sprayed r e, none) else (s, some e)

/-- The head of the controller's notices taken. -/
def State.putMarkNotices (s : State) (r : Rail) (xs : List PosNotice) : State :=
  s.modMrk r fun m => { m with notices := xs }

/-- A position change taken (R135). -/
def State.positionChanges (s : State) (r : Rail) (p : Nat) : State :=
  let s := s.modMrk r fun m => m.reposition p
  if s.inForce then s.eachMark r fun s e => s.passEntry r e else s

/-- POSITION_CHANGE. -/
def execPositionChange (r : Rail) (s : State) : Host.Outcome State Fault Refusal :=
  .next <| match (s.rail r).mrk.notices with
  | .positionChange p :: rest => (s.putMarkNotices r rest).positionChanges r p
  | _ => s

/-- MARKER_DIRECTION_DECLARED (R133). -/
def execMarkerDirectionDeclared (r : Rail) (s : State) : Host.Outcome State Fault Refusal :=
  .next <| match (s.rail r).mrk.notices with
  | .declared d _ :: rest => (s.putMarkNotices r rest).modMrk r fun m => { m with dir := d }
  | _ => s

/-! ## Merging (R138) -/

/-- What a merge has gathered: the interval, the origins of the entries merged, and what decides partial and state. -/
structure Gathered where
  xStart : Nat
  xEnd : Nat
  origins : List Nat
  originTotal : Nat
  broken : Bool
  spraying : List (Nat × Nat)
deriving DecidableEq, Repr

/-- An entry gathered in. -/
def Gathered.add (g : Gathered) (e : MarkEntry) : Gathered :=
  { xStart := min g.xStart e.xStart, xEnd := max g.xEnd e.xEnd, origins := g.origins ++ e.origins,
    originTotal := g.originTotal + e.originTotal, broken := g.broken || e.broken,
    spraying := if e.state = .spraying then g.spraying ++ [(e.xStart, e.xEnd)] else g.spraying }

/-- The place of the nearest entry of a nozzle within its merge distance of an interval, the first among equals. -/
def nearestWithin (queue : List MarkEntry) (nozzle lo hi within : Nat) : Option Nat :=
  ((indexed queue).foldl (fun best x =>
    let d := intervalDistance lo hi x.2.xStart x.2.xEnd
    if x.2.nozzle = nozzle ∧ d ≤ within then
      match best with
      | none => some (d, x.1)
      | some b => if d < b.1 then some (d, x.1) else some b
    else best) none).map Prod.snd

/-- Gather the nearest entry within the merge distance, and repeat until none is. DEDUCED: log entry 47. -/
def gather (nozzle within : Nat) : Nat → Gathered → List MarkEntry → Gathered × List MarkEntry
  | 0, g, queue => (g, queue)
  | fuel + 1, g, queue =>
    match nearestWithin queue nozzle g.xStart g.xEnd within with
    | none => (g, queue)
    | some i =>
      match queue[i]? with
      | none => (g, queue)
      | some e => gather nozzle within fuel (g.add e) (queue.eraseIdx i)

/-- A requested interval includes a passed millimetre that no SPRAYING entry merged covers. -/
def uncovered (d : Dir) (n : Int) (lo hi : Nat) (spraying : List (Nat × Nat)) : Bool :=
  match d with
  | .decreasing =>
    decide (n < hi) && !spraying.any fun k => decide ((k.1 : Int) ≤ max (lo : Int) (n + 1) ∧ hi ≤ k.2)
  | .increasing =>
    decide ((lo : Int) < n) && !spraying.any fun k => decide (k.1 ≤ lo ∧ min (hi : Int) (n - 1) ≤ k.2)
  | .unknown =>
    decide ((lo : Int) < n) && !spraying.any fun k => decide (k.1 ≤ lo ∧ min (hi : Int) (n - 1) ≤ k.2)

/-- The entry a merge forms, with the origins and the total given. -/
def Gathered.entry (g : Gathered) (nozzle : Nat) (n : Int) (origins : List Nat) (total : Nat) (broken : Bool) :
    MarkEntry :=
  { nozzle := nozzle, xStart := g.xStart, xEnd := g.xEnd, origins := origins.take 4, originTotal := min Config.maxU16 total,
    state := if g.spraying ≠ [] ∨ inside n g.xStart g.xEnd then .spraying else .pending, broken := broken }

/-- An entry placed in the queue; the output acts on its start when it sprays and did not before (R136, R138). -/
def State.placeMark (s : State) (r : Rail) (e : MarkEntry) (queue : List MarkEntry) (sprayedBefore : Bool) : State :=
  let s := s.putQueue r (insertMark (s.rail r).mrk.dir e queue)
  if e.state = .spraying ∧ sprayedBefore = false then s.modNozzle r e.nozzle Nozzle.start else s

/-! ## Mark requests (R137) -/

/-- The answer to the mark request in hand is given to the assembler. -/
def State.answerMark (s : State) (r : Rail) (x : MarkerStatus) : State :=
  s.modAsm r fun a => { a with job := a.job.map fun k => { k with current := { k.current with answer := some x } } }

/-- A request not taken into the queue: its record and raise, and its answer. -/
def State.rejectMark (s : State) (r : Rail) (e : MarkEntry) (reason : UnmarkedReason) (x : MarkerStatus) : State :=
  (s.unmark r e reason).answerMark r x

/-- A request merges with the entries it lies within the merge distance of (R138). -/
def State.mergeMark (s : State) (r : Rail) (e : MarkEntry) (n : Int) (within : Nat) : State :=
  let m := (s.rail r).mrk
  let res := gather e.nozzle within (m.queue.length + 1)
    { xStart := e.xStart, xEnd := e.xEnd, origins := [], originTotal := 0, broken := false, spraying := [] } m.queue
  let broken := res.1.broken || uncovered m.dir n e.xStart e.xEnd res.1.spraying
  s.placeMark r (res.1.entry e.nozzle n (res.1.origins ++ e.origins) (res.1.originTotal + 1) broken) res.2
    (res.1.spraying != [])

/-- A request becomes a new entry (R137, case 5). -/
def State.insertRequest (s : State) (r : Rail) (e : MarkEntry) (n : Int) : State :=
  let m := (s.rail r).mrk
  if inside n e.xStart e.xEnd then
    s.placeMark r { e with state := .spraying, broken := m.dir.passed n (m.dir.nearEnd e.xStart e.xEnd) } m.queue false
  else s.placeMark r e m.queue false

/-- The controller answers a mark request by the first case that applies (R137). A nozzle without a position belongs
to no plan in force: the request is then answered as when the queue is full. DEDUCED: log entry 19. -/
def State.judgeRequest (s : State) (r : Rail) (e : MarkEntry) : State :=
  let m := (s.rail r).mrk
  let z := m.nozzle e.nozzle
  if s.device = .locked then s.rejectMark r e .locked .queueFull
  else
    match z.position, z.desc with
    | some n, some d =>
      if m.dir.passed n (m.dir.farEnd e.xStart e.xEnd) then s.rejectMark r e .late .late
      else if (nearestWithin m.queue e.nozzle e.xStart e.xEnd d.mergeDistance).isSome then
        (s.mergeMark r e n d.mergeDistance).answerMark r .merged
      else if Config.markerEntries ≤ m.queue.length then s.rejectMark r e .queueFull .queueFull
      else (s.insertRequest r e n).answerMark r .queued
    | _, _ => s.rejectMark r e .planEnded .queueFull

/-- A mark request as an entry (R127, R137). -/
def Finalizing.request (f : Finalizing) : MarkEntry :=
  { nozzle := f.cls.nozzle.getD 0, xStart := f.xStart, xEnd := f.xEnd, origins := [f.number], originTotal := 1,
    state := .pending, broken := false }

/-! ## Purges (R139) -/

/-- A purge: every entry is removed in travel order, and SPRAY drives are off. -/
def State.purge (s : State) (r : Rail) (reason : UnmarkedReason) : State :=
  let s := (s.rail r).mrk.queue.foldl (fun s e => s.unmark r e reason) s
  s.modMrk r fun m => { m with queue := [], nozzles := m.nozzles.map Nozzle.finish }

/-- MARKER_REVERSAL_PURGE: the direction becomes the new one, and the queue is purged with it, so that the records
carry the new direction. DESIGN CHOICE: log entry 77. -/
def execMarkerReversalPurge (r : Rail) (s : State) : Host.Outcome State Fault Refusal :=
  .next <| match (s.rail r).mrk.notices with
  | .reversal d _ _ :: rest =>
    ((s.putMarkNotices r rest).modMrk r fun m => { m with dir := d }).purge r .reversal
  | _ => s

/-- MARKER_TACH_FAULT_PURGE. -/
def execMarkerTachFaultPurge (r : Rail) (s : State) : Host.Outcome State Fault Refusal :=
  .next <| if (s.rail r).mrk.tachNotices = 0 then s
    else (s.modMrk r fun m => { m with tachNotices := m.tachNotices - 1 }).purge r .tachFault

/-- The plan that defined the nozzles has gone (R133, R136). -/
def State.dropNozzles (s : State) (r : Rail) : State :=
  s.modMrk r fun m => { m with nozzles := m.nozzles.map Nozzle.drop }

/-- The head of the Plan Store's orders to a controller taken. -/
def State.putMarkOrders (s : State) (r : Rail) (xs : List MarkerOrder) : State :=
  s.modMrk r fun m => { m with orders := xs }

/-- MARKER_PLAN_ENDED_PURGE. -/
def execMarkerPlanEndedPurge (r : Rail) (s : State) : Host.Outcome State Fault Refusal :=
  .next <| match (s.rail r).mrk.orders with
  | .planEnded :: rest => ((s.putMarkOrders r rest).purge r .planEnded).dropNozzles r
  | _ => s

/-! ## Translation (R140) -/

/-- An entry translated by a preset. DEDUCED: log entry 36. -/
def State.translateEntry (s : State) (r : Rail) (delta : Int) (e : MarkEntry) : State × Option MarkEntry :=
  let lo := (e.xStart : Int) + delta
  let hi := (e.xEnd : Int) + delta
  if hi < 0 ∨ (Config.maxU32 : Int) < lo then (s.unmark r e .presetLimit, none)
  else
    (s, some { e with xStart := clampPos lo, xEnd := clampPos hi, broken := e.broken || offScale lo || offScale hi })

/-- MARKER_PRESET_TRANSLATE. -/
def execMarkerPresetTranslate (r : Rail) (s : State) : Host.Outcome State Fault Refusal :=
  .next <| match (s.rail r).mrk.notices with
  | .preset _ newP delta :: rest =>
    let s := (s.putMarkNotices r rest).eachMark r fun s e => s.translateEntry r delta e
    s.modMrk r fun m => m.reposition newP
  | _ => s

/-! ## The plan switch (R141) -/

/-- Entries whose nozzle the new plan does not define are removed, and the output of each such nozzle is cleared, whatever
the controller has read of the old plan (R141, part 1). -/
def State.removeUndefined (s : State) (r : Rail) (descs : List (Option NozzleDesc)) : State :=
  s.eachMark r fun s e =>
    if (descs.getD e.nozzle none).isNone then
      ((s.unmark r e .planSwitch).modNozzle r e.nozzle Nozzle.clearOutput, none)
    else (s, some e)

/-- A nozzle of the old plan brought under its new descriptor: an output whose mode has gone is cleared, and a SPRAY
nozzle with a SPRAYING entry is driven again at once (R141, parts 1 and 2). A nozzle the old plan did not define and
that had no entry keeps a latch of an earlier plan. DESIGN CHOICE: log entry 78. -/
def Nozzle.rebrand (z : Nozzle) (new : Option NozzleDesc) (spraying : Bool) : Nozzle :=
  match z.desc, new with
  | some _, none => { z.clearOutput with desc := none }
  | some a, some b =>
    if a.mode = b.mode then { z with desc := some b }
    else { z.clearOutput with desc := some b, drive := spraying && b.mode == .spray }
  | none, _ => { z with desc := new }

/-- The nozzles brought under a plan's descriptors, with their positions. DEDUCED: log entry 20. -/
def Marker.adopt (m : Marker) (descs : List (Option NozzleDesc)) (sense : Int) : Marker :=
  { m with sense := sense,
           nozzles := (indexed m.nozzles).map fun x =>
             (x.2.rebrand (descs.getD x.1 none) (sprays m.queue x.1)).at sense m.p }

/-- An entry judged afresh when its nozzle's position has changed (R141, part 3). -/
def State.rejudge (s : State) (r : Rail) (old : List Nozzle) (e : MarkEntry) : State × Option MarkEntry :=
  let m := (s.rail r).mrk
  match (m.nozzle e.nozzle).position with
  | none => (s, some e)
  | some n =>
    if (old.getD e.nozzle .cleared).position = some n then (s, some e)
    else
      match e.state with
      | .spraying => (s.sprayed r { e with broken := true }, none)
      | .pending =>
        if m.dir.passed n (m.dir.farEnd e.xStart e.xEnd) then (s.unmark r e .planSwitch, none)
        else if inside n e.xStart e.xEnd then
          (s.modNozzle r e.nozzle Nozzle.start,
           some { e with state := .spraying, broken := e.broken || m.dir.passed n (m.dir.nearEnd e.xStart e.xEnd) })
        else (s, some e)

/-- An entry as the start of a merge of its own. -/
def MarkEntry.gathered (e : MarkEntry) : Gathered :=
  { xStart := e.xStart, xEnd := e.xEnd, origins := e.origins, originTotal := e.originTotal, broken := e.broken,
    spraying := if e.state = .spraying then [(e.xStart, e.xEnd)] else [] }

/-- Entries placed by travel order one after the other, each after any entry of equal key. -/
def insertMarks (d : Dir) (queue es : List MarkEntry) : List MarkEntry := es.foldl (fun q e => insertMark d e q) queue

/-- Entries of a nozzle that now lie within its merge distance are merged, in travel order (R141, part 4): the entries
left alone keep their order, and the merged ones take their places behind them, the first merged first (R134). -/
def State.remerge (r : Rail) : Nat → List MarkEntry → List MarkEntry → List MarkEntry → State → State
  | 0, todo, kept, merged, s => s.putQueue r (insertMarks (s.rail r).mrk.dir (kept ++ todo) merged)
  | _, [], kept, merged, s => s.putQueue r (insertMarks (s.rail r).mrk.dir kept merged)
  | fuel + 1, e :: rest, kept, merged, s =>
    let z := (s.rail r).mrk.nozzle e.nozzle
    let res := gather e.nozzle ((z.desc.map NozzleDesc.mergeDistance).getD 0) (rest.length + 1) e.gathered rest
    if res.2.length = rest.length then State.remerge r fuel rest (kept ++ [e]) merged s
    else
      let x := res.1.entry e.nozzle (z.position.getD (-1)) res.1.origins res.1.originTotal res.1.broken
      State.remerge r fuel res.2 kept (merged ++ [x])
        (if x.state = .spraying ∧ res.1.spraying = [] then s.modNozzle r x.nozzle Nozzle.start else s)

/-- The descriptors of the plan in force for a rail. -/
def State.nozzleDescs (s : State) (r : Rail) : List (Option NozzleDesc) :=
  (List.range 4).map fun j => if s.inForce then Plan.nozzle s.plan r j else none

/-- The queue brought under the new plan at step 6 of a switch (R141); part 3 goes through the whole queue in travel
order, whichever nozzles have moved. DESIGN CHOICE: log entry 86. -/
def State.checkNozzles (s : State) (r : Rail) : State :=
  let descs := s.nozzleDescs r
  let old := (s.rail r).mrk.nozzles
  let s := s.removeUndefined r descs
  let s := s.modMrk r fun m => m.adopt descs (Plan.sense s.plan)
  let s := s.eachMark r fun s e => s.rejudge r old e
  let queue := (s.rail r).mrk.queue
  State.remerge r (queue.length + 1) queue [] [] s

/-- NOZZLE_CHECK. -/
def execNozzleCheck (r : Rail) (s : State) : Host.Outcome State Fault Refusal :=
  .next <| match (s.rail r).mrk.orders with
  | .nozzleCheck :: rest => (s.putMarkOrders r rest).checkNozzles r
  | _ => s

/-! ## Mark requests taken (R29, R137) -/

/-- The nozzle checks at the head of a controller's orders are carried out. -/
def State.takeNozzleChecks (r : Rail) : List MarkerOrder → State → State
  | .nozzleCheck :: rest, s => State.takeNozzleChecks r rest ((s.putMarkOrders r rest).checkNozzles r)
  | _, s => s

/-- The request in hand that is not yet answered is judged. Since the swap of a switch every block reads the new plan for a
mark not yet scheduled (R29), so a check of the nozzles that still waits is carried out first; in LOCKED nothing is left to
judge by them. DEDUCED: log entry 107. -/
def State.answerRequest (s : State) (r : Rail) : State :=
  match (s.rail r).asm.job with
  | some job =>
    if job.current.answer.isNone then
      let s := if s.device = .locked then s else State.takeNozzleChecks r (s.rail r).mrk.orders s
      s.judgeRequest r job.current.request
    else s
  | none => s

/-- MARK_REQUEST. -/
def execMarkRequest (r : Rail) (s : State) : Host.Outcome State Fault Refusal := .next (s.answerRequest r)

/-- The nozzles as a plan comes into force from BOUND (R30, R133). -/
def State.adoptNozzles (s : State) (r : Rail) : State :=
  s.modMrk r fun m =>
    { m with sense := Plan.sense s.plan,
             nozzles := (indexed m.nozzles).map fun x =>
               ({ x.2 with desc := (s.nozzleDescs r).getD x.1 none }).at (Plan.sense s.plan) m.p }

/-! ## Timers (R136, R142) -/

/-- PULSE_TIMER_EXPIRY: it acts while the timer runs. A nozzle that an upset has given another mode keeps its drive.
DESIGN CHOICE: log entry 116. -/
def execPulseTimerExpiry (r : Rail) (nozzle : Nat) (s : State) : Host.Outcome State Fault Refusal :=
  .next <| if (((s.rail r).mrk.nozzle nozzle).pulse).isNone then s
    else s.modNozzle r nozzle fun z =>
      { z with pulse := none,
               drive := if (z.desc.map NozzleDesc.mode).getD .pulse = .pulse then z.latched else z.drive }

/-- TEST_TIMER_EXPIRY: the request of the test in hand is written DONE. -/
def execTestTimerExpiry (r : Rail) (nozzle : Nat) (s : State) : Host.Outcome State Fault Refusal :=
  .next <| match ((s.rail r).mrk.nozzle nozzle).test with
  | none => s
  | some k => (s.modNozzle r nozzle fun z => { z with test := none }).complete k.index .done .ok []

/-! ## The MARKER request (R142, R143) -/

/-- The fields of a MARKER request: rail code, nozzle, action and duration (R183). -/
def Request.marker (q : Request) : Nat × Nat × Nat × Nat :=
  (byteAt q.params 0, byteAt q.params 1, byteAt q.params 2, u16At q.params 4)

/-- A MARKER request with action TEST, or with an action code outside its range (R142): a nozzle that is both undefined
and under test is refused with BAD_PARAMETER. DESIGN CHOICE: log entry 87. -/
def State.markerTest (s : State) (q : Request) : State :=
  let k := q.marker
  match railOfCode k.1 with
  | none => s.refuse q .badParameter
  | some r =>
    if 3 < k.2.1 ∨ k.2.2.1 ≠ 0 ∨ k.2.2.2 < 1 ∨ 2000 < k.2.2.2 then s.refuse q .badParameter
    else if s.inForce ∧ (Plan.nozzle s.plan r k.2.1).isNone then s.refuse q .badParameter
    else if ((s.rail r).mrk.nozzle k.2.1).test.isSome then s.refuse q .busy
    else (s.take q).modNozzle r k.2.1 fun z => { z with test := some { index := q.index, duration := k.2.2.2 } }

/-- A RELEASE of a nozzle: its latch is cleared, and the drive that the latch held on turned off (R143). -/
def Nozzle.release (z : Nozzle) (spraying : Bool) : Nozzle :=
  let mode := z.desc.map NozzleDesc.mode
  if z.latched then
    { z with latched := false,
             drive := (mode == some .spray && spraying) || (mode == some .pulse && z.pulse.isSome) }
  else z

/-- A MARKER request with action RELEASE (R142, R143). -/
def State.markerRelease (s : State) (q : Request) : State :=
  let k := q.marker
  match railOfCode k.1 with
  | none => s.refuse q .badParameter
  | some r =>
    if 3 < k.2.1 then s.refuse q .badParameter
    else
      let m := (s.rail r).mrk
      (s.modNozzle r k.2.1 fun z => z.release (sprays m.queue k.2.1)).done q (leBool (m.nozzle k.2.1).latched)

/-! ## LOCKED (R145) -/

/-- The controller at the entry to LOCKED. -/
def State.lockMarker (s : State) (r : Rail) : State :=
  s.modMrk r fun m => { m with queue := [], nozzles := m.nozzles.map fun z => { z.clearOutput with test := none } }

end Sys2Proof.Machine
end

