-- ==== Sys2Proof/Machine/Sources.lean ====
section
/-! DEFINITION. The Alarm Unit's source records: what a raise of a source does (R147), its end (R148), suppression
(R149), the soft levels of a plan (R151) and ALARM records (R158). What a fault does to the device stands in
Machine/Alarms.lean. -/

namespace Sys2Proof.Machine

/-- Change the record of a source in the state. -/
def State.modSource (s : State) (src : Source) (f : SourceRecord → SourceRecord) : State :=
  s.modAlarm fun a => a.modSource src f

/-- The alarm level formed anew: the ALARM cause is set when it has passed from a value at or below the attention
threshold to a value above it (R152). -/
def State.formed (before : Nat) (s : State) : State :=
  if before ≤ s.alarm.threshold ∧ s.alarm.threshold < s.alarm.alarmLevel then s.setCause .alarm else s

/-- An ALARM record of a source, as it stands after the action (R158). DEDUCED: log entry 52. -/
def State.alarmRecord (s : State) (src : Source) (action : AlarmAction) (raises : Nat) (conflict : Bool) : State :=
  let x := s.alarm.source src
  s.offer .alarmUnit (.alarm
    { source := src, action := action, state := x.state, level := x.level, raiseCount := raises, conflict := conflict,
      detail := x.detail, alarmLevel := s.alarm.alarmLevel, topSource := s.alarm.topSource, device := s.device,
      suppression := s.alarm.suppression, p := s.pos.p, t := s.pos.t })

/-! ## Raises (R147) -/

/-- The cases of R147, in its order. -/
inductive RaiseCase where
  | unbound
  | disabled
  | counts
  | suppressed
  | pends
deriving DecidableEq, Repr

/-- A soft source at level 1..6, which suppression holds back (R149). -/
def AlarmUnit.suppressible (a : AlarmUnit) (src : Source) : Bool :=
  !src.isFault && within 1 6 (a.source src).level

/-- Which case applies to a raise of a source. -/
def State.raiseCase (s : State) (src : Source) : RaiseCase :=
  if s.device = .unbound then .unbound
  else if src.isFault = false ∧ (s.alarm.source src).level = 0 then .disabled
  else if (s.alarm.source src).state = .pending then .counts
  else if s.alarm.suppressible src ∧ 0 < s.alarm.suppression then .suppressed
  else .pends

/-- The latest detail of a raise: for LINK_DOWN the rail mask that it gives. DEDUCED: log entry 40. -/
def AlarmUnit.latestDetail (a : AlarmUnit) (src : Source) (d : Detail) : Detail :=
  if src = .linkDown then .mask a.linkMask.a a.linkMask.b else d

/-- A raise of LINK_DOWN adds its rail to the mask (R148). -/
def State.maskRail (s : State) (src : Source) (d : Detail) : State :=
  match src, d with
  | .linkDown, .rail r => s.modAlarm fun a => { a with linkMask := a.linkMask.set r true }
  | _, _ => s

/-- A raise's first effect: the rail mask of LINK_DOWN, the latest detail and the present flag (R147, R148). -/
def State.storeRaise (s : State) (src : Source) (d : Detail) : State :=
  let s := s.maskRail src d
  s.modSource src fun x =>
    { x with detail := some (s.alarm.latestDetail src d), present := x.present || src.isCondition }

/-- The source becomes PENDING with raise_count 0. -/
def State.pend (s : State) (src : Source) : State :=
  s.modSource src fun x => { x with state := .pending, raiseCount := 0 }

/-- The raise only counts, at level 0 as while PENDING. DESIGN CHOICE: log entry 90. -/
def State.countRaise (s : State) (src : Source) : State :=
  s.modSource src fun x => { x with raiseCount := bump16 x.raiseCount }

/-- The raise is suppressed: it is counted, and its record is built. -/
def State.suppressRaise (s : State) (src : Source) : State :=
  (s.modAlarm fun a => { a with suppressedCount := bump16 a.suppressedCount }).alarmRecord src .suppressed 0 false

/-- The effect of R147 on a soft source, the alarm level not yet formed. -/
def State.raiseSoft (s : State) (src : Source) : State :=
  match s.raiseCase src with
  | .unbound => s
  | .disabled => s.countRaise src
  | .counts => s.countRaise src
  | .suppressed => s.suppressRaise src
  | .pends => (s.pend src).alarmRecord src .raised 0 false

/-! ## Ends (R148) -/

/-- An end of LINK_DOWN takes its rail from the mask (R148). -/
def State.unmaskRail (s : State) (src : Source) (rail : Option Rail) : State :=
  match src, rail with
  | .linkDown, some r => s.modAlarm fun a => { a with linkMask := a.linkMask.set r false }
  | _, _ => s

/-- The end of a condition, for LINK_DOWN that of one rail: the present flag, and a CLEARED record when the source was
ACKNOWLEDGED. -/
def State.endCondition (s : State) (src : Source) (rail : Option Rail) : State :=
  let s := s.unmaskRail src rail
  if src = .linkDown ∧ (s.alarm.linkMask.a ∨ s.alarm.linkMask.b) then s
  else
    let before := s.alarm.alarmLevel
    let s := s.modSource src fun x => { x with present := false }
    let x := s.alarm.source src
    if x.state = .acknowledged ∧ s.device ≠ .unbound then
      ((s.modSource src fun x => { x with state := .idle }).alarmRecord src .cleared x.raiseCount false).formed before
    else s

/-! ## Suppression and soft levels (R149, R151) -/

/-- Do the same for each source in id order: several waiting conditions are raised so. DESIGN CHOICE: log entry 88. -/
def State.eachSource (s : State) (f : State → Source → State) : State := Source.all.foldl f s

/-- A soft condition that is IDLE with its present flag set. -/
def AlarmUnit.waiting (a : AlarmUnit) (src : Source) : Bool :=
  src.isCondition && !src.isFault && (a.source src).state == .idle && (a.source src).present

/-- Suppression ends: every soft condition source at level 1..6 that is IDLE with its present flag set is raised with
its latest detail (R149). -/
def State.suppressionEnds (s : State) : State :=
  (s.eachSource fun s src => if s.alarm.waiting src && s.alarm.suppressible src then s.raiseSoft src else s).formed
    s.alarm.alarmLevel

/-- A new level applied to a soft source: at level 0 a PENDING or ACKNOWLEDGED source becomes IDLE, with a CLEARED
record (R151). -/
def State.clearDisabled (s : State) (src : Source) : State :=
  let x := s.alarm.source src
  if src.isFault = false ∧ x.level = 0 ∧ x.state ≠ .idle then
    (s.modSource src fun x => { x with state := .idle }).alarmRecord src .cleared x.raiseCount false
  else s

/-- A waiting condition that a raise would now make PENDING is raised (R151). -/
def State.raiseWaiting (s : State) (src : Source) : State :=
  if s.alarm.waiting src && s.raiseCase src == .pends then s.raiseSoft src else s

/-- The soft levels change (R151). DEDUCED: log entry 35. All clears come before all raises. DESIGN CHOICE: log entry 88. A
level above 7, which only an upset leaves, is taken as it is. DESIGN CHOICE: log entry 119. -/
def State.setSoftLevels (s : State) (levels : List Nat) : State :=
  let before := s.alarm.alarmLevel
  let s := s.modAlarm fun a =>
    { a with sources := (indexed a.sources).map fun x =>
        if x.1 < 12 then { x.2 with level := levels.getD x.1 0 } else x.2 }
  ((s.eachSource State.clearDisabled).eachSource State.raiseWaiting).formed before

/-- Every soft level returns to 4 (R146). -/
def State.defaultLevels (s : State) : State := s.setSoftLevels (List.replicate 12 Config.defaultSoftLevel)

end Sys2Proof.Machine
end

