-- ==== Sys2Proof/Machine/PlanStore.lean ====
section
/-! DEFINITION. The Plan Store (chapter 2): loads and their validation, activation from BOUND, the plan switch, the
stop, the emptying of the ACTIVE bank after PLAN_FAULT, and the halt at the entry to LOCKED. -/

namespace Sys2Proof.Machine

/-! ## Requests and loads (R20, R27, R28) -/

/-- A request's address and length of a plan (R183). -/
def Request.plan (q : Request) : Nat × Nat := (u64At q.params 0, u32At q.params 8)

/-- Fault words of a result: code and offset (R183). -/
def faultWords (fault : PlanFaultCode × Nat) : List Byte := le8 fault.1.code ++ List.replicate 3 0 ++ le32 fault.2

/-- A load begins: STANDBY is LOADING, and the request is written TAKEN (R20). STANDBY shows plan id 0 until its plan
has been validated. DESIGN CHOICE: log entry 80. -/
def State.startLoad (s : State) (q : Request) (purpose : LoadPurpose) : State :=
  (s.take q).modPlans fun p =>
    { p with standby := { Bank.cleared with state := .loading },
             load := some { purpose := purpose, index := q.index, address := q.plan.1, length := q.plan.2 } }

/-- CHECK_PLAN (R27). -/
def State.checkPlan (s : State) (q : Request) : State :=
  if s.plans.standby.state ≠ .empty then s.refuse q .busy
  else if lengthFault q.plan.2 then s.done q (faultWords (.badLayout, 0) ++ le32 0)
  else s.startLoad q .check

/-- The switch mode of a code (R189). -/
def switchModeOf (n : Nat) : Option SwitchMode := if n = 0 then some .immediate else if n = 1 then some .atPosition else none

/-- ACTIVATE_PLAN (R28). -/
def State.activatePlan (s : State) (q : Request) : State :=
  if s.device = .faulted then s.refuse q .notActive
  else
    match switchModeOf (byteAt q.params 12) with
    | none => s.refuse q .badParameter
    | some mode =>
      if s.plans.standby.state ≠ .empty then s.refuse q .busy
      else if s.plans.stop.isSome then s.refuse q .busy
      else if lengthFault q.plan.2 then s.answer q .refused .planInvalid (faultWords (.badLayout, 0))
      else s.startLoad q (.activate (s.device == .active) mode (u32At q.params 16))

/-- The load in progress is over and STANDBY is EMPTY. -/
def State.dropLoad (s : State) : State := s.modPlans fun p => { p with load := none, standby := .cleared }

/-- PLAN_LOAD_ERROR (R20). -/
def execPlanLoadError (s : State) : Host.Outcome State Fault Refusal :=
  .next <| match s.plans.load with
  | none => s
  | some l =>
    (s.dropLoad.complete l.index .refused .hostMemory []).raiseReport .planStore .contextFault (.block .planStore)

/-! ## Snapshots cancelled (R168) -/

/-- A snapshot in flight on a rail is REFUSED with CANCELLED (R168); of a write of its samples under way nothing stands.
DESIGN CHOICE: log entry 109. -/
def State.cancelSnapshot (s : State) (r : Rail) : State :=
  match s.req.snapshot.get r with
  | none => s
  | some x =>
    (s.modReq fun q => { q with snapshot := q.snapshot.set r none }).complete x.index .refused .cancelled []

/-- The snapshots of both rails are cancelled, rail A before rail B. DESIGN CHOICE: log entry 121. -/
def State.cancelSnapshots (s : State) : State := s.bothRails fun r s => s.cancelSnapshot r

/-! ## A plan comes into force (R29) -/

/-- An order of the Plan Store to a Sequencer. -/
def State.orderSeq (s : State) (o : SeqOrder) (r : Rail) : State := s.modSeq r fun q => { q with orders := q.orders ++ [o] }

/-- The next sweep-step mark and the survey mark of a rail under the plan in force (R29, R62). -/
def State.setMarks (s : State) (r : Rail) : State :=
  s.modSeq r fun q =>
    { q with nextMark := add32 s.pos.t (Plan.step s.plan r),
             surveyMark := add32 s.pos.t (Plan.surveyInterval s.plan) }

/-- The banks exchange roles: the PENDING plan is VALID in the ACTIVE bank, STANDBY is EMPTY, and no activation is
pending (R30, R33). -/
def State.swapBanks (s : State) : State :=
  s.modPlans fun p =>
    { p with active := { p.standby with state := .valid }, standby := .cleared, pendingActivation := none }

/-- What a plan coming into force hands out at once: the soft alarm levels and the marks (R29). -/
def State.planInForce (s : State) : State :=
  ((s.setSoftLevels (Plan.alarmLevels s.plan)).setMarks .A).setMarks .B

/-- The words of a finished activation: plan_id and T at the swap (R183). -/
def activationWords (planId t : Nat) : List Byte := le32 planId ++ le32 t

/-! ## Activation from BOUND (R30) -/

/-- The correlator's ending of an earlier plan, not yet taken, is taken. -/
def State.endTracks (s : State) (r : Rail) : State :=
  let orders := (s.rail r).trk.orders
  if orders.contains .planEnded then (s.putTrackOrders r (orders.filter (· != .planEnded))).discardTracks r else s

/-- The Marker Controller's ending of an earlier plan, not yet taken, is taken. -/
def State.endMarks (s : State) (r : Rail) : State :=
  let orders := (s.rail r).mrk.orders
  if orders.contains .planEnded then
    ((s.putMarkOrders r (orders.filter (· != .planEnded))).purge r .planEnded).dropNozzles r
  else s

/-- The assembler's ending of an earlier plan, not yet taken, is taken. -/
def State.endAssembly (s : State) (r : Rail) : State :=
  let orders := (s.rail r).asm.orders
  if orders.contains .planEnded then (s.putAsmOrders r (orders.filter (· != .planEnded))).endEntries r else s

/-- The items left on a rail's release path are taken, and then the hits left on their way to its correlator (R89). -/
def State.drainReleases (s : State) (r : Rail) : State :=
  let s := (s.rail r).eval.release.foldl (State.takeReleased r) (s.putRelease r [])
  (s.rail r).trk.hits.foldl (fun s h => s.takeHit r h) (s.modTrk r fun k => { k with hits := [] })

/-- A finalization in hand goes to its end, its mark request answered, and then the items left on the ordered path are
taken (R131). -/
def State.drainPath (s : State) (r : Rail) : State :=
  let s := (s.answerRequest r).takeAnswer r
  (s.rail r).trk.path.foldl (State.takePath r) (s.putPath r [])

/-- What a rail's blocks have not taken of an earlier plan is taken, while no plan is in force (R89, R109, R131,
R139). -/
def State.takeEndings (s : State) (r : Rail) : State :=
  (((s.drainReleases r).endTracks r).endMarks r |>.drainPath r).endAssembly r

/-- What is left of an earlier plan is taken, the Coupling Monitor's ending first. DEDUCED: log entry 28. -/
def State.takeAllEndings (s : State) : State :=
  let s := if s.coupling.orders.contains .planEnded then
      (s.modCoupling fun m => { m with orders := m.orders.filter (· != .planEnded) }).couplingEnds else s
  s.bothRails fun r s => s.takeEndings r

/-- A rail at an activation from BOUND: its survey counts are 0 and its nozzles those of the plan (R61, R133). -/
def State.startRail (s : State) (r : Rail) : State :=
  ((s.count r fun _ => .zero).clearRailCounts r).adoptNozzles r

/-- Both rails leave OFF, and the Coupling Monitor is brought in step with their carriages (R41, R59, R88). -/
def State.railsOn (s : State) : State :=
  (s.bothRails fun r s => s.railOn r).bothRails fun r s => s.carriageInStep r

/-- An activation from BOUND takes place (R30). -/
def State.activateFromBound (s : State) (a : PendingActivation) : State :=
  let s := s.takeAllEndings.swapBanks.planInForce
  let s := (s.bothRails fun r s => s.startRail r).couplingReset
  let s := { s with device := .active }.railsOn
  (s.complete a.index .done .ok (activationWords s.plans.active.planId s.pos.t)).announce

/-! ## The switch (R31 to R34) -/

/-- P lies at or beyond a position in the declared direction (R31). -/
def State.beyond (s : State) (position : Nat) : Bool :=
  match s.pos.dir with
  | .unknown => false
  | .increasing => decide (position ≤ s.pos.p)
  | .decreasing => decide (s.pos.p ≤ position)

/-- The switch protocol begins: both Sequencers are ordered to hold, and snapshots in flight are cancelled (R32,
R168). -/
def State.beginSwitch (s : State) (index : Nat) : State :=
  let s := s.modPlans fun p =>
    { p with protocol := some { index := index, step := 1, held := ⟨false, false⟩, flushed := ⟨false, false⟩, swapT := 0 } }
  (s.bothRails fun r s => s.orderSeq .hold r).cancelSnapshots

/-- A pending switch whose point is reached begins its protocol when the device is ACTIVE and no protocol runs.
DEDUCED: log entry 64. -/
def State.startReached (s : State) : State :=
  match s.plans.pendingActivation with
  | none => s
  | some a =>
    if a.fromActive ∧ a.reached ∧ s.device = .active ∧ s.plans.protocol = none then s.beginSwitch a.index else s

/-- The switch-point test of a pending switch (R31). -/
def State.testSwitch (s : State) : State :=
  match s.plans.pendingActivation with
  | none => s
  | some a =>
    if a.fromActive ∧ a.reached = false ∧ (a.mode = .immediate ∨ s.beyond a.position) then
      (s.modPlans fun p => { p with pendingActivation := some { a with reached := true } }).startReached
    else s

/-- SWEEP_STEP_REPORT. -/
def execSweepStepReport (r : Rail) (s : State) : Host.Outcome State Fault Refusal :=
  .next <| if s.plans.stepReports.get r = 0 then s
    else (s.modPlans fun p => { p with stepReports := p.stepReports.modify r (· - 1) }).testSwitch

/-- A running protocol changed. -/
def State.modProtocol (s : State) (f : SwitchProtocol → SwitchProtocol) : State :=
  s.modPlans fun p => { p with protocol := p.protocol.map f }

/-- A stop in progress changed. -/
def State.modStop (s : State) (f : StopInProgress → StopInProgress) : State :=
  s.modPlans fun p => { p with stop := p.stop.map f }

/-- An order of the Plan Store to a correlator. -/
def State.orderTrack (s : State) (r : Rail) (o : TrackOrder) : State := s.modTrk r fun k => { k with orders := k.orders ++ [o] }

/-- An order of the Plan Store to a Marker Controller. -/
def State.orderMark (s : State) (r : Rail) (o : MarkerOrder) : State := s.modMrk r fun m => { m with orders := m.orders ++ [o] }

/-- A notice of the Plan Store to an assembler. -/
def State.orderAsm (s : State) (r : Rail) (o : AssemblyOrder) : State := s.modAsm r fun a => { a with orders := a.orders ++ [o] }

/-- A notice of the Plan Store to the Coupling Monitor. -/
def State.orderCoupling (s : State) (o : CouplingOrder) : State := s.modCoupling fun m => { m with orders := m.orders ++ [o] }

/-- The Plan Store takes a rail-held report: step 2 of the switch that runs, or of the stop (R32, R36). In LOCKED it
acts on it no further (R39). -/
def State.railHeld (s : State) (r : Rail) : State :=
  if s.device = .locked then s
  else
    match s.plans.protocol, s.plans.stop with
    | some x, _ =>
      if x.step < 4 ∧ x.held.get r = false then
        (s.modProtocol fun x => { x with held := x.held.set r true, step := max 2 x.step }).orderTrack r .cut
      else s
    | none, some x =>
      if x.begun ∧ x.held.get r = false then
        (s.modStop fun x => { x with held := x.held.set r true, step := max 2 x.step }).orderTrack r .stop
      else s
    | none, none => s

/-- RAIL_HELD_REPORT. -/
def execRailHeldReport (r : Rail) (s : State) : Host.Outcome State Fault Refusal :=
  .next <| if s.plans.heldReports.get r = 0 then s
    else (s.modPlans fun p => { p with heldReports := p.heldReports.modify r (· - 1) }).railHeld r

/-- Step 4 and the orders of steps 5 and 6 (R33). DEDUCED: log entry 23. -/
def State.swapPlans (s : State) : State :=
  let s := s.swapBanks.planInForce
  let s := s.modProtocol fun x => { x with step := 6, swapT := s.pos.t }
  let s := (s.orderCoupling .planReset).bothRails fun r s => s.orderMark r .nozzleCheck
  s.announce

/-- Step 4 is taken once both rails have flushed, and not while the device is FAULTED (R33, R34).
DEDUCED: log entry 65. -/
def State.trySwap (s : State) : State :=
  match s.plans.protocol with
  | none => s
  | some x =>
    if x.step < 4 ∧ x.flushed.a ∧ x.flushed.b ∧ s.device = .active then s.swapPlans else s

/-- The Plan Store takes flush done for the switch (R33). -/
def State.switchFlushed (s : State) (r : Rail) : State :=
  if s.device = .locked then s
  else (s.modProtocol fun x => { x with flushed := x.flushed.set r true, step := max 3 x.step }).trySwap

/-- SWITCH_FLUSH_DONE. -/
def execSwitchFlushDone (r : Rail) (s : State) : Host.Outcome State Fault Refusal :=
  .next <| if s.plans.switchDone.get r = 0 then s
    else (s.modPlans fun p => { p with switchDone := p.switchDone.modify r (· - 1) }).switchFlushed r

/-! ## The stop (R35, R36) -/

/-- A stop begins to be carried out (R36, R130, R168). -/
def State.beginStop (s : State) : State :=
  let s := s.modStop fun x => { x with begun := true }
  let s := s.bothRails fun r s => (s.orderSeq .hold r).orderAsm r .stopBegun
  s.cancelSnapshots

/-- A pending switch whose protocol has not begun is cancelled (R31, R35). -/
def State.cancelPending (s : State) : State :=
  let begun : Bool := match s.plans.protocol with
    | none => false
    | some x => decide (x.step < 4)
  match s.plans.pendingActivation with
  | none => s
  | some a =>
    if a.fromActive ∧ begun = false then
      (s.modPlans fun p => { p with pendingActivation := none, standby := .cleared }).complete a.index .refused
        .cancelled []
    else s

/-- A load for an ACTIVATE_PLAN is abandoned (R35). -/
def State.cancelLoad (s : State) : State :=
  match s.plans.load with
  | none => s
  | some l =>
    match l.purpose with
    | .check => s
    | .activate _ _ _ => s.dropLoad.complete l.index .refused .cancelled []

/-- STOP (R35). -/
def State.stopRequest (s : State) (q : Request) : State :=
  if s.device ≠ .active then s.refuse q .notActive
  else if s.plans.stop.isSome then s.refuse q .busy
  else
    let s := (s.take q).modPlans fun p =>
      { p with stop := some { index := q.index, begun := false, step := 1, held := ⟨false, false⟩,
                              flushed := ⟨false, false⟩, purged := ⟨false, false⟩ } }
    let s := s.cancelPending.cancelLoad
    if s.plans.protocol.isNone then s.beginStop else s

/-- STOP_FLUSH_DONE: step 4 is ordered for the rail (R36). In LOCKED the stop goes no further (R39). -/
def execStopFlushDone (r : Rail) (s : State) : Host.Outcome State Fault Refusal :=
  .next <| if s.plans.stopDone.get r = 0 then s
    else
      let s := s.modPlans fun p => { p with stopDone := p.stopDone.modify r (· - 1) }
      if s.device = .locked ∨ s.plans.stop.isNone then s
      else (s.modStop fun x => { x with flushed := x.flushed.set r true, step := max 4 x.step }).orderMark r .stopPurge

/-- A Sequencer's hold released without a resume, with the orders on their way to it (R36, R46, R156). -/
def State.freeSeq (s : State) (r : Rail) : State :=
  s.modSeq r fun q => { q with held := false, heldReported := false, orders := [] }

/-- An assembler's stopping flag cleared, with the notices that would set it (R130). -/
def State.clearStopping (s : State) (r : Rail) : State :=
  s.modAsm r fun a => { a with stopping := false, orders := a.orders.filter (· != .stopBegun) }

/-- The ACTIVE bank set to EMPTY, and the soft levels back at 4 (R36, R38, R146). -/
def State.emptyActive (s : State) : State := (s.modPlans fun p => { p with active := .cleared }).defaultLevels

/-- A stop completed: the device becomes BOUND, or in FAULTED remembers BOUND (R36). -/
def State.leaveActive (s : State) : State :=
  if s.device = .faulted then s.modAlarm fun a => { a with remembered := some .bound }
  else { s with device := .bound }

/-- Snapshots in flight are cancelled when the device has entered BOUND; a stop that ends in FAULTED leaves them (R168). -/
def State.cancelInBound (s : State) : State := if s.device = .bound then s.cancelSnapshots else s

/-- Steps 5 and 6 of a stop (R36). DEDUCED: log entry 51. The STOP is written DONE before the snapshots are cancelled.
DESIGN CHOICE: log entry 121. -/
def State.finishStop (s : State) (index : Nat) : State :=
  let s := s.emptyActive.orderCoupling .planEnded
  let s := s.bothRails fun r s => (((s.clearStopping r).dropNozzles r).freeSeq r).railOff r
  let s := (s.modPlans fun p => { p with stop := none }).leaveActive
  ((s.complete index .done .ok []).cancelInBound).announce

/-- A rail has passed step 4 of the stop; once both have, steps 5 and 6 follow. DEDUCED: log entry 27. -/
def State.railPurged (s : State) (r : Rail) : State :=
  match s.plans.stop with
  | none => s
  | some x =>
    let purged := x.purged.set r true
    let s := s.modStop fun x => { x with purged := purged }
    if purged.a ∧ purged.b ∧ s.device ≠ .locked then s.finishStop x.index else s

/-- MARKER_STOP_PURGE: step 4 of a stop on a rail (R36, R139). -/
def execMarkerStopPurge (r : Rail) (s : State) : Host.Outcome State Fault Refusal :=
  .next <| match (s.rail r).mrk.orders with
  | .stopPurge :: rest => ((s.putMarkOrders r rest).purge r .stopped).railPurged r
  | _ => s

/-! ## The end of a switch (R33) -/

/-- Steps 7 and 8, and then the STOP that waited, or a further switch whose point is reached (R33, R34). -/
def State.finishSwitch (s : State) (x : SwitchProtocol) : State :=
  let s := s.bothRails fun r s => s.orderSeq .release r
  let s := s.complete x.index .done .ok (activationWords s.plans.active.planId x.swapT)
  let s := s.modPlans fun p => { p with protocol := none }
  if s.plans.stop.isSome then s.beginStop else s.startReached

/-- The Plan Store takes the report that the coupling reset is done. -/
def State.resetDone (s : State) : State :=
  match s.plans.protocol with
  | none => s
  | some x => if 4 ≤ x.step ∧ s.device ≠ .locked then s.finishSwitch x else s

/-- COUPLING_RESET_DONE. -/
def execCouplingResetDone (s : State) : Host.Outcome State Fault Refusal :=
  .next <| if s.plans.resetDone = 0 then s
    else (s.modPlans fun p => { p with resetDone := p.resetDone - 1 }).resetDone

/-! ## The end of a load (R21, R27, R28) -/

/-- The bank that holds a validated plan. -/
def Bank.validated (c : List Byte) : Bank :=
  { state := .pending, contents := c, planId := Plan.planId c,
    codes := ⟨some (Plan.checkCode c .A), some (Plan.checkCode c .B)⟩ }

/-- A check ends (R27). -/
def State.endCheck (s : State) (l : Load) (c : List Byte) : State :=
  let fault := validate c l.length
  s.dropLoad.complete l.index .done .ok
    (faultWords fault ++ le32 (if fault.1 = .badLayout then 0 else Plan.planId c))

/-- A validated plan becomes PENDING, and is activated at once or tested for its switch point (R28, R30, R31); one for a
switch that becomes PENDING in FAULTED waits for the return, whichever state that returns to. DEDUCED: log entry 24. -/
def State.makePending (s : State) (l : Load) (c : List Byte) (fromActive : Bool) (mode : SwitchMode) (position : Nat) :
    State :=
  let a : PendingActivation :=
    { index := l.index, fromActive := fromActive, mode := mode, position := position, reached := false }
  let s := s.modPlans fun p => { p with load := none, standby := .validated c, pendingActivation := some a }
  if fromActive then s.testSwitch else if s.device = .bound then s.activateFromBound a else s

/-- The load of an activation ends (R28). A plan loaded for a switch finds nothing to switch from in BOUND.
DEDUCED: log entry 24. -/
def State.endActivationLoad (s : State) (l : Load) (c : List Byte) (fromActive : Bool) (mode : SwitchMode)
    (position : Nat) : State :=
  let fault := validate c l.length
  if fault.1 ≠ .none then s.dropLoad.complete l.index .refused .planInvalid (faultWords fault)
  else if fromActive ∧ s.device = .bound then s.dropLoad.complete l.index .refused .cancelled []
  else s.makePending l c fromActive mode position

/-- PLAN_LOAD_COMPLETE: the plan as read is validated and the request answered, or the plan becomes PENDING.
DESIGN CHOICE: log entry 10. -/
def execPlanLoadComplete (bytes : List Byte) (s : State) : Host.Outcome State Fault Refusal :=
  .next <| match s.plans.load with
  | none => s
  | some l =>
    let c := fitBytes l.length bytes
    match l.purpose with
    | .check => s.endCheck l c
    | .activate fromActive mode position => s.endActivationLoad l c fromActive mode position

/-! ## The return from FAULTED and the entry to LOCKED (R34, R39, R156) -/

/-- A marker for which the Plan Store waits no more. DEDUCED: log entry 29. -/
def FlushMark.disown (m : FlushMark) : FlushMark :=
  if m.cause = .switch ∨ m.cause = .stop then { m with tag := 1 } else m

/-- A marker on the ordered path disowned. -/
def PathItem.disown : PathItem → PathItem
  | .marker m => .marker m.disown
  | .summary k => .summary k

/-- A job's marker disowned. -/
def AfterJob.disown : AfterJob → AfterJob
  | .flushDone m => .flushDone m.disown
  | .insert e => .insert e
  | .nothing => .nothing

/-- The switch or stop of a rail is over: the markers on their way are disowned, and the orders not yet taken are
withdrawn. -/
def State.disownRail (s : State) (r : Rail) : State :=
  let s := s.modTrk r fun k =>
    { k with path := k.path.map PathItem.disown, orders := k.orders.filter (· == .planEnded) }
  let s := s.modAsm r fun a => { a with job := a.job.map fun j => { j with after := j.after.disown } }
  s.modMrk r fun m => { m with orders := m.orders.filter (· == .planEnded) }

/-- The reports on their way to the Plan Store for a switch or stop are dropped. -/
def PlanStore.dropReports (p : PlanStore) : PlanStore :=
  { p with heldReports := ⟨0, 0⟩, switchDone := ⟨0, 0⟩, stopDone := ⟨0, 0⟩, resetDone := 0 }

/-- A running switch protocol is cancelled (R34). -/
def State.cancelProtocol (s : State) : State :=
  match s.plans.protocol with
  | none => s
  | some x =>
    let s := s.modPlans fun p =>
      if x.step < 4 then { p with protocol := none, pendingActivation := none, standby := .cleared }
      else { p with protocol := none }
    s.complete x.index .refused .cancelled []

/-- A stop in progress ends with its request DONE (R156). -/
def State.endStop (s : State) : State :=
  match s.plans.stop with
  | none => s
  | some x => (s.modPlans fun p => { p with stop := none }).complete x.index .done .ok []

/-- A rail told that the ACTIVE bank has been emptied (R109, R131, R139). -/
def State.reportEmptied (s : State) (r : Rail) : State :=
  let s := ((s.disownRail r).freeSeq r).clearStopping r
  ((s.orderTrack r .planEnded).orderAsm r .planEnded).orderMark r .planEnded

/-- The Plan Store's part of the return to BOUND after PLAN_FAULT (R34, R156): the running switch completes first, then the
further one that is pending, then the STOP (log entry 96). A coupling reset that a swap ordered and that has not been
taken is withdrawn (log entry 123). DESIGN CHOICE: both. -/
def State.emptyAfterFault (s : State) : State :=
  let s := s.cancelProtocol.cancelPending.endStop
  let s := s.modPlans PlanStore.dropReports
  let s := (s.modCoupling fun m => { m with orders := m.orders.filter (· == .planEnded) }).orderCoupling .planEnded
  (s.bothRails fun r s => s.reportEmptied r).emptyActive

/-- The Plan Store's part of the return to ACTIVE: a switch resumes, or one whose point was reached begins (R31,
R34). -/
def State.resumeSwitch (s : State) : State := s.trySwap.startReached

/-- The Plan Store's part of the return to BOUND: a PENDING plan of origin BOUND is activated (R30), and a pending switch
is cancelled (R31). DEDUCED: log entry 24. -/
def State.resumeActivation (s : State) : State :=
  match s.plans.pendingActivation with
  | none => s
  | some a => if a.fromActive then s.cancelPending else if s.device = .bound then s.activateFromBound a else s

/-- The entry to LOCKED halts the load, the activation, the switch and the stop (R39), and takes back the hold, release,
cut and stop orders; the reset, nozzle check, stop purge and stop-begun notices already sent still act.
DEDUCED: log entry 63. -/
def State.lockPlans (s : State) : State :=
  let s := s.modPlans fun p => { p with load := none, pendingActivation := none, standby := .cleared }
  s.bothRails fun r s =>
    (s.modSeq r fun q => { q with orders := [] }).modTrk r fun k => { k with orders := k.orders.filter (· == .planEnded) }

end Sys2Proof.Machine
end

