-- ==== Sys2Proof/Machine/Alarms.lean ====
section
/-! DEFINITION. The Alarm Unit (chapter 9): raises and ends taken from their paths, what a fault does to the device,
the conflict that locks it, suppression running out, and the ACK_ALARM and SUPPRESS requests. -/

namespace Sys2Proof.Machine

/-! ## Faults (R153, R154, R157) -/

/-- The TACH_FAULT notices to the correlators and the Marker Controllers (R154). -/
def State.sendTachNotices (s : State) : State :=
  s.bothRails fun r s =>
    (s.modTrk r fun k => { k with tachNotices := k.tachNotices + 1 }).modMrk r fun m =>
      { m with tachNotices := m.tachNotices + 1 }

/-- The further effects of a fault made PENDING (R153, R154). -/
def State.faultEffects (s : State) (src : Source) : State :=
  match src with
  | .tachFault => s.sendTachNotices
  | .contextFault => s.stopWriter
  | .planFault => s.modAlarm fun a => { a with planFaultSeen := true }
  | _ => s

/-- The device enters FAULTED, remembering the state it leaves: the Sequencers go OFF and the links are held DOWN
(R153). -/
def State.enterFaulted (s : State) : State :=
  let s := s.modAlarm fun a => { a with remembered := some s.device }
  { s with device := .faulted }.bothRails fun r s => s.railOff r

/-- The effects a TACH_FAULT in conflict has before the device locks (R157). DEDUCED: log entry 21. -/
def State.tachConflict (s : State) : State := s.bothRails fun r s => (s.tachClose r).purge r .tachFault

/-- The device enters LOCKED with its lock pair (R157). -/
def State.lockDevice (s : State) (higher raised : Source) : State :=
  let s := s.modAlarm fun a => { a with lockPair := some (higher.id, raised.id) }
  let s := { s with device := .locked }
  let s := (s.bothRails fun r s => (s.railOff r).lockMarker r).lockPlans
  s.modReq fun q => { q with scan := [], scanTimer := false }

/-- A fault made PENDING: the ALARM cause is set whatever the level, and its effects follow by the state of the device
(R152 to R154, R157). DEDUCED: log entry 22. -/
def State.faultPends (s : State) (src : Source) : State :=
  let higher := s.alarm.higherFault src
  let s := ((s.pend src).formed s.alarm.alarmLevel).setCause .alarm
  match s.device with
  | .active => ((s.enterFaulted.faultEffects src).alarmRecord src .raised 0 false).announce
  | .bound => ((s.enterFaulted.faultEffects src).alarmRecord src .raised 0 false).announce
  | .faulted =>
    match higher with
    | none => (s.faultEffects src).alarmRecord src .raised 0 false
    | some h =>
      let s := if src = .tachFault then s.tachConflict else s
      (((s.lockDevice h src).alarmRecord src .raised 0 true).setCause .alarm).announce
  | .locked => s.alarmRecord src .raised 0 false
  | .unbound => s

/-- The Alarm Unit takes a raise (R147). -/
def State.takeRaise (s : State) (src : Source) (d : Detail) : State :=
  let s := s.storeRaise src d
  if src.isFault ∧ s.raiseCase src = .pends then s.faultPends src else (s.raiseSoft src).formed s.alarm.alarmLevel

/-! ## The paths of the raisers (R147, R148) -/

/-- The first report of a raiser, and the reports without it. -/
def AlarmUnit.firstReport (a : AlarmUnit) (who : Raiser) : Option (Report × List (Raiser × Report)) :=
  (takeFirst (fun x => x.1 == who) a.reports).map fun x => (x.1.2, x.2)

/-- The reports on the paths replaced. -/
def State.putReports (s : State) (xs : List (Raiser × Report)) : State := s.modAlarm fun a => { a with reports := xs }

/-- ALARM_RAISE. -/
def execAlarmRaise (who : Raiser) (s : State) : Host.Outcome State Fault Refusal :=
  .next <| match s.alarm.firstReport who with
  | some (.raise src d, rest) => (s.putReports rest).takeRaise src d
  | some (.condEnd _ _, _) => s
  | some (.progress _ _, _) => s
  | none => s

/-- CONDITION_END. -/
def execConditionEnd (who : Raiser) (s : State) : Host.Outcome State Fault Refusal :=
  .next <| match s.alarm.firstReport who with
  | some (.condEnd src rail, rest) => (s.putReports rest).endCondition src rail
  | some (.raise _ _, _) => s
  | some (.progress _ _, _) => s
  | none => s

/-! ## Suppression (R149, R150) -/

/-- ALARM_PROGRESS_EVENT: the progress event in front of the Position Unit's path (R11); a distance above 0 falls by 1,
and at 0 the suppression's end falls due. -/
def execAlarmProgressEvent (s : State) : Host.Outcome State Fault Refusal :=
  .next <| match s.alarm.firstReport .positionUnit with
  | some (.progress _ _, rest) =>
    (s.putReports rest).modAlarm fun a =>
      { a with suppression := a.suppression - 1, expiryDue := a.expiryDue || a.suppression == 1 }
  | some (.raise _ _, _) => s
  | some (.condEnd _ _, _) => s
  | none => s

/-- The end of suppression that has fallen due is carried out. DEDUCED: log entry 17. -/
def State.dueExpiry (s : State) : State :=
  if s.alarm.expiryDue then (s.modAlarm fun a => { a with expiryDue := false }).suppressionEnds else s

/-- SUPPRESSION_EXPIRY: the end that has fallen due. -/
def execSuppressionExpiry (s : State) : Host.Outcome State Fault Refusal := .next s.dueExpiry

/-- The result words of SUPPRESS: the distance before the request and suppressed_count (R183). -/
def suppressWords (before count : Nat) : List Byte := le16 before ++ le16 count

/-- SUPPRESS START, or an action code outside the three (R150): an end still due comes before the new distance, and the
result carries suppressed_count as it stood before a START at distance 0 sets it to 0. DESIGN CHOICE: log entry 79. -/
def State.suppressStart (s : State) (q : Request) : State :=
  let value := u16At q.params 2
  if byteAt q.params 0 ≠ 0 ∨ value = 0 then s.refuse q .badParameter
  else
    let s := s.dueExpiry
    let before := s.alarm.suppression
    let words := suppressWords before s.alarm.suppressedCount
    (s.modAlarm fun a =>
      { a with suppression := value, suppressedCount := if before = 0 then 0 else a.suppressedCount }).done q words

/-- SUPPRESS EXTEND (R150). -/
def State.suppressExtend (s : State) (q : Request) : State :=
  let before := s.alarm.suppression
  if before = 0 then s.refuse q .notSuppressing
  else
    (s.modAlarm fun a => { a with suppression := add16 before (u16At q.params 2) }).done q
      (suppressWords before s.alarm.suppressedCount)

/-- SUPPRESS END (R150): with a distance above 0 suppression ends as R149 states. -/
def State.suppressEnd (s : State) (q : Request) : State :=
  let before := s.alarm.suppression
  let words := suppressWords before s.alarm.suppressedCount
  let s := if before = 0 then s else (s.modAlarm fun a => { a with suppression := 0 }).suppressionEnds
  s.done q words

/-! ## Acknowledgement (R155, R156) -/

/-- The state an acknowledgement leaves a source in, none when it changes nothing (R155). -/
def SourceRecord.acknowledged (x : SourceRecord) (src : Source) : Option SourceState :=
  if x.state ≠ .pending then none
  else if src.isCondition = false ∨ x.present = false then some .idle
  else if src = .tachFault then none
  else some .acknowledged

/-- One source acknowledged, with the number of sources changed so far. -/
def State.acknowledge (acc : State × Nat) (src : Source) : State × Nat :=
  let s := acc.1
  let x := s.alarm.source src
  match x.acknowledged src with
  | none => acc
  | some st =>
    (((s.modSource src fun x => { x with state := st }).alarmRecord src .acknowledged x.raiseCount false).formed
      s.alarm.alarmLevel, acc.2 + 1)

/-- TACH_FAULT stayed PENDING with its condition present (R155), for an acknowledgement that names it, alone or with ALL.
DESIGN CHOICE: log entry 113. -/
def State.stillPresent (s : State) (srcs : List Source) : Bool :=
  srcs.contains .tachFault && (s.alarm.source .tachFault).state == .pending && (s.alarm.source .tachFault).present

/-- The return from FAULTED to the state given. -/
def State.returnTo (s : State) (state : OpState) : State :=
  let s := { s with device := state }
  let s := s.modAlarm fun a => { a with remembered := none, planFaultSeen := false }
  let s := s.resumeWriter
  if state = .active then (s.railsOn.resumeSwitch).announce else (s.cancelSnapshots.announce).resumeActivation

/-- The state the return from FAULTED goes back to: ACTIVE when that is the state remembered, else BOUND (R156).
DEDUCED: log entry 45. -/
def AlarmUnit.returnState (a : AlarmUnit) : OpState := if a.remembered = some .active then .active else .bound

/-- The device leaves FAULTED when an acknowledgement leaves no fault PENDING (R156): at the return to BOUND the soft levels
go back to 4 before the device state changes. DESIGN CHOICE: log entry 89. -/
def State.leaveFaulted (s : State) : State :=
  if s.device ≠ .faulted ∨ s.alarm.faultPending then s
  else if s.alarm.planFaultSeen then s.emptyAfterFault.returnTo .bound
  else s.returnTo s.alarm.returnState

/-- The sources an ACK_ALARM names, none for an id that is not known. -/
def ackSources (id : Nat) : Option (List Source) := if id = 255 then some Source.all else (Source.all[id]?).map ([·])

/-- ACK_ALARM (R155, R156): the alarm level written is the one after the return from FAULTED that ends the request.
DEDUCED: log entry 44. -/
def State.ackAlarm (s : State) (q : Request) : State :=
  match ackSources (byteAt q.params 0) with
  | none => s.refuse q .badParameter
  | some srcs =>
    let res := srcs.foldl State.acknowledge (s, 0)
    let s := res.1
    let code := if s.stillPresent srcs then ResultCode.stillPresent else .ok
    (s.answer q .done code (le8 res.2 ++ le8 s.leaveFaulted.alarm.alarmLevel)).leaveFaulted

end Sys2Proof.Machine
end

