-- ==== Sys2Proof/Machine/Position.lean ====
section
/-! DEFINITION. The Position Unit (chapter 1): qualification of the input lines, legal and illegal changes, the tach
error score, counts and their carries, direction, progress and reversal, reference marks and presets. -/

namespace Sys2Proof.Machine

/-! ## Notices (R11) -/

/-- A notice to both correlators. -/
def State.noticeTrackers (s : State) (x : PosNotice) : State :=
  s.bothRails fun r s => s.modTrk r fun k => { k with notices := k.notices ++ [x] }

/-- A notice to both Marker Controllers. -/
def State.noticeMarkers (s : State) (x : PosNotice) : State :=
  s.bothRails fun r s => s.modMrk r fun m => { m with notices := m.notices ++ [x] }

/-- A notice to both assemblers. -/
def State.noticeAssemblers (s : State) (x : PosNotice) : State :=
  s.bothRails fun r s => s.modAsm r fun a => { a with notices := a.notices ++ [x] }

/-- A notice to both Sequencers. -/
def State.noticeSequencers (s : State) (x : SeqNotice) : State :=
  s.bothRails fun r s => s.modSeq r fun q => { q with notices := q.notices ++ [x] }

/-- A progress event to its receivers; the Alarm Unit's takes its place among the Position Unit's raises and ends. -/
def State.sendProgress (s : State) (t p : Nat) : State :=
  let x := PosNotice.progress t p
  (((s.noticeSequencers (.progress t p false false)).noticeTrackers x).noticeAssemblers x).report .positionUnit
    (.progress t p)

/-- A reversal notice to its receivers. -/
def State.sendReversal (s : State) (d : Dir) (p t : Nat) : State :=
  ((s.noticeSequencers (.reversal d p t)).noticeTrackers (.reversal d p t)).noticeMarkers (.reversal d p t)

/-- A preset-applied notice to its receivers. -/
def State.sendPreset (s : State) (oldP newP : Nat) (delta : Int) : State :=
  (s.noticeTrackers (.preset oldP newP delta)).noticeMarkers (.preset oldP newP delta)

/-! ## Conditions (R5, R7) -/

/-- A raise of the Position Unit. -/
def State.raisePosition (s : State) (src : Source) (d : Detail) : State := s.raiseReport .positionUnit src d

/-- The end of a condition of the Position Unit. -/
def State.endPosition (s : State) (src : Source) : State := s.report .positionUnit (.condEnd src none)

/-- P stands at neither limit. -/
def offLimit (p : Nat) : Bool := p != 0 && p != Config.maxU32

/-- P has taken a value: off the limits, a limit flag that is set is cleared and its end reported (R7, R14). -/
def State.clearLimit (s : State) : State :=
  if s.pos.limit ∧ offLimit s.pos.p then (s.modPos fun u => { u with limit := false }).endPosition .positionLimit else s

/-! ## Direction, progress and reversal (R8 to R10) -/

/-- The direction is declared (R8). -/
def State.declare (s : State) (d : Dir) : State :=
  (s.modPos fun u => { u with dir := d, e := u.p }).noticeMarkers (.declared d s.pos.p)

/-- The declaration test on N (R8). -/
def State.testDeclaration (s : State) : State :=
  if (s.pos.settings.rv : Int) ≤ s.pos.n then s.declare .increasing
  else if s.pos.n ≤ -(s.pos.settings.rv : Int) then s.declare .decreasing
  else s

/-- The distance of P from E against the declared direction (R10). -/
def PositionUnit.against (u : PositionUnit) : Int :=
  match u.dir with
  | .increasing => (u.e : Int) - u.p
  | .decreasing => (u.p : Int) - u.e
  | .unknown => 0

/-- The reversal test: at a distance of Rv or more against the direction, the direction flips (R10). -/
def State.testReversal (s : State) : State :=
  if s.pos.dir ≠ .unknown ∧ (s.pos.settings.rv : Int) ≤ s.pos.against then
    let d := s.pos.dir.flip
    (s.modPos fun u => { u with dir := d, e := u.p }).sendReversal d s.pos.p s.pos.t
  else s

/-- P lies beyond E in the declared direction (R9). -/
def PositionUnit.beyondE (u : PositionUnit) : Bool :=
  match u.dir with
  | .increasing => decide (u.e < u.p)
  | .decreasing => decide (u.p < u.e)
  | .unknown => false

/-- Progress: a carry beyond E moves E, and adds 1 to T unless T is saturated (R9). -/
def State.progress (s : State) : State :=
  let s := s.modPos fun u => { u with e := u.p }
  if s.pos.t < Config.maxU32 then
    let s := s.modPos fun u => { u with t := u.t + 1 }
    s.sendProgress s.pos.t s.pos.p
  else s

/-- The tests that follow a move of P under a declared direction (R9, R10). -/
def State.afterMove (s : State) : State := if s.pos.beyondE then s.progress else s.testReversal

/-! ## Counts and carries (R6, R7) -/

/-- A carry clamped at a limit of P: the first one sets the limit flag and raises POSITION_LIMIT (R7). -/
def State.clampedCarry (s : State) : State :=
  if s.pos.limit then s
  else (s.modPos fun u => { u with limit := true }).raisePosition .positionLimit (.position s.pos.p)

/-- A carry that moves P: the position-change notice, and the limit left (R7, R11), whose end is reported before a progress
event of the same carry. DESIGN CHOICE: log entry 95. -/
def State.moveP (s : State) (p : Nat) : State :=
  ((s.modPos fun u => { u with p := p }).noticeMarkers (.positionChange p)).clearLimit

/-- N takes a carry while the direction is UNKNOWN (R8). -/
def State.addN (s : State) (up : Bool) : State :=
  if s.pos.dir = .unknown then s.modPos fun u => { u with n := if up then u.n + 1 else u.n - 1 } else s

/-- One carry, in the sense given, with its tests (R6 to R10). -/
def State.carry (s : State) (up : Bool) : State :=
  let unknown := s.pos.dir == .unknown
  let clamped := if up then s.pos.p == Config.maxU32 else s.pos.p == 0
  let s := s.addN up
  let s := if clamped then s.clampedCarry else s.moveP (if up then s.pos.p + 1 else s.pos.p - 1)
  if unknown then s.testDeclaration else if clamped then s else s.afterMove

/-- A number of carries in one sense, one at a time; each has moved the remainder by one millimetre (R6). -/
def State.carries (up : Bool) : Nat → State → State
  | 0, s => s
  | n + 1, s =>
    State.carries up n
      ((s.modPos fun u => { u with rem := if up then u.rem - Config.unitsPerMm else u.rem + Config.unitsPerMm }).carry up)

/-- The carries that bring a remainder into its range, by the sense of the count (R6). -/
def carryCount (rem : Int) (up : Bool) : Nat :=
  if up then (rem.fdiv Config.unitsPerMm).toNat else (-(rem.fdiv Config.unitsPerMm)).toNat

/-- A count drains the score; at 0 the flags held are cleared and their ends reported (R4, R5), that of TACH_DEGRADED
first. DESIGN CHOICE: log entry 68. -/
def State.drainScore (s : State) : State :=
  let s := s.modPos fun u => { u with score := u.score - 1 }
  if s.pos.score = 0 then
    let degraded := s.pos.degraded
    let fault := s.pos.fault
    let s := s.modPos fun u => { u with degraded := false, fault := false }
    let s := if degraded then s.endPosition .tachDegraded else s
    if fault then s.endPosition .tachFault else s
  else s

/-- A count in a sense (R4, R6): the score is drained, and ends are reported, before its carries are made.
DESIGN CHOICE: log entry 69. -/
def State.countTach (s : State) (up : Bool) : State :=
  let s := s.drainScore
  let s := s.modPos fun u => { u with rem := if up then u.rem + u.settings.q else u.rem - u.settings.q }
  State.carries up (carryCount s.pos.rem up) s

/-! ## Changes of the qualified pair (R2 to R5) -/

/-- An illegal change: the score rises by 8, and a condition whose threshold it leaves the score at is raised when its
flag is clear (R4, R5), TACH_DEGRADED before TACH_FAULT. DESIGN CHOICE: log entry 68. -/
def State.illegalChange (s : State) : State :=
  let s := s.modPos fun u => { u with score := min 255 (u.score + 8) }
  let score := s.pos.score
  let s := if 16 ≤ score ∧ s.pos.degraded = false then
      (s.modPos fun u => { u with degraded := true }).raisePosition .tachDegraded (.score score) else s
  if 64 ≤ score ∧ s.pos.fault = false then
    (s.modPos fun u => { u with fault := true }).raisePosition .tachFault (.score score)
  else s

/-- The sense of a legal change, true for +P, by the pair after it (R2). -/
def legalSense (aChanged a b : Bool) : Bool := if aChanged then a != b else a == b

/-- The count mode counts a legal change (R3). -/
def CountMode.counts (m : CountMode) (aChanged a : Bool) : Bool :=
  match m with
  | .edge4 => true
  | .edge2 => aChanged
  | .edge1 => aChanged && a

/-- The qualified pair changes from one to another (R2, R3). -/
def State.pairChange (s : State) (a b a' b' : Bool) : State :=
  if a = a' ∧ b = b' then s
  else if a ≠ a' ∧ b ≠ b' then s.illegalChange
  else
    let aChanged := a != a'
    if s.pos.settings.mode.counts aChanged a' then s.countTach (legalSense aChanged a' b') else s

/-! ## Presets and marks (R12 to R15) -/

/-- A preset applied (R14). -/
def State.applyPreset (s : State) (v : Nat) : State :=
  let old := s.pos.p
  let delta : Int := (v : Int) - old
  let s := s.modPos fun u => { u with p := v, e := clampPos ((u.e : Int) + delta) }
  s.clearLimit.sendPreset old v delta

/-- The MARK record of an edge (R12). -/
def State.markRecord (s : State) (before : Option Nat) : MarkRecord :=
  { p := s.pos.p, t := s.pos.t, dir := s.pos.dir, before := before }

/-- A mark edge: an armed preset is applied, the MARK record offered, and the preset's request completed (R12, R15). -/
def State.markEdge (s : State) : State :=
  if s.device = .unbound then s
  else
    match s.pos.armed with
    | none => s.offer .positionUnit (.mark (s.markRecord none))
    | some a =>
      let old := s.pos.p
      let s := (s.applyPreset a.value).modPos fun u => { u with armed := none }
      (s.offer .positionUnit (.mark (s.markRecord (some old)))).complete a.index .done .ok (le32 old ++ le32 a.value)

/-- The qualified level of MARK_IN has become `level`: an edge in the set sense is a mark edge (R12). -/
def State.markChange (s : State) (level : Bool) : State :=
  let edge := match s.pos.settings.markEdge with
    | .rising => level
    | .falling => !level
  if edge then s.markEdge else s

/-! ## Qualification (R1) -/

/-- The hold timer of a line after its raw level has become `raw`: started, going on, or abandoned. -/
def InputLine.see (x : InputLine) (raw : Bool) : InputLine :=
  { x with raw := raw, hold := if raw = x.qualified then none else some (x.hold.getD 0) }

/-- The line's hold time has reached the filter time. -/
def InputLine.due (x : InputLine) (filter : Nat) : Bool :=
  match x.hold with
  | none => false
  | some n => decide (filter ≤ n)

/-- The line accepted: its raw level is its qualified level. -/
def InputLine.accept (x : InputLine) : InputLine := { x with qualified := x.raw, hold := none }

/-- A line accepted when it is due. -/
def InputLine.acceptDue (x : InputLine) (filter : Nat) : InputLine := if x.due filter then x.accept else x

/-- Every line that is due is accepted, the tachometer lines as one change of the pair; `markFirst` says whether a
mark edge that falls together with a count is taken first (R1, R2, R12). -/
def State.acceptDue (s : State) (markFirst : Bool) : State :=
  let u := s.pos
  let f := u.settings.filterTime
  let mark := u.markIn.due f
  let s := s.modPos fun u =>
    { u with tachA := u.tachA.acceptDue f, tachB := u.tachB.acceptDue f, markIn := u.markIn.acceptDue f }
  let pair : State → State := fun s =>
    s.pairChange u.tachA.qualified u.tachB.qualified s.pos.tachA.qualified s.pos.tachB.qualified
  let edge : State → State := fun s => if mark then s.markChange s.pos.markIn.qualified else s
  if markFirst then pair (edge s) else edge (pair s)

/-- RAW_INPUT_CHANGE: lines whose hold time had been reached are accepted, and with a filter time of 0 the change is
accepted as it occurs. -/
def execRawInputChange (a b m : Bool) (s : State) : Host.Outcome State Fault Refusal :=
  let s := s.acceptDue false
  .next ((s.modPos fun u =>
    { u with tachA := u.tachA.see a, tachB := u.tachB.see b, markIn := u.markIn.see m }).acceptDue false)

/-- The time until a line's hold time reaches the filter time, none when its timer does not run. -/
def InputLine.remaining (x : InputLine) (filter : Nat) : Option Nat := x.hold.map (filter - ·)

/-- The least of the times given. -/
def leastOf (xs : List (Option Nat)) : Option Nat := (xs.filterMap id).min?

/-- A running hold timer moved on. -/
def InputLine.elapse (x : InputLine) (d : Nat) : InputLine := { x with hold := x.hold.map (· + d) }

/-- The hold timers moved on by a time. -/
def PositionUnit.elapse (u : PositionUnit) (d : Nat) : PositionUnit :=
  { u with tachA := u.tachA.elapse d, tachB := u.tachB.elapse d, markIn := u.markIn.elapse d }

/-- The time until the next hold timer runs out. -/
def PositionUnit.nextExpiry (u : PositionUnit) : Option Nat :=
  let f := u.settings.filterTime
  leastOf [u.tachA.remaining f, u.tachB.remaining f, u.markIn.remaining f]

/-- HOLD_TIMER_EXPIRY: the hold timers next to run out do so. DESIGN CHOICE: log entry 4. -/
def execHoldTimerExpiry (markFirst : Bool) (s : State) : Host.Outcome State Fault Refusal :=
  .next <| match s.pos.nextExpiry with
  | none => s
  | some d => (s.modPos fun u => u.elapse d).acceptDue markFirst

/-- 100 ns in which nothing reaches the part: the running hold timers move on, and the lines whose hold time has then
reached the filter time are accepted, a count before a mark edge of the same moment (R1, R12).
DESIGN CHOICE: log entry 3. -/
def State.tick (s : State) : State := (s.modPos fun u => u.elapse 1).acceptDue false

/-! ## Settings loaded at BIND (R1, R8, R10, R16) -/

/-- The position settings are loaded: lines whose hold time has reached the new filter time are accepted, and then the
new Rv is tested on N or on the distance from E as they leave it. DESIGN CHOICE: log entry 67. -/
def State.loadSettings (s : State) (x : PositionSettings) : State :=
  let s := (s.modPos fun u => { u with settings := x }).acceptDue false
  if s.pos.dir = .unknown then s.testDeclaration else s.testReversal

/-! ## The SET_POSITION request (R13, R14) -/

/-- SET_POSITION with form NOW, or with a form code outside its range. -/
def State.setPositionNow (s : State) (q : Request) : State :=
  if byteAt q.params 0 ≠ 0 then s.refuse q .badParameter
  else if s.pos.armed.isSome then s.refuse q .busy
  else (s.applyPreset (u32At q.params 4)).done q []

/-- SET_POSITION with form AT_MARK. -/
def State.setPositionAtMark (s : State) (q : Request) : State :=
  if s.pos.armed.isSome then s.refuse q .busy
  else (s.take q).modPos fun u => { u with armed := some { value := u32At q.params 4, index := q.index } }

end Sys2Proof.Machine
end

