-- ==== Sys2Proof/Machine/Requests.lean ====
section
/-! DEFINITION. The Request Handler (chapter 10): scans of the Request Table, the request of each kind taken from the
scan under way, FLUSH and SNAPSHOT, and the errors of entry, status and snapshot writes. -/

namespace Sys2Proof.Machine

/-! ## Scans (R164) -/

/-- The end of a scan: the status area is rewritten and the scan timer restarted. -/
def State.endScan (s : State) : State := s.rewriteStatus.modReq fun q => { q with scanTimer := true }

/-- Every pending entry write is repeated (R164, R166), in index order. DESIGN CHOICE: log entry 127. -/
def State.repeatWrites (s : State) : State :=
  (List.range 8).foldl (fun s i => match s.req.pendingWrites.getD i none with
    | none => s
    | some w => s.issueEntry i w true) s

/-- The requests a table as read posts, in index order, but for the indices held as taken (R164). -/
def RequestHandler.posted (q : RequestHandler) (table : List Byte) : List Request :=
  (List.range 8).filterMap fun i => if q.holds i then none else readEntry table i

/-- A scan of the table as read, or with a read that ended in a host-memory error (R164). An index whose DONE or REFUSED it
has just repeated is read in this same scan (R166). DESIGN CHOICE: log entry 108. -/
def State.scanTable (s : State) (table : Option (List Byte)) : State :=
  let s := (s.modReq fun q => { q with scanTimer := false }).repeatWrites
  match table with
  | none => (s.raiseReport .requestHandler .contextFault (.block .requestHandler)).endScan
  | some bytes =>
    let posted := s.req.posted bytes
    if posted.isEmpty then s.endScan else s.modReq fun q => { q with scan := posted }

/-- SCAN_TIMER_EXPIRY: it acts while the timer runs, in BOUND, ACTIVE and FAULTED. -/
def execScanTimerExpiry (table : Option (List Byte)) (s : State) : Host.Outcome State Fault Refusal :=
  .next (if s.device.scans ∧ s.req.scanTimer then s.scanTable table else s)

/-- The next request of the scan under way, when it is of the kind taken: it is dispatched to its owner, and behind
the last one the scan ends (R164, R165). DEDUCED: log entry 1. -/
def State.takeRequest (s : State) (kind : Request → Bool) (owner : State → Request → State) : State :=
  match s.req.scan with
  | [] => s
  | q :: rest =>
    if kind q then
      let s := owner (s.modReq fun h => { h with scan := rest }) q
      if s.req.scan.isEmpty ∧ s.device.scans then s.endScan else s
    else s

/-! ## FLUSH (R110) -/

/-- FLUSH. -/
def State.flushRequest (s : State) (q : Request) : State :=
  if s.device ≠ .active then s.refuse q .notActive
  else if s.req.flush.isSome then s.refuse q .busy
  else
    let s := (s.take q).modReq fun h =>
      { h with flush := some { index := q.index, tag := q.tag, counts := ⟨(0, 0), (0, 0)⟩, done := ⟨false, false⟩ } }
    s.bothRails fun r s => s.modTrk r fun k => { k with flushOrders := k.flushOrders ++ [q.tag] }

/-- The result words of a FLUSH (R183). -/
def flushWords (counts : Both (Nat × Nat)) : List Byte :=
  le16 counts.a.1 ++ le16 counts.a.2 ++ le16 counts.b.1 ++ le16 counts.b.2

/-- Flush done on a FLUSH marker: the FLUSH in hand completes once both rails have reported. -/
def State.flushReported (s : State) (r : Rail) (tag : Nat) : State :=
  match s.req.flush with
  | none => s
  | some f =>
    if f.tag ≠ tag then s
    else
      let done := f.done.set r true
      if done.a ∧ done.b then
        (s.modReq fun q => { q with flush := none }).complete f.index .done .ok (flushWords f.counts)
      else s.modReq fun q => { q with flush := some { f with done := done } }

/-- FLUSH_DONE_REPORT. -/
def execFlushDoneReport (r : Rail) (s : State) : Host.Outcome State Fault Refusal :=
  .next <| match s.req.flushDone.get r with
  | [] => s
  | tag :: rest => (s.modReq fun q => { q with flushDone := q.flushDone.set r rest }).flushReported r tag

/-! ## SNAPSHOT (R167, R168) -/

/-- The copies a shot in flight holds for an earlier snapshot are given up. -/
def Shot.uncopied (x : Shot) : Shot :=
  { x with firings := x.firings.map fun f => { f with copying := false, copied := [] } }

/-- SNAPSHOT, answered by the first case that applies (R167). -/
def State.snapshotRequest (s : State) (q : Request) : State :=
  let element := byteAt q.params 1
  let capacity := u32At q.params 4
  let destination := u64At q.params 8
  if s.device ≠ .active then s.refuse q .notActive
  else
    match railOfCode (byteAt q.params 0) with
    | none => s.refuse q .badParameter
    | some r =>
      if 11 < element ∨ destination % 64 ≠ 0 ∨ capacity = 0 then s.refuse q .badParameter
      else if Plan.fired s.plan r element = false then s.refuse q .notInPlan
      else if (s.req.snapshot.get r).isSome then s.refuse q .busy
      else
        let s := (s.take q).modReq fun h =>
          { h with snapshot := h.snapshot.set r (some
            { index := q.index, element := element, destination := destination, capacity := capacity, sweeps := 0,
              capture := none }) }
        s.setShot r ((s.rail r).shot.map Shot.uncopied)

/-- The snapshot of a rail that waits for its writes, with its capture. -/
def RequestHandler.captured (q : RequestHandler) (r : Rail) : Option (Snapshot × Capture) :=
  (q.snapshot.get r).bind fun x => x.capture.map fun c => (x, c)

/-- A snapshot in flight ends. -/
def State.endSnapshot (s : State) (r : Rail) (x : Snapshot) (state : ReqState) (code : ResultCode) (words : List Byte) :
    State :=
  (s.modReq fun q => { q with snapshot := q.snapshot.set r none }).complete x.index state code words

/-- The result words of a captured snapshot (R183). -/
def captureWords (count : Nat) (c : Capture) : List Byte := le32 count ++ le32 c.pc ++ [c.seq]

/-- SNAPSHOT_WRITE_COMPLETE: min(L, capacity) samples stand at the destination (R168), in the trace as the write completes.
DESIGN CHOICE: log entry 110. A write under way goes on in LOCKED, and its completion is kept. DEDUCED: log entry 111. -/
def execSnapshotWriteComplete (r : Rail) (s : State) : Host.Outcome State Fault Refusal :=
  .next <| match s.req.captured r with
  | none => s
  | some (x, c) =>
    let samples := c.samples.take x.capacity
    (s.issue [.write x.destination samples]).endSnapshot r x .done .ok (captureWords samples.length c)

/-- SNAPSHOT_WRITE_ERROR (R168): CONTEXT_FAULT is raised in LOCKED too (R157). DEDUCED: log entry 111. Nothing of the write
stands at the destination. DESIGN CHOICE: log entry 109. -/
def execSnapshotWriteError (r : Rail) (s : State) : Host.Outcome State Fault Refusal :=
  .next <| match s.req.captured r with
  | none => s
  | some (x, _) =>
    (s.endSnapshot r x .refused .hostMemory []).raiseReport .requestHandler .contextFault (.block .requestHandler)

/-- SNAPSHOT_NO_CLEAN_FIRING: the sweep count has reached 16 without a capture (R168); a completion that falls due in LOCKED
is kept (R166). -/
def execSnapshotNoCleanFiring (r : Rail) (s : State) : Host.Outcome State Fault Refusal :=
  .next <| match s.req.snapshot.get r with
  | none => s
  | some x =>
    if x.capture.isNone ∧ Config.snapshotSweeps ≤ x.sweeps then
      s.endSnapshot r x .done .noCleanFiring []
    else s

/-! ## SENSITIVITY and unknown kinds (R37, R165) -/

/-- SENSITIVITY (R37). -/
def State.sensitivityRequest (s : State) (q : Request) : State :=
  let offset := i8At q.params 1
  match railOfCode (byteAt q.params 0) with
  | none => s.refuse q .badParameter
  | some r =>
    if offset < -64 ∨ 64 < offset then s.refuse q .badParameter
    else (s.modEval r fun v => { v with offset := offset }).done q (leInt8 (s.rail r).eval.offset)

/-! ## The request of each row -/

/-- ACTIVATE_PLAN. -/
def execActivatePlan (s : State) : Host.Outcome State Fault Refusal :=
  .next (s.takeRequest (fun q => q.kind == 1) State.activatePlan)

/-- CHECK_PLAN. -/
def execCheckPlan (s : State) : Host.Outcome State Fault Refusal :=
  .next (s.takeRequest (fun q => q.kind == 2) State.checkPlan)

/-- STOP. -/
def execStop (s : State) : Host.Outcome State Fault Refusal :=
  .next (s.takeRequest (fun q => q.kind == 3) State.stopRequest)

/-- FLUSH. -/
def execFlush (s : State) : Host.Outcome State Fault Refusal :=
  .next (s.takeRequest (fun q => q.kind == 4) State.flushRequest)

/-- SET_POSITION_NOW: form NOW, or a form code outside its range. DESIGN CHOICE: log entry 46. -/
def execSetPositionNow (s : State) : Host.Outcome State Fault Refusal :=
  .next (s.takeRequest (fun q => q.kind == 5 && byteAt q.params 0 != 1) State.setPositionNow)

/-- SET_POSITION_AT_MARK. -/
def execSetPositionAtMark (s : State) : Host.Outcome State Fault Refusal :=
  .next (s.takeRequest (fun q => q.kind == 5 && byteAt q.params 0 == 1) State.setPositionAtMark)

/-- ACK_ALARM. -/
def execAckAlarm (s : State) : Host.Outcome State Fault Refusal :=
  .next (s.takeRequest (fun q => q.kind == 6) State.ackAlarm)

/-- SUPPRESS_START: action START, or an action code outside the three. -/
def execSuppressStart (s : State) : Host.Outcome State Fault Refusal :=
  .next (s.takeRequest (fun q => q.kind == 7 && byteAt q.params 0 != 1 && byteAt q.params 0 != 2) State.suppressStart)

/-- SUPPRESS_EXTEND. -/
def execSuppressExtend (s : State) : Host.Outcome State Fault Refusal :=
  .next (s.takeRequest (fun q => q.kind == 7 && byteAt q.params 0 == 1) State.suppressExtend)

/-- SUPPRESS_END. -/
def execSuppressEnd (s : State) : Host.Outcome State Fault Refusal :=
  .next (s.takeRequest (fun q => q.kind == 7 && byteAt q.params 0 == 2) State.suppressEnd)

/-- SNAPSHOT. -/
def execSnapshot (s : State) : Host.Outcome State Fault Refusal :=
  .next (s.takeRequest (fun q => q.kind == 8) State.snapshotRequest)

/-- MARKER_TEST: action TEST, or an action code outside its range. -/
def execMarkerTest (s : State) : Host.Outcome State Fault Refusal :=
  .next (s.takeRequest (fun q => q.kind == 9 && byteAt q.params 2 != 1) State.markerTest)

/-- MARKER_RELEASE. -/
def execMarkerRelease (s : State) : Host.Outcome State Fault Refusal :=
  .next (s.takeRequest (fun q => q.kind == 9 && byteAt q.params 2 == 1) State.markerRelease)

/-- SENSITIVITY. -/
def execSensitivity (s : State) : Host.Outcome State Fault Refusal :=
  .next (s.takeRequest (fun q => q.kind == 10) State.sensitivityRequest)

/-- UNKNOWN_KIND. -/
def execUnknownKind (s : State) : Host.Outcome State Fault Refusal :=
  .next (s.takeRequest (fun q => q.kind == 0 || decide (10 < q.kind)) fun s q => s.refuse q .unknownKind)

/-! ## Errors of writes (R166, R169) -/

/-- The places of the actions that stood behind place `m` and before `stop` fall by one, the action at `m` having gone
to the place before `stop`. -/
def placeMoved (m stop n : Nat) : Nat := if m < n ∧ n < stop then n - 1 else n

/-- The action at place `m` of a trace moved behind those that stood before `stop`. -/
def moveBehind (m stop : Nat) (trace : List BusAction) : List BusAction :=
  trace.take m ++ (trace.drop (m + 1)).take (stop - (m + 1)) ++ (trace.drop m).take 1 ++ trace.drop stop

/-- A message that announces REQUEST stands right behind an entry write. -/
def State.announces (s : State) (w : IssuedWrite) : Bool :=
  s.bus.trace[w.start + w.count]? == some (.message .request)

/-- The attention message moved from behind an entry write to behind the later one, ending at `stop`, whose completion
set the cause (R179); the places noted in the trace follow. -/
def State.moveMessage (s : State) (w : IssuedWrite) (stop : Nat) : State :=
  if s.announces w then
    let m := w.start + w.count
    let place := placeMoved m stop
    (s.modBus fun b => { b with trace := moveBehind m stop b.trace }).modReq fun q =>
      { q with issued := q.issued.map fun o => o.map fun v => { v with start := place v.start },
               announced := q.announced.map fun x => (place x.1, if x.2 = stop then stop - 1 else place x.2),
               statusIssued := q.statusIssued.map place }
  else s

/-- The cause goes with the entry write that alone set it, and the message behind it is void (R166, R178). -/
def State.withdrawCause (s : State) (w : IssuedWrite) : State :=
  s.modBus fun b =>
    { b with causes := { b.causes with request := false },
             trace := if s.announces w then voidActions (w.start + w.count) 1 b.trace else b.trace }

/-- An entry write that failed announces nothing: the REQUEST cause is withdrawn where it stands for that write alone,
and where that write set it first and others stand, its message goes behind the first of them.
DESIGN CHOICE: log entry 12. -/
def State.unannounce (s : State) (w : IssuedWrite) : State :=
  let rest := s.req.announced.filter fun x => x.1 != w.start
  let t := s.modReq fun q => { q with announced := rest }
  match s.req.announced with
  | [] => s
  | x :: _ =>
    if x.1 = w.start then
      match rest with
      | [] => t.withdrawCause w
      | y :: _ => t.moveMessage w y.2
    else t

/-- The status areas written behind an entry write show its index as held (R166, R169). -/
def showHeld (address i start : Nat) (trace : List BusAction) : List BusAction :=
  trace.take start ++ (trace.drop start).map fun a => match a with
    | .write b bytes =>
      if b = address then .write b (bytes.modify heldOffset fun v => v ||| BitVec.ofNat 8 (2 ^ i)) else .write b bytes
    | .message c => .message c
    | .void => .void

/-- The pending write of an index once a write of it has failed. DESIGN CHOICE: log entry 92. -/
def RequestHandler.kept (q : RequestHandler) (i : Nat) (w : EntryWrite) : EntryWrite := (q.pendingWrites.getD i none).getD w

/-- An entry write ends in a host-memory error: what did not land is void, and it becomes the pending write of its index,
which stays held; a scan whose last entry falls away with it ends (R164, R166). Where a completion that fell due in
LOCKED is already kept, it stays the one kept. DESIGN CHOICE: log entry 92. -/
def State.entryFails (s : State) (i : Nat) (w : IssuedWrite) (landed : Nat) : State :=
  let scan := s.req.scan.filter fun x => x.index != i
  let ended : Bool := s.device.scans && scan.isEmpty && !s.req.scan.isEmpty
  let s := s.modBus fun b =>
    { b with trace := showHeld (s.statusBase + 4) i w.start (voidActions (w.start + landed) (w.count - landed) b.trace) }
  let s := (s.unannounce w).modReq fun q =>
    { q with pendingWrites := q.pendingWrites.set i (some (q.kept i w.write)), issued := q.issued.set i none, scan := scan }
  let s := s.raiseReport .requestHandler .contextFault (.block .requestHandler)
  if ended then s.endScan else s

/-- ENTRY_WRITE_ERROR: it names the last write issued for the index. DESIGN CHOICE: log entry 128. -/
def execEntryWriteError (i landed : Nat) (s : State) : Host.Outcome State Fault Refusal :=
  .next <| match s.req.issued.getD i none with
  | none => s
  | some w => s.entryFails i w (min landed (w.count - 1))

/-- A rewrite of the status area ends in a host-memory error: it is abandoned where it stands (R169). -/
def State.statusFails (s : State) (back start landed : Nat) : State :=
  let s := s.modBus fun b => { b with trace := voidActions (start + landed) (3 - landed) b.trace }
  (s.modReq fun q => { q with statusIssued := q.statusIssued.eraseIdx back }).raiseReport .busInterface .contextFault
    (.block .busInterface)

/-- STATUS_WRITE_ERROR. -/
def execStatusWriteError (failed : FailedRewrite) (s : State) : Host.Outcome State Fault Refusal :=
  .next <| match s.req.statusIssued[failed.back]? with
  | none => s
  | some start => s.statusFails failed.back start (min failed.landed 2)

end Sys2Proof.Machine
end

