-- ==== Sys2Proof/Machine/Bus.lean ====
section
/-! DEFINITION. The Bus Interface (chapter 10): writes to the six registers, BIND and its checks, the device reset,
the attention enables and causes; and the hardware reset of the whole part. -/

namespace Sys2Proof.Machine

/-! ## CONTROL and ATTENTION (R160, R161, R178) -/

/-- The causes in the order of their bits. -/
def AttnCause.all : List AttnCause := [.journal, .request, .alarm, .state]

/-- The enables written: an enable that goes from clear to set while its cause is set sends a message (R178).
DEDUCED: log entry 34. -/
def State.writeEnables (s : State) (v : AttnBits) : State :=
  let old := s.bus.enables
  let raised := AttnCause.all.filter fun c => v.get c && !old.get c && s.bus.causes.get c
  (s.modBus fun b => { b with enables := v }).issue (raised.map .message)

/-- The Context Block address in CONTEXT_LO and CONTEXT_HI. -/
def BusInterface.address (b : BusInterface) : Nat := b.contextLo.toNat + 2 ^ 32 * b.contextHi.toNat

/-- BIND: in UNBOUND with no BIND in progress the address is latched and the reading begins (R161, R162). -/
def State.beginBind (s : State) : State :=
  if s.device = .unbound ∧ s.bus.binding.isNone then s.modBus fun b => { b with binding := some b.address } else s

/-- A device reset: every block takes the values its chapter gives, and the device becomes UNBOUND (R17, R39, R63, R79,
R90, R112, R132, R145, R159, R160, R161, R166, R169, R177). DEDUCED: log entry 6. -/
def State.deviceReset (s : State) : State :=
  let rail (r : Rail) : RailBlocks :=
    .cleared (s.rail r).seq.lift s.pos.dir s.pos.p (s.rail r).link.sent
  { pending := s.pending, device := .unbound,
    pos := { s.pos with degraded := false, fault := false, limit := false, armed := none }, plans := .cleared,
    rails := ⟨rail .A, rail .B⟩, coupling := .cleared, indicationCounter := 1,
    alarm := .cleared s.alarm.cabLevel s.alarm.threshold, req := .cleared s.req.rewrite, jrn := .cleared,
    bus := { BusInterface.hardware s.bus.trace with contextLo := s.bus.contextLo, contextHi := s.bus.contextHi } }

/-- A write to CONTROL: the enables take the written values, and the command is carried out (R161).
DESIGN CHOICE: log entry 33. -/
def State.writeControl (s : State) (v : Word) : State :=
  let s := s.writeEnables (enablesOf v)
  let command := (v.extractLsb' 0 4).toNat
  if command = 1 then s.beginBind else if command = 2 then s.deviceReset else s

/-- BIND. -/
def execBind (v : Word) (s : State) : Host.Outcome State Fault Refusal := .next (s.writeControl v)

/-- RESET. -/
def execReset (v : Word) (s : State) : Host.Outcome State Fault Refusal := .next (s.writeControl v)

/-- CONTROL_NONE. -/
def execControlNone (v : Word) (s : State) : Host.Outcome State Fault Refusal := .next (s.writeControl v)

/-- A write to ATTENTION (R160). -/
def State.writeAttention (s : State) (v : Word) : State := s.modBus fun b => { b with causes := b.causes.clearedBy v }

/-- ATTENTION_WRITE. -/
def execAttentionWrite (v : Word) (s : State) : Host.Outcome State Fault Refusal := .next (s.writeAttention v)

/-! ## The other registers (R160) -/

/-- A value with its twelve low bits 0. -/
def pageAligned (v : Word) : Word := v &&& 0xFFFFF000

/-- A write to CONTEXT_LO or CONTEXT_HI takes effect in UNBOUND with no BIND in progress; a write to a read-only
register is ignored. -/
def State.writeRegister (s : State) (offset : Nat) (v : Word) : State :=
  if offset = 0x04 then s.writeControl v
  else if offset = 0x0C then s.writeAttention v
  else if s.device ≠ .unbound ∨ s.bus.binding.isSome then s
  else if offset = 0x10 then s.modBus fun b => { b with contextLo := pageAligned v }
  else if offset = 0x14 then s.modBus fun b => { b with contextHi := v }
  else s

/-- REGISTER_WRITE. -/
def execRegisterWrite (offset : Nat) (v : Word) (s : State) : Host.Outcome State Fault Refusal :=
  .next (s.writeRegister offset v)

/-! ## BIND (R162) -/

/-- A BIND that fails shows its bind_error, and the STATE cause is set. -/
def State.bindFails (s : State) (e : BindError) : State := (s.modBus fun b => { b with bindError := e }).setCause .state

/-- The Journal Writer as a BIND sets it. -/
def JournalWriter.bound (f : ContextFields) : JournalWriter :=
  { JournalWriter.cleared with base := f.base, slotCount := f.slotCount, reserve := f.reserve, consumers := f.consumers,
                               w := f.startIndex % f.slotCount, nextSeq := BitVec.ofNat 32 f.firstSeq }

/-- The Alarm Unit raises each condition source whose present flag is set, with its latest detail (R147). -/
def State.raisePresent (s : State) : State :=
  s.eachSource fun s src =>
    let x := s.alarm.source src
    match x.detail with
    | none => s
    | some d => if src.isCondition ∧ x.present then s.takeRaise src d else s

/-- A BIND that succeeds: lines due under the filter time so far are accepted as the UNBOUND part accepts them, and the
device becomes BOUND with the new settings. DEDUCED: log entry 39. The status area is written before the conditions present
are raised. DESIGN CHOICE: log entry 91. -/
def State.bindSucceeds (s : State) (address : Nat) (f : ContextFields) : State :=
  let s := s.acceptDue false
  let s := { s with device := .bound, jrn := .bound f, indicationCounter := 1 }
  let s := s.modBus fun b => { b with bindError := .none, context := address }
  let s := s.modAlarm fun a => { a with cabLevel := f.cabLevel, threshold := f.threshold }
  let s := s.modReq fun q => { q with scanTimer := true, scanInterval := f.scanInterval }
  ((s.loadSettings f.settings).announce).raisePresent

/-- The Context Block read ends (R162). -/
def State.endBind (s : State) (address : Nat) (block : Option (List Byte)) : State :=
  let s := s.modBus fun b => { b with binding := none }
  match block with
  | none => s.bindFails .hostMemory
  | some bytes =>
    let f := readContext bytes
    let e := bindChecks f
    if e = .none then s.bindSucceeds address f else s.bindFails e

/-- BIND_COMPLETE: it ends the BIND in progress. -/
def execBindComplete (block : Option (List Byte)) (s : State) : Host.Outcome State Fault Refusal :=
  .next <| match s.bus.binding with
  | none => s
  | some address => s.endBind address block

/-! ## The hardware reset (R17, R160) -/

/-- HARDWARE_RESET: every block takes its hardware-reset values, and the input lines their raw levels. The commands
waiting and the traces of what was done on the links are no state of the part. -/
def execHardwareReset (pins : Pins) (s : State) : Host.Outcome State Fault Refusal :=
  .next (.hardware pins s.pending ⟨(s.rail .A).link.sent, (s.rail .B).link.sent⟩ s.bus.trace)

end Sys2Proof.Machine
end

