-- ==== Sys2Proof/Machine/Dispatch.lean ====
section
/-! DEFINITION. Every command has one arm: a direct call of its meaning. -/

namespace Sys2Proof.Machine

def exec (i : Instr) (s : State) : Host.Outcome State Fault Refusal :=
  match i with
  | .hardwareReset pins => Sys2Proof.Machine.execHardwareReset pins s
  | .rawInputChange tachA tachB markIn => Sys2Proof.Machine.execRawInputChange tachA tachB markIn s
  | .holdTimerExpiry markFirst => Sys2Proof.Machine.execHoldTimerExpiry markFirst s
  | .liftChange r asserted => Sys2Proof.Machine.execLiftChange r asserted s
  | .sampleFrame r bytes => Sys2Proof.Machine.execSampleFrame r bytes s
  | .endFrame r bytes => Sys2Proof.Machine.execEndFrame r bytes s
  | .idleFrame r bytes => Sys2Proof.Machine.execIdleFrame r bytes s
  | .badFrame r bytes => Sys2Proof.Machine.execBadFrame r bytes s
  | .endTimerExpiry r => Sys2Proof.Machine.execEndTimerExpiry r s
  | .presenceTimerExpiry r => Sys2Proof.Machine.execPresenceTimerExpiry r s
  | .linkUp r => Sys2Proof.Machine.execLinkUp r s
  | .sweepStep r strikes => Sys2Proof.Machine.execSweepStep r strikes s
  | .surveyMark r => Sys2Proof.Machine.execSurveyMark r s
  | .sequencerReversalNotice r => Sys2Proof.Machine.execSequencerReversalNotice r s
  | .sweepStepReport r => Sys2Proof.Machine.execSweepStepReport r s
  | .holdOrder r => Sys2Proof.Machine.execHoldOrder r s
  | .holdRelease r => Sys2Proof.Machine.execHoldRelease r s
  | .couplingResult r => Sys2Proof.Machine.execCouplingResult r s
  | .hitFilter r => Sys2Proof.Machine.execHitFilter r s
  | .shotReleasedMarker r => Sys2Proof.Machine.execShotReleasedMarker r s
  | .couplingLiftNotice r => Sys2Proof.Machine.execCouplingLiftNotice r s
  | .couplingReleaseNotice r => Sys2Proof.Machine.execCouplingReleaseNotice r s
  | .couplingPlanReset => Sys2Proof.Machine.execCouplingPlanReset s
  | .couplingPlanEnded => Sys2Proof.Machine.execCouplingPlanEnded s
  | .trackHit r => Sys2Proof.Machine.execTrackHit r s
  | .trackGapClose r => Sys2Proof.Machine.execTrackGapClose r s
  | .trackLiftNotice r => Sys2Proof.Machine.execTrackLiftNotice r s
  | .trackInterruptNotice r => Sys2Proof.Machine.execTrackInterruptNotice r s
  | .trackPresetCut r => Sys2Proof.Machine.execTrackPresetCut r s
  | .trackReversalClose r => Sys2Proof.Machine.execTrackReversalClose r s
  | .trackTachFaultClose r => Sys2Proof.Machine.execTrackTachFaultClose r s
  | .cutOrder r => Sys2Proof.Machine.execCutOrder r s
  | .stopOrder r => Sys2Proof.Machine.execStopOrder r s
  | .flushOrder r => Sys2Proof.Machine.execFlushOrder r s
  | .trackPlanEnded r => Sys2Proof.Machine.execTrackPlanEnded r s
  | .trackSummary r => Sys2Proof.Machine.execTrackSummary r s
  | .flushMarker r => Sys2Proof.Machine.execFlushMarker r s
  | .horizonFinalize r => Sys2Proof.Machine.execHorizonFinalize r s
  | .markAnswer r => Sys2Proof.Machine.execMarkAnswer r s
  | .stopBegunNotice r => Sys2Proof.Machine.execStopBegunNotice r s
  | .assemblyPlanEnded r => Sys2Proof.Machine.execAssemblyPlanEnded r s
  | .markRequest r => Sys2Proof.Machine.execMarkRequest r s
  | .positionChange r => Sys2Proof.Machine.execPositionChange r s
  | .markerDirectionDeclared r => Sys2Proof.Machine.execMarkerDirectionDeclared r s
  | .markerReversalPurge r => Sys2Proof.Machine.execMarkerReversalPurge r s
  | .markerTachFaultPurge r => Sys2Proof.Machine.execMarkerTachFaultPurge r s
  | .markerStopPurge r => Sys2Proof.Machine.execMarkerStopPurge r s
  | .markerPlanEndedPurge r => Sys2Proof.Machine.execMarkerPlanEndedPurge r s
  | .markerPresetTranslate r => Sys2Proof.Machine.execMarkerPresetTranslate r s
  | .nozzleCheck r => Sys2Proof.Machine.execNozzleCheck r s
  | .pulseTimerExpiry r nozzle => Sys2Proof.Machine.execPulseTimerExpiry r nozzle s
  | .testTimerExpiry r nozzle => Sys2Proof.Machine.execTestTimerExpiry r nozzle s
  | .planLoadComplete bytes => Sys2Proof.Machine.execPlanLoadComplete bytes s
  | .planLoadError => Sys2Proof.Machine.execPlanLoadError s
  | .railHeldReport r => Sys2Proof.Machine.execRailHeldReport r s
  | .switchFlushDone r => Sys2Proof.Machine.execSwitchFlushDone r s
  | .couplingResetDone => Sys2Proof.Machine.execCouplingResetDone s
  | .stopFlushDone r => Sys2Proof.Machine.execStopFlushDone r s
  | .flushDoneReport r => Sys2Proof.Machine.execFlushDoneReport r s
  | .scanTimerExpiry table => Sys2Proof.Machine.execScanTimerExpiry table s
  | .activatePlan => Sys2Proof.Machine.execActivatePlan s
  | .checkPlan => Sys2Proof.Machine.execCheckPlan s
  | .stop => Sys2Proof.Machine.execStop s
  | .flush => Sys2Proof.Machine.execFlush s
  | .setPositionNow => Sys2Proof.Machine.execSetPositionNow s
  | .setPositionAtMark => Sys2Proof.Machine.execSetPositionAtMark s
  | .ackAlarm => Sys2Proof.Machine.execAckAlarm s
  | .suppressStart => Sys2Proof.Machine.execSuppressStart s
  | .suppressExtend => Sys2Proof.Machine.execSuppressExtend s
  | .suppressEnd => Sys2Proof.Machine.execSuppressEnd s
  | .snapshot => Sys2Proof.Machine.execSnapshot s
  | .markerTest => Sys2Proof.Machine.execMarkerTest s
  | .markerRelease => Sys2Proof.Machine.execMarkerRelease s
  | .sensitivity => Sys2Proof.Machine.execSensitivity s
  | .unknownKind => Sys2Proof.Machine.execUnknownKind s
  | .entryWriteError index landed => Sys2Proof.Machine.execEntryWriteError index landed s
  | .statusWriteError landed => Sys2Proof.Machine.execStatusWriteError landed s
  | .snapshotWriteError r => Sys2Proof.Machine.execSnapshotWriteError r s
  | .snapshotNoCleanFiring r => Sys2Proof.Machine.execSnapshotNoCleanFiring r s
  | .alarmRaise raiser => Sys2Proof.Machine.execAlarmRaise raiser s
  | .conditionEnd raiser => Sys2Proof.Machine.execConditionEnd raiser s
  | .alarmProgressEvent => Sys2Proof.Machine.execAlarmProgressEvent s
  | .suppressionExpiry => Sys2Proof.Machine.execSuppressionExpiry s
  | .recordOffer => Sys2Proof.Machine.execRecordOffer s
  | .journalTakeRecord masks => Sys2Proof.Machine.execJournalTakeRecord masks s
  | .roomCheckRetry masks => Sys2Proof.Machine.execRoomCheckRetry masks s
  | .journalReadError masks => Sys2Proof.Machine.execJournalReadError masks s
  | .journalWriteComplete => Sys2Proof.Machine.execJournalWriteComplete s
  | .journalWriteError landed => Sys2Proof.Machine.execJournalWriteError landed s
  | .bind value => Sys2Proof.Machine.execBind value s
  | .bindComplete block => Sys2Proof.Machine.execBindComplete block s
  | .reset value => Sys2Proof.Machine.execReset value s
  | .controlNone value => Sys2Proof.Machine.execControlNone value s
  | .attentionWrite value => Sys2Proof.Machine.execAttentionWrite value s
  | .registerWrite offset value => Sys2Proof.Machine.execRegisterWrite offset value s
  | .snapshotWriteComplete r => Sys2Proof.Machine.execSnapshotWriteComplete r s

end Sys2Proof.Machine
end

