-- ==== Sys2Proof/Machine/Step.lean ====
section
/-! DEFINITION. The step of the part: the command at the front of the queue is taken and carried out; with no command
waiting, 100 ns pass. -/

namespace Sys2Proof.Machine

/-- The part while no command waits: 100 ns pass on the input lines (R1), and nothing else moves by itself.
DESIGN CHOICE: log entry 3. -/
def State.idle (s : State) : State := s.tick

/-- One step: the front command on the state with the queue's rest, or the idle step on an empty queue. -/
def step (s : State) : Host.Outcome State Fault Refusal :=
  match s.pending with
  | [] => .next s.idle
  | c :: rest => exec c { s with pending := rest }

/-- The command a word spells put at the front of the queue; no row of the table gives bits, so no word spells one.
DESIGN CHOICE: log entry 41. -/
def State.withFetchWord (s : State) (nbits w : Nat) : State :=
  match decodeTableWord nbits w with
  | none => s
  | some c => { s with pending := c :: s.pending }

end Sys2Proof.Machine
end

