-- ==== Sys2Proof/WellFormed.lean ====
section
/-! DEFINITION. Which commands are well formed: the operands a sender can give, as the spec bounds them. A command
that is not well formed still has the meaning its row gives it; nothing in the machine rests on this file. -/

namespace Sys2Proof

/-- A register write whose command field is that of the row (R161, R181). -/
def commandField (value : Word) : Nat := (value.extractLsb' 0 4).toNat

/-- The operands of a command lie where the spec says they can. -/
def Instr.wellFormed : Instr → Bool
  | .sampleFrame _ bs => Machine.frameGood bs && Machine.byteAt bs 0 == 2
  | .endFrame _ bs => Machine.frameGood bs && Machine.byteAt bs 0 == 3
  | .idleFrame _ bs => Machine.frameGood bs && Machine.byteAt bs 0 == 4
  | .badFrame _ bs => !Machine.frameGood bs
  | .sweepStep _ strikes => strikes.all fun k => k.offset < Config.maxPlanBytes
  | .pulseTimerExpiry _ n => n < 4
  | .testTimerExpiry _ n => n < 4
  | .planLoadComplete bs => bs.length ≤ Config.maxPlanBytes
  | .scanTimerExpiry (some t) => t.length == 512
  | .entryWriteError i k => i < 8 && k < 4
  | .statusWriteError x => x.landed < 3
  | .journalWriteError k => k < 8
  | .bind v => commandField v == 1
  | .bindComplete (some b) => b.length == 72
  | .reset v => commandField v == 2
  | .controlNone v => commandField v != 1 && commandField v != 2
  | .registerWrite o _ => o != 0x04 && o != 0x0C
  | .hardwareReset _ => true
  | .rawInputChange _ _ _ => true
  | .holdTimerExpiry _ => true
  | .liftChange _ _ => true
  | .endTimerExpiry _ => true
  | .presenceTimerExpiry _ => true
  | .linkUp _ => true
  | .surveyMark _ => true
  | .sequencerReversalNotice _ => true
  | .sweepStepReport _ => true
  | .holdOrder _ => true
  | .holdRelease _ => true
  | .couplingResult _ => true
  | .hitFilter _ => true
  | .shotReleasedMarker _ => true
  | .couplingLiftNotice _ => true
  | .couplingReleaseNotice _ => true
  | .couplingPlanReset => true
  | .couplingPlanEnded => true
  | .trackHit _ => true
  | .trackGapClose _ => true
  | .trackLiftNotice _ => true
  | .trackInterruptNotice _ => true
  | .trackPresetCut _ => true
  | .trackReversalClose _ => true
  | .trackTachFaultClose _ => true
  | .cutOrder _ => true
  | .stopOrder _ => true
  | .flushOrder _ => true
  | .trackPlanEnded _ => true
  | .trackSummary _ => true
  | .flushMarker _ => true
  | .horizonFinalize _ => true
  | .markAnswer _ => true
  | .stopBegunNotice _ => true
  | .assemblyPlanEnded _ => true
  | .markRequest _ => true
  | .positionChange _ => true
  | .markerDirectionDeclared _ => true
  | .markerReversalPurge _ => true
  | .markerTachFaultPurge _ => true
  | .markerStopPurge _ => true
  | .markerPlanEndedPurge _ => true
  | .markerPresetTranslate _ => true
  | .nozzleCheck _ => true
  | .planLoadError => true
  | .railHeldReport _ => true
  | .switchFlushDone _ => true
  | .couplingResetDone => true
  | .stopFlushDone _ => true
  | .flushDoneReport _ => true
  | .scanTimerExpiry none => true
  | .activatePlan => true
  | .checkPlan => true
  | .stop => true
  | .flush => true
  | .setPositionNow => true
  | .setPositionAtMark => true
  | .ackAlarm => true
  | .suppressStart => true
  | .suppressExtend => true
  | .suppressEnd => true
  | .snapshot => true
  | .markerTest => true
  | .markerRelease => true
  | .sensitivity => true
  | .unknownKind => true
  | .snapshotWriteError _ => true
  | .snapshotNoCleanFiring _ => true
  | .alarmRaise _ => true
  | .conditionEnd _ => true
  | .alarmProgressEvent => true
  | .suppressionExpiry => true
  | .recordOffer => true
  | .journalTakeRecord _ => true
  | .roomCheckRetry _ => true
  | .journalReadError _ => true
  | .journalWriteComplete => true
  | .bindComplete none => true
  | .attentionWrite _ => true
  | .snapshotWriteComplete _ => true

end Sys2Proof
end

