-- ==== Sys2Proof/Safety.lean ====
section
/-! DEFINITION. What counts as a safe state of the part, in the terms the claims use: the Sequencer states in step with
the device, the links and the carriages (R40), the Position Unit within its ranges (chapter 1, first table), and the
bounds of the outbound queue and the track tables (R91, R172). -/

namespace Sys2Proof.Machine

/-! ## Sequencers in step (R40, R41, R59) -/

/-- A Sequencer's state holds as the table of R40 gives. -/
def State.sequencerHolds (s : State) (r : Rail) : Prop :=
  match (s.rail r).seq.state with
  | .off => s.device ≠ .active
  | .lifted => s.device = .active ∧ (s.rail r).seq.lift = true
  | .linkDown => s.device = .active ∧ (s.rail r).seq.lift = false ∧ (s.rail r).link.state = .down
  | .waiting =>
    s.device = .active ∧ (s.rail r).seq.lift = false ∧ (s.rail r).link.state = .up ∧ (s.rail r).shot.isSome = false
  | .shot =>
    s.device = .active ∧ (s.rail r).seq.lift = false ∧ (s.rail r).link.state = .up ∧ (s.rail r).shot.isSome = true

/-- A rail is in step: its Sequencer's state holds, a shot is in flight in SHOT alone, and outside ACTIVE its link is
held DOWN with the presence timer stopped. -/
def State.railInStep (s : State) (r : Rail) : Prop :=
  s.sequencerHolds r ∧ ((s.rail r).shot.isSome = true → (s.rail r).seq.state = .shot) ∧
    (s.device ≠ .active → (s.rail r).link.state = .down ∧ (s.rail r).link.presence = false)

/-- The part is in step: both rails are, a BIND is in progress in UNBOUND alone, and no stop is in progress there. -/
def State.inStep (s : State) : Prop :=
  (∀ r, s.railInStep r) ∧ (s.bus.binding.isSome = true → s.device = .unbound) ∧
    (s.device = .unbound → s.plans.stop.isSome = false)

/-! ## The Position Unit within its ranges (R4, R6, R7, R9, R13) -/

/-- The state of the Position Unit lies in the ranges its table gives; an armed preset holds a value of P. -/
def PositionUnit.inRange (u : PositionUnit) : Prop :=
  0 ≤ u.rem ∧ u.rem < Config.unitsPerMm ∧ u.p ≤ Config.maxU32 ∧ u.e ≤ Config.maxU32 ∧ u.t ≤ Config.maxU32 ∧
    u.score ≤ 255 ∧ ∀ a, u.armed = some a → a.value ≤ Config.maxU32

/-! ## Bounds (R91, R172) -/

/-- The outbound queue holds at most 32 records, and each track table has its 48 entries. -/
def State.bounded (s : State) : Prop :=
  s.jrn.queue.length ≤ Config.queueRecords ∧ ∀ r, (s.rail r).trk.table.length = Config.trackEntries

/-- A state in which every claim about the running part is made. -/
def State.safe (s : State) : Prop := s.inStep ∧ s.pos.inRange ∧ s.bounded

/-! ## Resets -/

/-- A command that is a reset: the hardware reset, or a write to CONTROL whose command field is RESET (R161). -/
def isReset (c : Instr) : Prop :=
  (∃ pins, c = .hardwareReset pins) ∨
    ∃ v, commandField v = 2 ∧ (c = .bind v ∨ c = .reset v ∨ c = .controlNone v ∨ c = .registerWrite 0x04 v)

/-! ## What the resets leave (R39, R63, R79, R90, R112, R132, R145, R159, R166, R177), value by value -/

/-- The Plan Store: both banks EMPTY, and nothing in progress (R39). That an EMPTY bank holds no bytes and that the reports
on their way are gone is log entry 6. -/
def plansAfterReset : PlanStore :=
  let bank : Bank := { state := .empty, contents := [], planId := 0, codes := { a := none, b := none } }
  { active := bank, standby := bank, load := none, pendingActivation := none, protocol := none, stop := none,
    stepReports := { a := 0, b := 0 }, heldReports := { a := 0, b := 0 }, switchDone := { a := 0, b := 0 },
    stopDone := { a := 0, b := 0 }, resetDone := 0 }

/-- The blocks of one rail (R63, R79, R112, R132, R145), with what stands outside the part or is kept: the LIFT level, the
markers' view of the direction and of P (log entry 62), and the frames sent. That the paths are empty is log entry 6, and
the sense of +1 before a plan is read log entry 7. -/
def railAfterReset (lift : Bool) (dir : Dir) (p : Nat) (sent : List (List Byte)) : RailBlocks :=
  let nozzle : Nozzle := { desc := none, position := none, drive := false, latched := false, pulse := none, test := none }
  { seq :=
      { state := .off, held := false, heldReported := false, nextMark := 0, shotSeq := 0, lift := lift, surveyMark := 0,
        counters :=
          { sweeps := 0, truncated := 0, skipped := 0, untested := 0, abandoned := 0, damaged := 0, missingEnds := 0,
            crcErrors := 0, stray := 0, reversals := 0 },
        notices := [], orders := [] },
    link :=
      { state := .down, presence := false, good := 0, missing := 0, downHeld := false, upSinceEntry := false,
        endTimer := none, sent := sent },
    eval := { offset := 0, release := [], wedge := 0, beyond := 0 },
    shot := none,
    trk :=
      { table := List.replicate 48 none, path := [], lost := 0, hits := [], notices := [], liftNotices := 0,
        interruptNotices := 0, tachNotices := 0, orders := [], flushOrders := [] },
    asm := { list := [], arrivals := 0, stopping := false, job := none, notices := [], orders := [] },
    mrk :=
      { queue := [], dir := dir, p := p, sense := 1, nozzles := [nozzle, nozzle, nozzle, nozzle], notices := [],
        tachNotices := 0, orders := [] } }

/-- The Coupling Monitor: every element UNMONITORED with its counts 0 and lost_at none, and hits_suppressed 0 (R90). -/
def couplingAfterReset : CouplingMonitor :=
  let elements : List ElementRecord :=
    List.replicate 12 { state := .unmonitored, absence := 0, presence := 0, lostAt := none, lostGroup := 0 }
  { elements := { a := elements, b := elements }, suppressed := { a := 0, b := 0 }, lossFlag := false,
    carriage := { a := [], b := [] }, orders := [] }

/-- The Alarm Unit (R159): every source IDLE with raise_count 0 and its present flag clear, the soft levels 4 and the faults'
8, 9 and 10 (R146), no suppression, no remembered state and no lock pair. -/
def alarmAfterReset (cabLevel threshold : Nat) : AlarmUnit :=
  let source (level : Nat) : SourceRecord :=
    { state := .idle, level := level, raiseCount := 0, present := false, detail := none }
  { sources := [4, 4, 4, 4, 4, 4, 4, 4, 4, 4, 4, 4, 8, 9, 10].map source, linkMask := { a := false, b := false },
    suppression := 0, suppressedCount := 0, expiryDue := false, remembered := none, planFaultSeen := false,
    lockPair := none, cabLevel := cabLevel, threshold := threshold, reports := [] }

/-- The Request Handler: no taken request and no pending write (R166), the scan timer stopped (R164), no snapshot and no
FLUSH in hand. A scan interval of 0 while nothing is bound is log entry 7. -/
def requestsAfterReset (rewrite : BitVec 32) : RequestHandler :=
  { scanTimer := false, scanInterval := 0, scan := [], taken := [none, none, none, none, none, none, none, none],
    pendingWrites := [none, none, none, none, none, none, none, none],
    issued := [none, none, none, none, none, none, none, none], announced := [], snapshot := { a := none, b := none },
    flush := none, flushDone := { a := [], b := [] }, rewrite := rewrite, statusIssued := [] }

/-- The Journal Writer: the queue empty, the gap clear, not stopped (R177). The zeros of the ring's own values, which the next
BIND sets, are log entry 7. -/
def writerAfterReset : JournalWriter :=
  let gap : GapState := { pending := false, counts := [0, 0, 0, 0, 0, 0, 0, 0], firstP := 0, lastP := 0 }
  { base := 0, slotCount := 0, reserve := 0, consumers := List.replicate 8 { enabled := false, subscriptions := 0 },
    queue := [], w := 0, nextSeq := 0, knownFree := 0, gap := gap, gapLate := gap, stopped := false, phase := .idle,
    presented := [] }

/-! ## What changes of the input lines come to (R2 to R5, R12, R15) -/

/-- An illegal change: 8 on the score up to 255, and a raise of each condition whose threshold the score is left at and whose
flag is clear (R4, R5). The order of the two raises is log entry 68. -/
def State.movedIllegally (s : State) : State :=
  let score := min 255 (s.pos.score + 8)
  { s with
    pos := { s.pos with score := score, degraded := s.pos.degraded || decide (16 ≤ score),
                        fault := s.pos.fault || decide (64 ≤ score) }
    alarm := { s.alarm with reports := s.alarm.reports
      ++ (if 16 ≤ score ∧ s.pos.degraded = false then [(.positionUnit, .raise .tachDegraded (.score score))] else [])
      ++ (if 64 ≤ score ∧ s.pos.fault = false then [(.positionUnit, .raise .tachFault (.score score))] else []) } }

/-- The pair of tachometer levels goes from a, b to c, d: a legal change, of one line, is a count when the mode counts that
line's edge (R3), up along 00, 10, 11, 01, 00 and down along the way back (R2). -/
def State.pairMoved (s : State) (a b c d : Bool) : State :=
  let mode := s.pos.settings.mode
  let up := decide ((a, b, c, d) ∈
    [(false, false, true, false), (true, false, true, true), (true, true, false, true), (false, true, false, false)])
  if c = a ∧ d = b then s
  else if c ≠ a ∧ d ≠ b then s.movedIllegally
  else if mode = .edge4 ∨ (mode = .edge2 ∧ c ≠ a) ∨ (mode = .edge1 ∧ a = false ∧ c = true) then s.countTach up
  else s

/-- MARK_IN has changed to a level: an edge in the set sense, outside UNBOUND, offers its MARK record, and applies an armed
preset first (R12, R15). -/
def State.markMoved (s : State) (level : Bool) : State :=
  if s.device = .unbound ∨ level ≠ decide (s.pos.settings.markEdge = .rising) then s
  else
    match s.pos.armed with
    | none => s.offer .positionUnit (.mark { p := s.pos.p, t := s.pos.t, dir := s.pos.dir, before := none })
    | some a =>
      (((s.applyPreset a.value).modPos fun x => { x with armed := none }).offer .positionUnit
        (.mark { p := a.value, t := s.pos.t, dir := s.pos.dir, before := some s.pos.p })).complete a.index .done .ok
          (le32 s.pos.p ++ le32 a.value)

/-! ## What validation finds wrong with a plan (R22 to R26, R186) -/

/-- The places of the firing counts and gate counts of a plan, in ascending order (R22). -/
def Plan.countPlaces (c : List Byte) : List Nat :=
  (Plan.shots c .A ++ Plan.shots c .B).flatMap fun s => (s.offset + 2) :: s.firings.map fun f => f.offset + 2

/-- The bytes of a firing, its head and its gates (R186). -/
def FiringDesc.bytes (f : FiringDesc) : Nat := 4 + 8 * f.gates.length

/-- The bytes of a shot, its head and its firings (R186). -/
def ShotDesc.bytes (s : ShotDesc) : Nat := 4 + (s.firings.map FiringDesc.bytes).sum

/-- The size of a plan computed from its counts (R22, R186). -/
def Plan.size (c : List Byte) : Nat :=
  704 + 32 * byteAt c 15 + ((Plan.shots c .A ++ Plan.shots c .B).map ShotDesc.bytes).sum

/-- Where the parts of a plan end: header, rail settings, elements, groups, nozzles, rules, shot heads, firing heads and
gates. That the heads and gates are parts of their own is log entry 13. -/
def Plan.partEnds (c : List Byte) : List Nat :=
  [32, 48, 64] ++ ((List.range 24).map fun i => 80 + 16 * i) ++ ((List.range 16).map fun i => 460 + 12 * i)
    ++ ((List.range 8).map fun i => 648 + 8 * i) ++ ((List.range (byteAt c 15)).map fun j => 736 + 32 * j)
    ++ (Plan.shots c .A ++ Plan.shots c .B).flatMap fun s => (s.offset + 4) :: s.firings.flatMap fun f =>
      (f.offset + 4) :: f.gates.map fun g => g.offset + 8

/-- The first byte beyond the last part that is complete within `len` bytes (R22). -/
def Plan.lastPart (c : List Byte) (len o : Nat) : Prop :=
  o ∈ Plan.partEnds c ∧ o ≤ len ∧ ∀ e ∈ Plan.partEnds c, e ≤ len → e ≤ o

/-- A field at an offset lies outside its range, or bytes that carry no value are not zero (R23, section 2.1, R186); that
the reserved bytes of a nozzle that is not defined are tested is log entry 15. -/
def Plan.outOfRange (c : List Byte) (o : Nat) : Prop :=
  let u8 (i lo hi : Nat) : Prop := o = i ∧ ¬ (lo ≤ byteAt c i ∧ byteAt c i ≤ hi)
  let u16 (i lo hi : Nat) : Prop := o = i ∧ ¬ (lo ≤ u16At c i ∧ u16At c i ≤ hi)
  let s16 (i : Nat) (most : Int) : Prop := o = i ∧ ¬ (-most ≤ i16At c i ∧ i16At c i ≤ most)
  let zero32 (i : Nat) : Prop := o = i ∧ u32At c i ≠ 0
  let some32 (i : Nat) : Prop := o = i ∧ u32At c i = 0
  let nozzle (i : Nat) : Prop := o = i ∧ 3 < byteAt c i ∧ byteAt c i ≠ 255
  u16 2 0 0 ∨ (o = 12 ∧ byteAt c 12 ≠ 1 ∧ byteAt c 12 ≠ 255) ∨ u16 18 0 0 ∨ (∃ i, i < 12 ∧ u8 (20 + i) 0 7) ∨
  (∃ b ∈ [32, 48], u8 b 1 64 ∨ u8 (b + 1) 0 3 ∨ nozzle (b + 2) ∨ u8 (b + 3) 1 255 ∨ u16 (b + 4) 1000 2500 ∨
    u16 (b + 6) 20 1000 ∨ u16 (b + 10) 50 5000 ∨ zero32 (b + 12)) ∨
  (∃ i, i < 24 ∧ let b := 64 + 16 * i
    u8 (b + 1) 0 63 ∨ u8 (b + 2) 0 7 ∨ u8 (b + 3) 0 0 ∨ s16 (b + 4) 2000 ∨ u16 (b + 6) 0 1023 ∨ u16 (b + 8) 1 65535 ∨
      u16 (b + 10) 0 32767 ∨ s16 (b + 12) 32767 ∨ u16 (b + 14) 0 0) ∨
  (∃ i, i < 16 ∧ let b := 448 + 12 * i
    u8 (b + 2) 1 15 ∨ u8 (b + 3) 1 31 ∨ u8 (b + 4) 1 31 ∨ u8 (b + 5) 0 0 ∨ u16 (b + 6) 1 1000 ∨
      u16 (b + 8) 10 10000 ∨ u16 (b + 10) 0 0) ∨
  (∃ i, i < 8 ∧ let b := 640 + 8 * i
    u8 b 0 1 ∨ (byteAt c b = 1 ∧ (u8 (b + 1) 0 2 ∨ u8 (b + 2) 1 255 ∨ s16 (b + 4) 30000)) ∨ u16 (b + 6) 0 0) ∨
  (∃ j, j < byteAt c 15 ∧ let b := 704 + 32 * j
    u8 (b + 6) 0 1 ∨ u8 (b + 7) 0 2 ∨ u16 (b + 8) 0 10485 ∨ u16 (b + 10) 0 10485 ∨ some32 (b + 12) ∨
      some32 (b + 16) ∨ u8 (b + 21) 1 254 ∨ u8 (b + 22) 0 3 ∨ nozzle (b + 23) ∨ u16 (b + 24) 0 1000 ∨
      u16 (b + 26) 0 1000 ∨ zero32 (b + 28)) ∨
  ∃ s ∈ Plan.shots c .A ++ Plan.shots c .B, u16 s.offset 256 16383 ∨ u8 (s.offset + 3) 0 0 ∨
    ∃ f ∈ s.firings, u8 f.offset 0 11 ∨ u8 (f.offset + 1) 0 3 ∨ u8 (f.offset + 3) 0 0 ∨
      ∃ g ∈ f.gates, u8 g.offset 0 2 ∨ (byteAt c g.offset = 0 ∧ u8 (g.offset + 1) 0 1) ∨ u8 (g.offset + 2) 1 254 ∨
        u8 (g.offset + 3) 0 0 ∨ u16 (g.offset + 4) 0 16382 ∨ u16 (g.offset + 6) 1 16383

/-- A nozzle that a field names is not defined for a rail (R26). -/
def Plan.nozzleMissing (c : List Byte) (r : Rail) (n : Nat) : Prop :=
  n ≠ 255 ∧ byteAt c (640 + 8 * (4 * Rail.idx r + n)) ≠ 1

/-- A check of R21 behind BAD_LAYOUT finds a fault at an offset (R23 to R26). -/
def Plan.faultAt (c : List Byte) (code : PlanFaultCode) (o : Nat) : Prop :=
  let shots := Plan.shots c .A ++ Plan.shots c .B
  match code with
  | .none => False
  | .badLayout => False
  | .range => Plan.outOfRange c o
  | .groupUndefined => ∃ i, i < 24 ∧ o = 64 + 16 * i ∧ 7 < byteAt c o
  | .channelConflict => ∃ s ∈ shots, ∃ k, k < s.firings.length ∧ ∃ g ∈ s.firings[k]?, o = g.offset ∧
      ∃ f ∈ s.firings.take k, f.channel = g.channel ∨ f.element = g.element
  | .gateWindow => ∃ s ∈ shots, ∃ f ∈ s.firings, ∃ g ∈ f.gates, o = g.offset ∧ s.listen < g.start + g.length
  | .gateRole => ∃ s ∈ shots, ∃ f ∈ s.firings, o = f.offset ∧
      let n (role : GateRole) := (f.gates.filter fun g => g.role == role).length
      1 < n .coupling ∨ 1 < n .backwall ∨ (n .backwall = 1 ∧ n .coupling = 0)
  | .noShots => (o = 13 ∨ o = 14) ∧ byteAt c o = 0
  | .factor => ∃ r : Bool, ∃ e, e < 12 ∧
      let rail := if r then Rail.B else Rail.A
      o = 64 + 16 * (12 * Rail.idx rail + e) ∧ u16At c (o + 10) = 0 ∧ i16At c (o + 12) = 0 ∧
        ∃ s ∈ Plan.shots c rail, ∃ f ∈ s.firings, f.element = e ∧ ∃ g ∈ f.gates, g.role = .flaw
  | .classRule => ∃ j, j < byteAt c 15 ∧ o = 704 + 32 * j ∧
      (u16At c (o + 10) < u16At c (o + 8) ∨ u32At c (o + 16) < u32At c (o + 12))
  | .nozzle => (o = 32 ∧ Plan.nozzleMissing c .A (byteAt c (o + 2))) ∨ (o = 48 ∧ Plan.nozzleMissing c .B (byteAt c (o + 2))) ∨
      ∃ j, j < byteAt c 15 ∧ o = 704 + 32 * j ∧
        ((byteAt c (o + 7) ≠ 1 ∧ Plan.nozzleMissing c .A (byteAt c (o + 23))) ∨
          (byteAt c (o + 7) ≠ 0 ∧ Plan.nozzleMissing c .B (byteAt c (o + 23))))

/-! ## Requests (R164) -/

/-- What follows a request's own effect, given the requests of the scan behind it: behind the last one the scan ends. -/
def closeScan (rest : List Request) (s : State) : State := if rest.isEmpty then s.endScan else s

/-! ## Snapshots (R168) -/

/-- The snapshots in flight, of rail A and then of rail B, are REFUSED with CANCELLED. -/
def State.snapshotsCancelled (s : State) : State :=
  let ended (r : Rail) (w : State) : State :=
    match w.req.snapshot.get r with
    | none => w
    | some k =>
      (w.modReq fun q => { q with snapshot := q.snapshot.set r none }).complete k.index .refused .cancelled []
  ended .B (ended .A s)

/-! ## What several offers and closes come to (R101, R103, R171) -/

/-- The records a producer presents when it builds several, in order: those a consumer subscribes to, none in UNBOUND. -/
def State.offered (s : State) (who : Producer) (xs : List Rec) : State :=
  { s with jrn := { s.jrn with presented := s.jrn.presented ++
      (xs.filter fun x => s.device != .unbound && readerMask s.jrn.consumers x.kind != 0).map fun x => (who, x) } }

/-- The open tracks of a table, each with its index, in index order. -/
def Tracker.opened (k : Tracker) : List (Nat × Track) :=
  (indexed k.table).filterMap fun e => e.2.map fun x => (e.1, x)

/-- What closing the tracks `pick` selects comes to: their entries become FREE, and each, flagged, goes on the ordered
path when `sends` says so and into a DROPPED_TRACK record when not, both in index order. -/
def State.tracksClosed (s : State) (r : Rail) (pick sends : Track → Bool) (flag : BitVec 8) (reason : DropReason)
    (cause : Option DropCause) : State :=
  let out := ((s.rail r).trk.opened.filter fun e => pick e.2).map fun e => (e.1, e.2.flag flag)
  (s.modTrk r fun k => { k with table := k.table.map fun e => e.filter fun x => !pick x,
                                path := k.path ++ (out.filter fun e => sends e.2).map fun e => .summary e.2 }).offered
    (.tracker r) ((out.filter fun e => !sends e.2).map fun e => .dropped
      { rail := r, index := e.1, reason := reason, cause := cause, track := e.2, tClose := s.pos.t })

/-! ## Losses of coupling (R86) -/

/-- The COUPLING records the elements of a rail that are LOST give when they all leave LOST at once, in element order;
none where no consumer subscribes to them. -/
def State.lossRecords (s : State) (r : Rail) (reason : CouplingReason) : List (Producer × Rec) :=
  if s.device = .unbound ∨ readerMask s.jrn.consumers .coupling = 0 then []
  else (List.range 12).filterMap fun e =>
    let x := s.coupling.element r e
    if x.state = .lost then
      some (.couplingMonitor, .coupling
        { rail := r, element := e, group := x.lostGroup, reason := reason, lostAt := x.lostAt.getD 0, restoredAt := none,
          untested := none, endP := some s.pos.p })
    else none

/-! ## What a record holds in its slots (R128, R180, R185) -/

/-- A number in so many bytes, little-endian (R180). -/
def bytesOf (width n : Nat) : List Byte := (List.range width).map fun i => BitVec.ofNat 8 (n / 256 ^ i)

/-- A contributor place that begins at a slot offset: its fields, each with the slot offset at which it stands. The group of
a code above 7 is log entry 103, an extent beyond 65,535 mm log entry 112. -/
def Contributor.fields (o : Nat) (c : Contributor) : List (Nat × List Byte) :=
  [(o, bytesOf 1 (c.group % 8 + if c.kind = .drop then 128 else 0)), (o + 1, [c.flags]),
    (o + 2, bytesOf 2 c.elementMask.toNat), (o + 4, bytesOf 4 c.xMin), (o + 8, bytesOf 2 (c.xMax - c.xMin)),
    (o + 10, bytesOf 2 (c.dMin.getD 0xFFFF)), (o + 12, bytesOf 2 (c.dMax.getD 0xFFFF)), (o + 14, bytesOf 1 c.peak),
    (o + 16, bytesOf 2 c.hitCount)]

/-- An ALARM detail: its fields, each with its slot offset. The bits of a rail mask are log entry 115. -/
def Detail.fields : Detail → List (Nat × List Byte)
  | .element r e lostAt => [(28, bytesOf 1 (Rail.idx r)), (29, bytesOf 1 e), (32, bytesOf 4 lostAt)]
  | .rail r => [(28, bytesOf 1 (Rail.idx r))]
  | .indication r number cls => [(28, bytesOf 1 (Rail.idx r)), (29, bytesOf 1 cls), (32, bytesOf 4 number)]
  | .unmarked r j reason origin =>
    [(28, bytesOf 1 (Rail.idx r)), (29, bytesOf 1 j), (30, bytesOf 1 reason.code), (32, bytesOf 4 origin)]
  | .loss kind n p => [(28, bytesOf 1 kind.code), (30, bytesOf 2 n), (32, bytesOf 4 p)]
  | .score v => [(28, bytesOf 1 v)]
  | .status r flags => [(28, bytesOf 1 (Rail.idx r)), (29, [flags])]
  | .position p => [(28, bytesOf 4 p)]
  | .mask a b => [(28, bytesOf 1 ((if a then 1 else 0) + if b then 2 else 0))]
  | .block name => [(28, bytesOf 1 name.code)]

/-- The fields of slot `i` of a record, each with its slot offset, by the table of R185. The further slots of an INDICATION
hold three contributor places each. -/
def Rec.slotFields (i : Nat) : Rec → List (Nat × List Byte)
  | .indication x =>
    if i = 0 then
      [(8, bytesOf 1 (Rail.idx x.rail)), (9, bytesOf 1 x.status.code), (10, bytesOf 1 x.cls.cls),
        (11, bytesOf 1 (x.cls.rule.getD 0xFF)), (12, bytesOf 1 x.cls.severity), (13, bytesOf 1 (x.cls.nozzle.getD 0xFF)),
        (14, bytesOf 1 x.cause.code), (15, bytesOf 1 x.dir.code), (16, bytesOf 4 x.number), (20, bytesOf 4 x.planId),
        (24, bytesOf 4 ((x.interval.map Prod.fst).getD 0)), (28, bytesOf 4 ((x.interval.map Prod.snd).getD 0)),
        (32, bytesOf 4 x.entry.xMin), (36, bytesOf 4 x.entry.xMax), (40, bytesOf 2 (x.entry.dMin.getD 0xFFFF)),
        (42, bytesOf 2 (x.entry.dMax.getD 0xFFFF)), (44, bytesOf 1 x.entry.peak), (45, [x.entry.groups]),
        (46, [x.entry.flags]), (47, bytesOf 1 x.entry.contributors.length), (48, bytesOf 4 x.entry.total),
        (52, bytesOf 4 x.entry.tJoin), (56, bytesOf 4 x.tFinal), (60, bytesOf 4 x.pFinal)]
    else (List.range 3).flatMap fun k =>
      (x.entry.contributors[3 * (i - 1) + k]?.map fun c => c.fields (8 + 18 * k)).getD []
  | .alarm x =>
    [(8, bytesOf 1 x.source.id), (9, bytesOf 1 x.action.code), (10, bytesOf 1 x.state.code), (11, bytesOf 1 x.level),
      (12, bytesOf 1 (if x.conflict then 1 else 0)), (13, bytesOf 1 x.device.code), (14, bytesOf 1 x.alarmLevel),
      (15, bytesOf 1 (x.topSource.getD 0xFF)), (16, bytesOf 2 x.raiseCount), (18, bytesOf 2 x.suppression),
      (20, bytesOf 4 x.p), (24, bytesOf 4 x.t)] ++ (x.detail.map Detail.fields).getD []
  | .gap x =>
    ((List.range 8).map fun k => (8 + 2 * k, bytesOf 2 (x.counts.getD k 0))) ++
      [(24, bytesOf 4 x.firstP), (28, bytesOf 4 x.lastP), (32, bytesOf 4 x.t)]
  | .mark x =>
    [(8, bytesOf 1 (if x.before.isSome then 1 else 0)), (9, bytesOf 1 x.dir.code), (12, bytesOf 4 x.p),
      (16, bytesOf 4 x.t), (20, bytesOf 4 (x.before.getD 0))]
  | .marker x =>
    [(8, bytesOf 1 (Rail.idx x.rail)), (9, bytesOf 1 x.nozzle), (10, bytesOf 1 (if x.reason.isSome then 1 else 0)),
      (11, bytesOf 1 ((x.reason.map UnmarkedReason.code).getD 0xFF)), (12, bytesOf 1 (if x.broken then 1 else 0)),
      (13, bytesOf 1 x.dir.code), (14, bytesOf 1 x.origins.length), (16, bytesOf 2 x.originTotal),
      (20, bytesOf 4 x.xStart), (24, bytesOf 4 x.xEnd), (28, bytesOf 4 (x.origins.getD 0 0)),
      (32, bytesOf 4 (x.origins.getD 1 0)), (36, bytesOf 4 (x.origins.getD 2 0)), (40, bytesOf 4 (x.origins.getD 3 0)),
      (44, bytesOf 4 x.p), (48, bytesOf 4 x.t)]
  | .coupling x =>
    [(8, bytesOf 1 (Rail.idx x.rail)), (9, bytesOf 1 x.element), (10, bytesOf 1 x.group), (11, bytesOf 1 x.reason.code),
      (12, bytesOf 4 x.lostAt), (16, bytesOf 4 (x.restoredAt.getD 0)), (20, bytesOf 4 (x.untested.getD 0)),
      (24, bytesOf 4 (x.endP.getD 0))]
  | .survey x =>
    [(8, bytesOf 1 (Rail.idx x.rail)), (9, bytesOf 1 x.seqState.code), (10, bytesOf 1 x.linkState.code),
      (12, bytesOf 4 x.t), (16, bytesOf 4 x.p), (20, bytesOf 4 x.planId), (24, bytesOf 2 x.counters.sweeps),
      (26, bytesOf 2 x.counters.truncated), (28, bytesOf 2 x.counters.skipped), (30, bytesOf 2 x.counters.untested),
      (32, bytesOf 2 x.counters.abandoned), (34, bytesOf 2 x.counters.damaged), (36, bytesOf 2 x.counters.missingEnds),
      (38, bytesOf 2 x.counters.crcErrors), (40, bytesOf 2 x.counters.stray), (42, bytesOf 2 x.counters.reversals),
      (44, bytesOf 2 x.wedge), (46, bytesOf 2 x.beyond), (48, bytesOf 2 x.hitsSuppressed),
      (50, bytesOf 2 x.hitsLost)] ++ (List.range 6).map fun k =>
        let state (e : Nat) : Nat := (x.coupling.getD e .unmonitored).code
        (52 + k, bytesOf 1 (state (2 * k) + 16 * state (2 * k + 1)))
  | .dropped x =>
    [(8, bytesOf 1 (Rail.idx x.rail)), (9, bytesOf 1 x.index), (10, bytesOf 1 x.reason.code),
      (11, bytesOf 1 ((x.cause.map DropCause.code).getD 0xFF)), (12, bytesOf 1 x.track.state.code),
      (13, bytesOf 1 (x.track.group % 8 + if x.track.kind = .drop then 128 else 0)), (14, [x.track.flags]),
      (15, bytesOf 1 (if x.track.saturated then 1 else 0)), (16, bytesOf 4 x.track.xMin), (20, bytesOf 4 x.track.xMax),
      (24, bytesOf 4 x.track.peakX), (28, bytesOf 2 (x.track.dMin.getD 0xFFFF)),
      (30, bytesOf 2 (x.track.dMax.getD 0xFFFF)), (32, bytesOf 2 (x.track.dRef.getD 0xFFFF)),
      (34, bytesOf 1 x.track.peak), (36, bytesOf 2 x.track.hitCount), (38, bytesOf 2 x.track.elementMask.toNat),
      (40, bytesOf 4 x.track.tFirst), (44, bytesOf 4 x.track.tLast), (48, bytesOf 4 x.tClose)]

/-- A record of the shape every record offered has: eight lost counts, twelve coupling states and at most four origins. -/
def Rec.shaped : Rec → Prop
  | .gap x => x.counts.length = 8
  | .survey x => x.coupling.length = 12
  | .marker x => x.origins.length ≤ 4
  | _ => True

/-- A slot body holds the fields of its slot at their slot offsets, and zeros beside them (R180, R185). -/
def Rec.bodyHolds (x : Rec) (i : Nat) (body : List Byte) : Prop :=
  body.length = 56 ∧ (∀ f ∈ x.slotFields i, (body.drop (f.1 - 8)).take f.2.length = f.2) ∧
    ∀ o, 8 ≤ o → o < 64 → (∀ f ∈ x.slotFields i, o < f.1 ∨ f.1 + f.2.length ≤ o) → body.getD (o - 8) 0 = 0

end Sys2Proof.Machine
end

