-- ==== Sys2Proof/Certificates/Slice0/Obligations.lean ====
section
/-! DEFINITION. The statements for the provers, from the numbered rules of spec/: the step and the queue, the resets,
the invariants every step keeps, and, block by block, what each command does, what it leaves unchanged and when it
completes. `t = { s with … }` in a statement is its frame: whatever is not named there is as it was. -/

open Sys2Proof Sys2Proof.Machine

/-! ## The step, the queue and the resets -/

/-- The step takes the command at the front of the queue and carries it out on the state with the queue's rest. With no
command waiting 100 ns pass, which is the model's choice, log entry 3: where that brings no hold time to the filter
time, the running hold timers move on and nothing else changes; where it brings one there, the step is that of the
timers' expiry, counts before a mark edge. -/
def Obligations.StepTakesTheFrontCommandOrLets100nsPass : Prop :=
  (∀ (c : Instr) (rest : List Instr) (s : State),
    step { s with pending := c :: rest } = exec c { s with pending := rest }) ∧
  ∀ s : State, s.pending = [] →
    let f := s.pos.settings.filterTime
    let lines := [s.pos.tachA, s.pos.tachB, s.pos.markIn]
    let line (x : InputLine) : InputLine := { x with hold := x.hold.map (· + 1) }
    ((∀ x ∈ lines, ∀ n, x.hold = some n → n + 1 < f) → step s = .next { s with pos :=
      { s.pos with tachA := line s.pos.tachA, tachB := line s.pos.tachB, markIn := line s.pos.markIn } }) ∧
    ((∃ x ∈ lines, ∃ n, x.hold = some n ∧ n + 1 = f) → (∀ x ∈ lines, ∀ n, x.hold = some n → n + 1 ≤ f) →
      step s = exec (.holdTimerExpiry false) s)

/-- Every command, on every state, answers a next state whose queue of waiting commands is the one it was given. That
no command stops is log entry 42, and that one whose cause is absent leaves the state as it is, log entry 1: both are
the model's reading. -/
def Obligations.EveryCommandCompletesAndKeepsTheQueue : Prop :=
  ∀ (c : Instr) (s : State), ∃ t, exec c s = .next t ∧ t.pending = s.pending

/-- R17: the Position Unit after a hardware reset, and after a write of RESET to CONTROL. -/
def Obligations.PositionUnitAfterEachReset : Prop :=
  ∀ (pins : Pins) (v : Word) (s : State), commandField v = 2 →
    (∃ t, exec (.hardwareReset pins) s = .next t ∧ t.pos =
      { tachA := { raw := pins.tachA, qualified := pins.tachA, hold := none },
        tachB := { raw := pins.tachB, qualified := pins.tachB, hold := none },
        markIn := { raw := pins.markIn, qualified := pins.markIn, hold := none }, rem := 0, p := 0, n := 0,
        dir := .unknown, e := 0, t := 0, score := 0, degraded := false, fault := false, limit := false, armed := none,
        settings := { q := 256000, mode := .edge4, filterTime := 0, rv := 10, markEdge := .rising } }) ∧
    ∃ u, exec (.reset v) s = .next u ∧
      u.pos = { s.pos with degraded := false, fault := false, limit := false, armed := none }

/-- Every block after each reset, value by value. After a hardware reset the input lines and the LIFT levels are as the
pins stand, and the traces of what was done on the links as they were; State.reset is the case of every pin low, log
entry 5. A device reset leaves every block as a hardware reset does, but for the Position Unit, the LIFT levels, the cab
level and attention threshold, the rewrite number and the Context Block address, which are kept; the messages of enables
that the same write sets are sent first (log entry 34). That nothing is left on the paths between the blocks is log entry
6, the zeros of what the next BIND sets are log entry 7, and the markers' direction and P, which are the Position Unit's,
are log entry 62. -/
def Obligations.EachResetRestoresEveryBlock : Prop :=
  (∀ (pins : Pins) (s : State), exec (.hardwareReset pins) s = .next
    { pending := s.pending
      device := .unbound
      pos :=
        { tachA := ⟨pins.tachA, pins.tachA, none⟩, tachB := ⟨pins.tachB, pins.tachB, none⟩,
          markIn := ⟨pins.markIn, pins.markIn, none⟩, rem := 0, p := 0, n := 0, dir := .unknown, e := 0, t := 0,
          score := 0, degraded := false, fault := false, limit := false, armed := none,
          settings := { q := 256000, mode := .edge4, filterTime := 0, rv := 10, markEdge := .rising } }
      plans := plansAfterReset
      rails := ⟨railAfterReset pins.liftA .unknown 0 (s.rail .A).link.sent,
                railAfterReset pins.liftB .unknown 0 (s.rail .B).link.sent⟩
      coupling := couplingAfterReset
      indicationCounter := 1
      alarm := alarmAfterReset 10 10
      req := requestsAfterReset 0
      jrn := writerAfterReset
      bus :=
        { enables := ⟨false, false, false, false⟩, causes := ⟨false, false, false, false⟩, contextLo := 0, contextHi := 0,
          bindError := .none, binding := none, context := 0, trace := s.bus.trace } }) ∧
  ∀ (v : Word) (s : State), commandField v = 2 →
    let rail (r : Rail) := railAfterReset (s.rail r).seq.lift s.pos.dir s.pos.p (s.rail r).link.sent
    let messages := AttnCause.all.filter fun c => (enablesOf v).get c && !s.bus.enables.get c && s.bus.causes.get c
    exec (.reset v) s = .next
      { pending := s.pending
        device := .unbound
        pos := { s.pos with degraded := false, fault := false, limit := false, armed := none }
        plans := plansAfterReset
        rails := ⟨rail .A, rail .B⟩
        coupling := couplingAfterReset
        indicationCounter := 1
        alarm := alarmAfterReset s.alarm.cabLevel s.alarm.threshold
        req := requestsAfterReset s.req.rewrite
        jrn := writerAfterReset
        bus :=
          { enables := ⟨false, false, false, false⟩, causes := ⟨false, false, false, false⟩, contextLo := s.bus.contextLo,
            contextHi := s.bus.contextHi, bindError := .none, binding := none, context := 0,
            trace := s.bus.trace ++ messages.map BusAction.message } }

/-! ## Invariants of every step -/

/-- The reset state is UNBOUND with CAB_ALARM off, and it is safe: in step, within its ranges and within its bounds. -/
def Obligations.ResetStateIsSafe : Prop :=
  State.reset.safe ∧ State.reset.device = .unbound ∧ State.reset.cabAlarm = false ∧ State.reset.pending = []

/-- R40: at every moment the state of a Sequencer is the one its table gives. From any state in step, every step leads
to a state in step. -/
def Obligations.EveryStepKeepsSequencersInStep : Prop :=
  ∀ s t : State, s.inStep → step s = .next t → t.inStep

/-- A FIRE frame is sent on a rail only while the device is ACTIVE, the rail's link is UP and its LIFT is released; it
is one frame, and it is that of the shot then in flight. -/
def Obligations.FireFramesLeaveOnlyAnOpenRail : Prop :=
  ∀ (s t : State) (r : Rail), s.inStep → step s = .next t → (t.rail r).link.sent ≠ (s.rail r).link.sent →
    s.device = .active ∧ (s.rail r).link.state = .up ∧ (s.rail r).seq.lift = false ∧ (t.rail r).seq.state = .shot ∧
      ∃ x, (t.rail r).shot = some x ∧ (t.rail r).link.sent = (s.rail r).link.sent ++ [fireFrame x]

/-- LOCKED is left by a reset and by nothing else. -/
def Obligations.LockedIsLeftOnlyByAReset : Prop :=
  ∀ (c : Instr) (s t : State), s.inStep → s.device = .locked → exec c s = .next t → ¬ isReset c → t.device = .locked

/-- The Position Unit stays within the ranges its table gives. -/
def Obligations.PositionUnitStaysInRange : Prop :=
  ∀ s t : State, s.pos.inRange → step s = .next t → t.pos.inRange

/-- T never decreases, and only a hardware reset returns it to 0. -/
def Obligations.TravelNeverDecreases : Prop :=
  ∀ (c : Instr) (s t : State), exec c s = .next t → (∀ pins, c ≠ .hardwareReset pins) → s.pos.t ≤ t.pos.t

/-- The outbound queue never holds more than 32 records, and each track table keeps its 48 entries. -/
def Obligations.QueueAndTrackTablesStayBounded : Prop :=
  ∀ s t : State, s.bounded → step s = .next t → t.bounded

/-! ## Position and motion (chapter 1) -/

/-- R1 to R5, R12: with a filter time above 0 and no line due, a change of the raw levels moves hold timers and nothing
else. With a filter time of 0 the levels are accepted as they change: a change of one tachometer line is a count by the
mode, one of both at once is illegal, and behind it MARK_IN gives its mark edge. An illegal change moves no position;
its two raises come TACH_DEGRADED first (log entry 68), and a count before a mark edge that falls with it (log entry
4). -/
def Obligations.RawChangesMoveTimersOrTakeEffect : Prop :=
  (∀ (a b m : Bool) (s : State),
    let f := s.pos.settings.filterTime
    let line (x : InputLine) (raw : Bool) : InputLine :=
      { x with raw := raw, hold := if raw = x.qualified then none else some (x.hold.getD 0) }
    0 < f → (∀ x ∈ [s.pos.tachA, s.pos.tachB, s.pos.markIn], ∀ n, x.hold = some n → n < f) →
    exec (.rawInputChange a b m) s = .next { s with pos :=
      { s.pos with tachA := line s.pos.tachA a, tachB := line s.pos.tachB b, markIn := line s.pos.markIn m } }) ∧
  ∀ (a b m : Bool) (s : State), s.pos.settings.filterTime = 0 → s.pos.tachA.hold = none → s.pos.tachB.hold = none →
    s.pos.markIn.hold = none →
    let u : State := { s with pos := { s.pos with tachA := ⟨a, a, none⟩, tachB := ⟨b, b, none⟩, markIn := ⟨m, m, none⟩ } }
    let v := u.pairMoved s.pos.tachA.qualified s.pos.tachB.qualified a b
    exec (.rawInputChange a b m) s = .next (if m = s.pos.markIn.qualified then v else v.markMoved m)

/-- R1 to R5, R12: the hold timers with the least time left run out (log entry 4): each line they bring to the filter
time is accepted, the tachometer lines as one change of the pair, and the others move on. A mark edge comes before or
behind that change as the command says. One tachometer line alone is a count in the sense of its table when the count
mode selects it. With no hold running to that time the command has no cause and changes nothing (log entry 1). -/
def Obligations.HoldExpiryAcceptsTheLinesDue : Prop :=
  (∀ (markFirst : Bool) (d : Nat) (s : State),
    let f := s.pos.settings.filterTime
    let lines := [s.pos.tachA, s.pos.tachB, s.pos.markIn]
    let due (x : InputLine) : Bool := x.hold.any fun n => decide (f ≤ n + d)
    let line (x : InputLine) : InputLine :=
      if due x then ⟨x.raw, x.raw, none⟩ else { x with hold := x.hold.map (· + d) }
    (∃ x ∈ lines, ∃ n, x.hold = some n ∧ f - n = d) → (∀ x ∈ lines, ∀ n, x.hold = some n → d ≤ f - n) →
    let u : State := { s with pos :=
      { s.pos with tachA := line s.pos.tachA, tachB := line s.pos.tachB, markIn := line s.pos.markIn } }
    let pair (v : State) := v.pairMoved s.pos.tachA.qualified s.pos.tachB.qualified (line s.pos.tachA).qualified
      (line s.pos.tachB).qualified
    let edge (v : State) := if due s.pos.markIn then v.markMoved s.pos.markIn.raw else v
    exec (.holdTimerExpiry markFirst) s = .next (if markFirst then pair (edge u) else edge (pair u))) ∧
  (∀ (markFirst : Bool) (s : State), s.pos.tachA.hold = none → s.pos.tachB.hold = none → s.pos.markIn.hold = none →
    exec (.holdTimerExpiry markFirst) s = .next s) ∧
  ∀ (markFirst : Bool) (n : Nat) (s : State), s.pos.markIn.hold = none →
    let mode := s.pos.settings.mode
    let x := s.pos.tachA
    let y := s.pos.tachB
    (x.hold = some n → y.hold = none → x.raw ≠ x.qualified →
      let u : State := { s with pos := { s.pos with tachA := ⟨x.raw, x.raw, none⟩ } }
      exec (.holdTimerExpiry markFirst) s = .next
        (if mode = .edge4 ∨ mode = .edge2 ∨ (mode = .edge1 ∧ x.raw = true) then u.countTach (x.raw != y.qualified)
         else u)) ∧
    (y.hold = some n → x.hold = none → y.raw ≠ y.qualified →
      let u : State := { s with pos := { s.pos with tachB := ⟨y.raw, y.raw, none⟩ } }
      exec (.holdTimerExpiry markFirst) s = .next (if mode = .edge4 then u.countTach (y.raw == x.qualified) else u))

/-- R4 to R6: a count adds or subtracts Q and takes 1 from the score; a score it brings to 0 ends each condition held,
TACH_DEGRADED first (log entry 68). When the count leaves the remainder in its range it moves no position. Else the
carries that bring it there are made one at a time, each with the remainder reduced by one millimetre before it. The
score is drained before any carry (log entry 69). -/
def Obligations.CountMovesTheRemainderAndCarriesOneByOne : Prop :=
  ∀ (up : Bool) (s : State),
    let rem := if up then s.pos.rem + s.pos.settings.q else s.pos.rem - s.pos.settings.q
    let drained := decide (s.pos.score ≤ 1)
    let u : State := { s with pos :=
      { s.pos with rem := rem, score := s.pos.score - 1, degraded := s.pos.degraded && !drained,
                   fault := s.pos.fault && !drained } }
    let u := if drained && s.pos.degraded then u.report .positionUnit (.condEnd .tachDegraded none) else u
    let u := if drained && s.pos.fault then u.report .positionUnit (.condEnd .tachFault none) else u
    let reduced (k : Nat) : Int := if up then rem - 256000 * k else rem + 256000 * k
    let one (v : State) : State :=
      { v with pos := { v.pos with rem := if up then v.pos.rem - 256000 else v.pos.rem + 256000 } }.carry up
    (0 ≤ rem → rem < 256000 → s.countTach up = u) ∧
    ∀ k : Nat, 0 ≤ reduced k → reduced k < 256000 → s.countTach up = one^[k] u

/-- R7 to R11: a carry moves P by one and notifies the markers, and a limit left is reported, before the progress event
of the same carry (log entry 95); at a limit P stays, and the first such carry sets the flag and raises POSITION_LIMIT.
With the direction UNKNOWN N takes the carry, and declares the direction when it has reached Rv either way. With a
direction a carry beyond E is progress, T saturating; one at a distance of Rv against the direction is a reversal; and
the others move P alone. Progress, reversal and preset notices reach their receivers, each on its own stream. -/
def Obligations.CarriesMoveTheUnitOrMeetALimit : Prop :=
  (∀ (up : Bool) (s : State),
    let rv : Int := s.pos.settings.rv
    let stuck := decide (s.pos.p = if up then 4294967295 else 0)
    let p := if stuck then s.pos.p else if up then s.pos.p + 1 else s.pos.p - 1
    let left := decide (s.pos.limit = true ∧ p ≠ 0 ∧ p ≠ 4294967295)
    let unit := { s.pos with p := p, limit := if stuck then true else s.pos.limit && !left }
    let moved (f : PositionUnit → PositionUnit) : State :=
      if stuck then
        if s.pos.limit then { s with pos := f unit }
        else { s with pos := f unit }.raiseReport .positionUnit .positionLimit (.position p)
      else
        let u := { s with pos := f unit }.noticeMarkers (.positionChange p)
        if left then u.report .positionUnit (.condEnd .positionLimit none) else u
    (s.pos.dir = .unknown →
      let n := if up then s.pos.n + 1 else s.pos.n - 1
      let declared (d : Dir) : State :=
        (moved fun u => { u with n := n, dir := d, e := p }).noticeMarkers (.declared d p)
      (rv ≤ n → s.carry up = declared .increasing) ∧
      (n < rv → n ≤ -rv → s.carry up = declared .decreasing) ∧
      (n < rv → -rv < n → s.carry up = moved fun u => { u with n := n })) ∧
    (s.pos.dir ≠ .unknown → stuck = true → s.carry up = moved id) ∧
    (s.pos.dir ≠ .unknown → stuck = false →
      let beyond : Int := if s.pos.dir = .increasing then (p : Int) - s.pos.e else (s.pos.e : Int) - p
      (0 < beyond → s.pos.t < 4294967295 →
        s.carry up = (moved fun u => { u with e := p, t := s.pos.t + 1 }).sendProgress (s.pos.t + 1) p) ∧
      (0 < beyond → 4294967295 ≤ s.pos.t → s.carry up = moved fun u => { u with e := p }) ∧
      (beyond ≤ 0 → -beyond < rv → s.carry up = moved id) ∧
      (beyond ≤ 0 → rv ≤ -beyond →
        s.carry up = (moved fun u => { u with dir := s.pos.dir.flip, e := p }).sendReversal s.pos.dir.flip p s.pos.t))) ∧
  ∀ (s : State) (d : Dir) (p q t : Nat) (delta : Int),
    let both (f : RailBlocks → RailBlocks) : State := { s with rails := ⟨f s.rails.a, f s.rails.b⟩ }
    let seq (x : SeqNotice) (b : RailBlocks) : RailBlocks := { b with seq := { b.seq with notices := b.seq.notices ++ [x] } }
    let trk (x : PosNotice) (b : RailBlocks) : RailBlocks := { b with trk := { b.trk with notices := b.trk.notices ++ [x] } }
    let asm (x : PosNotice) (b : RailBlocks) : RailBlocks := { b with asm := { b.asm with notices := b.asm.notices ++ [x] } }
    let mrk (x : PosNotice) (b : RailBlocks) : RailBlocks := { b with mrk := { b.mrk with notices := b.mrk.notices ++ [x] } }
    s.sendProgress t p =
        (both fun b => asm (.progress t p) (trk (.progress t p) (seq (.progress t p false false) b))).report .positionUnit
          (.progress t p) ∧
      s.sendReversal d p t = both (fun b => mrk (.reversal d p t) (trk (.reversal d p t) (seq (.reversal d p t) b))) ∧
      s.sendPreset p q delta = both (fun b => mrk (.preset p q delta) (trk (.preset p q delta) b)) ∧
      s.noticeMarkers (.declared d p) = both (mrk (.declared d p)) ∧
      s.noticeMarkers (.positionChange p) = both (mrk (.positionChange p))

/-- R13, R14: SET_POSITION. NOW sets P, moves E by delta, leaves a limit behind and notifies both rails; AT_MARK arms
the preset; a preset armed already makes either BUSY, and another form is a BAD_PARAMETER, refused by the row
SET_POSITION_NOW (log entry 46). -/
def Obligations.SetPositionAppliesOrArmsAPreset : Prop :=
  ∀ (q : Request) (rest : List Request) (s : State), s.req.scan = q :: rest → s.device.scans = true → q.kind = 5 →
    let u : State := { s with req := { s.req with scan := rest } }
    let v := u32At q.params 4
    let form := byteAt q.params 0
    (form = 0 → s.pos.armed = none →
      let w : State := { u with pos :=
        { u.pos with p := v, e := clampPos ((u.pos.e : Int) + ((v : Int) - u.pos.p)),
                     limit := u.pos.limit && (v == 0 || v == Config.maxU32) } }
      let w := if u.pos.limit && (v != 0 && v != Config.maxU32) then
        w.report .positionUnit (.condEnd .positionLimit none) else w
      exec .setPositionNow s = .next
        (closeScan rest ((w.sendPreset u.pos.p v ((v : Int) - u.pos.p)).done q []))) ∧
    (form = 1 → s.pos.armed = none →
      exec .setPositionAtMark s = .next
        (closeScan rest ((u.take q).modPos fun x => { x with armed := some { value := v, index := q.index } }))) ∧
    (form = 0 → s.pos.armed.isSome = true → exec .setPositionNow s = .next (closeScan rest (u.refuse q .busy))) ∧
    (form = 1 → s.pos.armed.isSome = true → exec .setPositionAtMark s = .next (closeScan rest (u.refuse q .busy))) ∧
    (1 < form → exec .setPositionNow s = .next (closeScan rest (u.refuse q .badParameter)))

/-- R12, R15: a mark edge outside UNBOUND offers a MARK record. With a preset armed it first applies the preset, and its
request is completed with the old and the new P. -/
def Obligations.MarkEdgeRecordsAndAppliesThePreset : Prop :=
  ∀ (markFirst : Bool) (n : Nat) (s : State), s.device ≠ .unbound → s.pos.tachA.hold = none → s.pos.tachB.hold = none →
    s.pos.markIn.hold = some n → s.pos.markIn.raw = decide (s.pos.settings.markEdge = .rising) →
    let u : State := { s with pos := { s.pos with markIn := ⟨s.pos.markIn.raw, s.pos.markIn.raw, none⟩ } }
    (s.pos.armed = none → exec (.holdTimerExpiry markFirst) s = .next
      (u.offer .positionUnit (.mark { p := s.pos.p, t := s.pos.t, dir := s.pos.dir, before := none }))) ∧
    ∀ a, s.pos.armed = some a → exec (.holdTimerExpiry markFirst) s = .next
      ((((u.applyPreset a.value).modPos fun x => { x with armed := none }).offer .positionUnit
        (.mark { p := a.value, t := s.pos.t, dir := s.pos.dir, before := some s.pos.p })).complete a.index .done .ok
          (le32 s.pos.p ++ le32 a.value))

/-! ## Firing and the front-end link (chapter 3) -/

/-- R51, R55, R58, R59, R187, R188: outside ACTIVE a frame changes nothing. In ACTIVE one that fails the checks is
counted and sets the good count to 0, and an IDLE frame restarts the presence timer, counts toward a DOWN link's eight,
at which the count stays and the link is still DOWN until its LINK_UP (log entry 16), and warns of its flags. The bytes
decide what a frame is, whichever of the four rows brings it (log entry 32). The checks and the fields themselves, by
R51 and R187: the type codes with their lengths, the CRC in the last two bytes, high byte first, and where each field
stands; the CRC takes each byte most significant bit first by its generator. A flags byte gives its low four bits
(R188). -/
def Obligations.FramesAreCheckedBeforeUse : Prop :=
  (∀ bytes : List Byte,
    let b (i : Nat) : Byte := bytes.getD i 0
    (frameGood bytes = true ↔ ∃ n, ((b 0).toNat, n) ∈ [(2, 72), (3, 14), (4, 4)] ∧ bytes.length = n ∧
      (crc (bytes.take (n - 2))).toNat = 256 * (b (n - 2)).toNat + (b (n - 1)).toNat) ∧
    (frameGood bytes = false → readFrame bytes = none) ∧
    (frameGood bytes = true →
      (b 0 = 2 → readFrame bytes = some (.sample (b 1) (b 2).toNat (b 3).toNat ((b 4).getLsbD 0)
        ((List.range 64).map fun i => b (6 + i)))) ∧
      (b 0 = 3 → readFrame bytes = some (.finish (b 1) (b 2 &&& 15)
        ((List.range 4).map fun c => (b (4 + 2 * c)).toNat + 256 * (b (5 + 2 * c)).toNat))) ∧
      (b 0 = 4 → readFrame bytes = some (.idle (b 1 &&& 15))))) ∧
  (let shift (c : BitVec 16) : BitVec 16 := (c <<< 1) ^^^ (if c.getLsbD 15 then 0x1021 else 0)
   crc [] = 0xFFFF ∧
     (∀ (bytes : List Byte) (x : Byte), crc (bytes ++ [x]) =
       (List.range 8).foldl (fun c _ => shift c) (crc bytes ^^^ (x.zeroExtend 16 <<< 8))) ∧
     crc [0x31, 0x32, 0x33, 0x34, 0x35, 0x36, 0x37, 0x38, 0x39] = 0x29B1) ∧
  ∀ (row : Rail → List Byte → Instr) (r : Rail) (bytes : List Byte) (s : State),
    row ∈ [Instr.sampleFrame, .endFrame, .idleFrame, .badFrame] →
    (s.device ≠ .active → exec (row r bytes) s = .next s) ∧
    (s.device = .active → frameGood bytes = false → exec (row r bytes) s = .next (s.modRail r fun b =>
      { b with seq := { b.seq with counters := { b.seq.counters with crcErrors := bump16 b.seq.counters.crcErrors } },
               link := { b.link with good := 0 } })) ∧
    ∀ flags, s.device = .active → readFrame bytes = some (.idle flags) →
      let u := s.modRail r fun b =>
        { b with link := { b.link with presence := true,
                                       good := if b.link.state = .down then min 8 (b.link.good + 1) else b.link.good } }
      exec (row r bytes) s =
        .next (if flags = 0 then u else u.raiseReport (.link r) .frontEndWarning (.status r flags))

/-- R53, R188: a SAMPLE frame that passed the checks goes to the firing of its channel, 0 to 3, that still misses its
index, in the shot of its sequence, and to that firing's gates; any other is stray. A capture being made takes its
samples, but for a snapshot taken into the scan with the shot in flight (log entry 55); the frame counts toward a DOWN
link's eight good ones (log entry 16). Where an upset has left several firings of one channel, it goes to each of them
that misses its index (log entry 97). -/
def Obligations.SampleFrameFillsItsFiringOrIsStray : Prop :=
  ∀ (r : Rail) (bytes : List Byte) (seq : BitVec 8) (channel index : Nat) (damaged : Bool) (samples : List Byte) (s : State),
    s.device = .active → readFrame bytes = some (.sample seq channel index damaged samples) →
    let mine (f : Firing) : Bool := f.channel == channel && decide (channel ≤ 3) && decide (index < f.frames) &&
      !f.received.contains index
    let fill (x : Shot) (f : Firing) : Firing :=
      if mine f then
        { f with received := f.received ++ [index], damagedSeen := f.damagedSeen || damaged,
                 copied := if f.copying then f.copied ++ [(index, samples)] else f.copied,
                 gates := f.gates.map fun g => g.samples x.listen (64 * index) samples }
      else f
    let u := s.frameCounts r
    let stray := exec (.sampleFrame r bytes) s = .next (u.modRail r fun b =>
      { b with seq := { b.seq with counters := { b.seq.counters with stray := bump16 b.seq.counters.stray } } })
    ((s.rail r).shot = none → stray) ∧
    ∀ x, (s.rail r).shot = some x →
      (x.seq = seq → x.firings.any mine = true →
        exec (.sampleFrame r bytes) s =
          .next (u.modRail r fun b => { b with shot := some { x with firings := x.firings.map (fill x) } })) ∧
      ((x.seq ≠ seq ∨ x.firings.any mine = false) → stray)

/-- R48, R54, R56: the END frame of the shot in flight judges its firings, releases the evaluator's results, and ends
the shot. The next shot of the plan's list, where the ended one was not the last and the Sequencer is not held, is
latched and fired at once; else the sweep ends and is counted, also where the list as it stands has no further shot (log
entry 38). R167, R168: a snapshot in flight keeps the capture of its first whole firing, and counts the sweep; that a
shot in flight as the request is taken is not copied is log entry 55. Any other END is stray. The rail is not reported
held: its shot-released marker is still to be taken. Whether a shot is the last was decided as it was latched (log entry
99). The count of a channel above 3, which only an upset leaves, reads as 0 (log entry 122). -/
def Obligations.EndFrameJudgesAndGoesOn : Prop :=
  ∀ (r : Rail) (bytes : List Byte) (seq flags : BitVec 8) (counts : List Nat) (s : State),
    s.device = .active → readFrame bytes = some (.finish seq flags counts) →
    let stray := exec (.endFrame r bytes) s = .next ((s.frameCounts r).modRail r fun b =>
      { b with seq := { b.seq with counters := { b.seq.counters with stray := bump16 b.seq.counters.stray } } })
    ((s.rail r).shot = none → stray) ∧
    ∀ x, (s.rail r).shot = some x → (x.seq ≠ seq → stray) ∧
      (x.seq = seq → (s.rail r).seq.state = .shot →
        let b := s.rail r
        let whole (f : Firing) : Bool :=
          ((List.range f.frames).all fun i => f.received.contains i) && counts.getD f.channel 0 == f.frames
            && !f.damagedSeen
        let kept (k : Snapshot) : Snapshot :=
          { k with capture := if k.capture = none ∧ k.sweeps < 16 then x.capture whole else k.capture }
        let w : State :=
          { s with
            rails := s.rails.set r { b with
              shot := none
              eval := b.eval.releaseShot x whole
              link := { b.link with presence := true, missing := 0, endTimer := none,
                                    good := if b.link.state = .down then min 8 (b.link.good + 1) else b.link.good }
              seq := { b.seq with counters := { b.seq.counters with
                damaged := min 65535 (b.seq.counters.damaged + (x.firings.filter fun f => !whole f).length) } } }
            alarm := { s.alarm with reports := s.alarm.reports ++
              if flags = 0 then [] else [(.link r, .raise .frontEndWarning (.status r flags))] }
            req := { s.req with snapshot := s.req.snapshot.set r ((s.req.snapshot.get r).map kept) } }
        let next := (Plan.shots s.plan r)[x.index + 1]?
        let ended (k : SurveyCounters) : SurveyCounters :=
          if x.last then { k with sweeps := bump16 k.sweeps } else { k with truncated := bump16 k.truncated }
        (∀ d, x.last = false → b.seq.held = false → next = some d →
          let y := w.latchShot r (x.index + 1) d
          exec (.endFrame r bytes) s = .next (w.modRail r fun c =>
            { c with shot := some y, seq := { c.seq with state := .shot, shotSeq := y.seq },
                     link := { c.link with endTimer := some (y.listen + 80 * y.endAllowance),
                                           sent := c.link.sent ++ [fireFrame y] } })) ∧
        (x.last = true ∨ b.seq.held = true ∨ next = none → exec (.endFrame r bytes) s = .next
          ((w.modSeq r fun q => { q with state := .waiting, counters := ended q.counters }).modReq fun q =>
            { q with snapshot := q.snapshot.set r ((q.snapshot.get r).map fun k =>
              if k.capture = none then { k with sweeps := min 16 (k.sweeps + 1) } else k) })))

/-- R49, R57: an END timer that expires judges every firing of the shot damaged. Below the fourth missing END in a row
the Sequencer goes on as after an END; the fourth takes the link DOWN, and the Sequencer to LINK_DOWN. A sweep that ends
is counted, also where the list as it stands has no further shot (log entry 38), by a snapshot in flight without a
capture too (R168, log entry 55). The rail is not reported held: its shot-released marker is still to be taken. Whether
the shot is the last was decided as it was latched (log entry 99). -/
def Obligations.EndTimerExpiryDamagesTheShot : Prop :=
  ∀ (r : Rail) (n : Nat) (x : Shot) (s : State), (s.rail r).link.endTimer = some n → (s.rail r).shot = some x →
    (s.rail r).seq.state = .shot →
    let b := s.rail r
    let m := b.link.missing + 1
    let w : State :=
      { s with rails := s.rails.set r { b with
          shot := none
          eval := b.eval.releaseShot x fun _ => false
          link := { b.link with endTimer := none, missing := m }
          seq := { b.seq with counters := { b.seq.counters with
            missingEnds := bump16 b.seq.counters.missingEnds
            damaged := min 65535 (b.seq.counters.damaged + x.firings.length) } } } }
    let next := (Plan.shots s.plan r)[x.index + 1]?
    let ended (state : SeqState) (u : State) : State :=
      (u.modSeq r fun q => { q with state := state, counters :=
        if x.last then { q.counters with sweeps := bump16 q.counters.sweeps }
        else { q.counters with truncated := bump16 q.counters.truncated } }).modReq fun q =>
          { q with snapshot := q.snapshot.set r ((q.snapshot.get r).map fun k =>
            if k.capture = none then { k with sweeps := min 16 (k.sweeps + 1) } else k) }
    (∀ d, m < 4 → x.last = false → b.seq.held = false → next = some d →
      let y := w.latchShot r (x.index + 1) d
      exec (.endTimerExpiry r) s = .next (w.modRail r fun c =>
        { c with shot := some y, seq := { c.seq with state := .shot, shotSeq := y.seq },
                 link := { c.link with endTimer := some (y.listen + 80 * y.endAllowance),
                                       sent := c.link.sent ++ [fireFrame y] } })) ∧
    (m < 4 → x.last = true ∨ b.seq.held = true ∨ next = none →
      exec (.endTimerExpiry r) s = .next (ended .waiting w)) ∧
    (4 ≤ m → exec (.endTimerExpiry r) s = .next ((ended .linkDown (w.modRail r fun c =>
      { c with link := { c.link with state := .down, missing := 0, good := 0, downHeld := true },
               trk := { c.trk with interruptNotices := c.trk.interruptNotices + 1 } })).raiseReport (.link r) .linkDown
        (.rail r)))

/-- R57 to R59: a presence timer that expires while the link is UP takes it DOWN, with the interrupt notice and the
raise of LINK_DOWN, and a shot in flight is abandoned; a silent board is reported once, and later expiries change
nothing (log entry 56). Eight good frames in a row bring the link UP (log entry 16), end the condition held, and let a
Sequencer in LINK_DOWN go on to WAITING. -/
def Obligations.LinkGoesDownAndComesUp : Prop :=
  ∀ (r : Rail) (s : State), s.device = .active →
    let l := (s.rail r).link
    let down (q : SeqState) : SeqState := if q = .waiting ∨ q = .shot then .linkDown else q
    (l.presence = true → l.state = .up → exec (.presenceTimerExpiry r) s = .next (((((s.modRail r fun b =>
        { b with link := { b.link with state := .down, good := 0, downHeld := true },
                 trk := { b.trk with interruptNotices := b.trk.interruptNotices + 1 } }).raiseReport (.link r) .linkDown
          (.rail r)).abandonShot r).modSeq r fun q => { q with state := down q.state }).reportHeld r)) ∧
    (l.presence = true → l.state = .down → exec (.presenceTimerExpiry r) s = .next
      (if l.upSinceEntry || l.downHeld then s
       else (s.modRail r fun b => { b with link := { b.link with downHeld := true } }).raiseReport (.link r) .linkDown
        (.rail r))) ∧
    (l.state = .down → l.good = 8 →
      let u := s.modRail r fun b =>
        { b with link := { b.link with state := .up, good := 0, missing := 0, upSinceEntry := true, downHeld := false },
                 seq := { b.seq with state := if b.seq.state = .linkDown then .waiting else b.seq.state } }
      exec (.linkUp r) s = .next (if l.downHeld then u.report (.link r) (.condEnd .linkDown (some r)) else u))

/-- R42, R45, R50: a change of LIFT. In OFF the level is recorded and nothing else happens; an assertion takes the
Sequencer to LIFTED, abandoning a shot in flight, with both lift notices; a release in LIFTED sends the release notice.
An abandoned shot that was the last of its list counts its sweep in sweeps, any other in truncated (log entry 14). -/
def Obligations.LiftChangeMovesTheSequencer : Prop :=
  ∀ (r : Rail) (s : State),
    let q := (s.rail r).seq
    let level (b : Bool) (st : SeqState) : State :=
      s.modRail r fun x => { x with seq := { x.seq with lift := b, state := st } }
    let lifted (u : State) : State :=
      ((u.modTrk r fun k => { k with liftNotices := k.liftNotices + 1 }).modCoupling fun m =>
        { m with carriage := m.carriage.set r (m.carriage.get r ++ [.lift]) }).reportHeld r
    (∀ b, q.lift = !b → q.state = .off → exec (.liftChange r b) s = .next (level b .off)) ∧
    (∀ b, q.lift = b → exec (.liftChange r b) s = .next s) ∧
    (q.lift = false → (q.state = .waiting ∨ q.state = .linkDown) → (s.rail r).shot = none →
      exec (.liftChange r true) s = .next (lifted (level true .lifted))) ∧
    (∀ x, q.lift = false → q.state = .shot → (s.rail r).shot = some x →
      let dropped (k : SurveyCounters) : SurveyCounters :=
        { k with abandoned := bump16 k.abandoned,
                 sweeps := if x.last then bump16 k.sweeps else k.sweeps,
                 truncated := if x.last then k.truncated else bump16 k.truncated }
      exec (.liftChange r true) s = .next (lifted (((level true .lifted).modRail r fun b =>
        { b with shot := none, link := { b.link with endTimer := none },
                 seq := { b.seq with counters := dropped b.seq.counters } }).sweepEnded r))) ∧
    (q.lift = true → q.state = .lifted → exec (.liftChange r false) s = .next
      ((level false (if (s.rail r).link.state = .down then .linkDown else .waiting)).modCoupling fun m =>
        { m with carriage := m.carriage.set r (m.carriage.get r ++ [.release]) }))

/-- R44, R45, R47: a progress event at or above the next mark is a sweep step: the mark moves on by the rail's step, the
step is reported to the Plan Store, and the Sequencer sweeps, skips or counts it untested by its state. Below the mark,
and with no plan in force, nothing but the event's place in the stream changes. The event leaves the stream once its
survey mark, where it has one, has been taken too (log entry 53). The strikes on plan storage come first (log entry 8).
A shot is latched whole from the plan in force at its FIRE; R167: its firings of an element with a snapshot in flight,
its capture still to be made, are copied (log entry 55). That a shot is the last of the list is decided at its latch
(log entry 99); an element code above 11 is read at the place counted on (log entry 98), and any chainage_sense as the
signed byte it is (log entry 100), both of which only an upset leaves. R52, R187: the FIRE frame, byte by byte: type 1,
the sequence number, the shot index, the firing count, L, a place of four bytes for each firing in list order, zeros in
the places beyond them, and the CRC, high byte first; a shot that an upset has given more than four firings is log entry
82. -/
def Obligations.SweepStepSweepsSkipsOrCounts : Prop :=
  (∀ (r : Rail) (strikes : List Strike) (t p : Nat) (taken : Bool) (rest : List SeqNotice) (s : State),
    (s.rail r).seq.notices = .progress t p false taken :: rest → s.inForce = true →
    let u := s.strike strikes
    let q := (s.rail r).seq
    let left := if u.surveyDue r t && !taken then .progress t p true false :: rest else rest
    let stepped (f : SurveyCounters → SurveyCounters) : State :=
      (u.modSeq r fun q => { q with nextMark := min Config.maxU32 (t + Plan.step u.plan r), notices := left,
                                    counters := f q.counters }).modPlans fun k =>
        { k with stepReports := k.stepReports.set r (k.stepReports.get r + 1) }
    let untested := stepped fun k => { k with untested := bump16 k.untested }
    let does (w : State) := exec (.sweepStep r strikes) s = .next w
    (t < q.nextMark → does (u.modSeq r fun q => { q with notices := left })) ∧
    (q.nextMark ≤ t → (q.state = .off ∨ q.state = .lifted ∨ q.state = .linkDown) → does untested) ∧
    (q.nextMark ≤ t → (q.state = .waiting ∨ q.state = .shot) → q.held = true → does untested) ∧
    (q.nextMark ≤ t → q.state = .shot → q.held = false →
      does ((stepped fun k => { k with skipped := bump16 k.skipped }).raiseReport (.sequencer r) .overspeed
        (.rail r))) ∧
    (q.nextMark ≤ t → q.state = .waiting → q.held = false → u.checkPasses r = false →
      does (untested.raiseReport (.sequencer r) .planFault (.rail r))) ∧
    (q.nextMark ≤ t → q.state = .waiting → q.held = false → u.checkPasses r = true → ∀ d, (Plan.shots u.plan r)[0]? = some d →
      let x := u.latchShot r 0 d
      does ((stepped id).modRail r fun b =>
        { b with shot := some x, seq := { b.seq with state := .shot, shotSeq := x.seq },
                 link := { b.link with endTimer := some (x.listen + 80 * x.endAllowance),
                                       sent := b.link.sent ++ [fireFrame x] } }))) ∧
  (∀ (r : Rail) (strikes : List Strike) (t p : Nat) (taken : Bool) (rest : List SeqNotice) (s : State),
    (s.rail r).seq.notices = .progress t p false taken :: rest → s.inForce = false →
    exec (.sweepStep r strikes) s = .next ((s.strike strikes).modSeq r fun q => { q with notices := rest })) ∧
  (∀ x : Shot, x.firings.length ≤ 4 →
    let frame := fireFrame x
    let at_ (o n : Nat) : List Nat := ((frame.drop o).take n).map BitVec.toNat
    let check := (crc (frame.take 22)).toNat
    frame.length = 24 ∧
    at_ 0 6 = [1, x.seq.toNat, x.index % 256, x.firings.length, x.listen % 256, x.listen / 256 % 256] ∧
    (∀ (i : Nat) (f : Firing), x.firings[i]? = some f →
      at_ (6 + 4 * i) 4 = [f.element % 256, f.channel % 256, f.desc.gain % 256, f.desc.energy % 256]) ∧
    (∀ o, 6 + 4 * x.firings.length ≤ o → o < 22 → frame.getD o 0 = 0) ∧ at_ 22 2 = [check / 256, check % 256]) ∧
  ∀ (r : Rail) (index : Nat) (d : ShotDesc) (s : State), s.latchShot r index d =
    { index := index, last := decide (index + 1 = Plan.shotCount s.plan r), listen := d.listen,
      seq := (s.rail r).seq.shotSeq + 1, pc := s.pos.p, offset := (s.rail r).eval.offset,
      railHeight := Plan.railHeight s.plan r, endAllowance := Plan.endAllowance s.plan r, sense := Plan.sense s.plan,
      firings := d.firings.map fun f =>
        { element := f.element, channel := f.channel, desc := Plan.element s.plan r f.element,
          frames := (d.listen + 63) / 64, received := [], damagedSeen := false, copied := [],
          gates := f.gates.map fun g =>
            { role := g.role, mode := g.mode, start := g.start, length := g.length,
              threshold := if g.role = .flaw then effectiveThreshold g.threshold (s.rail r).eval.offset else g.threshold,
              peak := 0, peakTick := none, firstCross := none, present := false },
          copying := (s.req.snapshot.get r).any fun k =>
            k.element == f.element && k.capture.isNone && decide (k.sweeps < 16) } }

/-- R62: a survey mark offers a SURVEY record with the counts as they stand, sets all fourteen to 0, and moves the mark
on by the plan's interval; it may come before its sweep step or behind it, and the event stays in the stream while the
other is still to be taken (log entry 53). An event without a survey mark gives none. R44: a reversal notice is counted
and changes nothing else. -/
def Obligations.SurveyMarkReadsAndClearsTheCounts : Prop :=
  ∀ (r : Rail) (s : State),
    (∀ (t p : Nat) (stepped : Bool) (rest : List SeqNotice), (s.rail r).seq.notices = .progress t p stepped false :: rest →
      (s.inForce = false ∨ Plan.surveyInterval s.plan = 0 ∨ t < (s.rail r).seq.surveyMark → exec (.surveyMark r) s =
        .next (if stepped then s.modSeq r fun q => { q with notices := rest } else s)) ∧
      (s.inForce = true → Plan.surveyInterval s.plan ≠ 0 → (s.rail r).seq.surveyMark ≤ t →
      let b := s.rail r
      let left := if stepped then rest else .progress t p false true :: rest
      let u := s.modRail r fun b =>
        { b with seq := { b.seq with counters := .zero, notices := left,
                                     surveyMark := min Config.maxU32 (t + Plan.surveyInterval s.plan) },
                 eval := { b.eval with wedge := 0, beyond := 0 }, trk := { b.trk with lost := 0 } }
      exec (.surveyMark r) s = .next ((u.modCoupling fun m => { m with suppressed := m.suppressed.set r 0 }).offer
        (.sequencer r) (.survey
          { rail := r, t := t, p := p, planId := s.plans.active.planId, seqState := b.seq.state, linkState := b.link.state,
            counters := b.seq.counters, wedge := b.eval.wedge, beyond := b.eval.beyond,
            hitsSuppressed := s.coupling.suppressed.get r, hitsLost := b.trk.lost,
            coupling := (s.coupling.elements.get r).map ElementRecord.state })))) ∧
    ∀ d p t rest, (s.rail r).seq.notices = .reversal d p t :: rest → exec (.sequencerReversalNotice r) s = .next (s.modSeq r fun q =>
      { q with notices := rest, counters := { q.counters with reversals := bump16 q.counters.reversals } })

/-- R46: a hold order sets the held flag, and the rail is reported held when no shot is in flight and nothing is left
to release (log entry 54). R33, R42: the release order clears it, takes the current T plus the new plan's step as the
next mark, and sends the lift notice again where LIFT is asserted. -/
def Obligations.HoldOrdersHoldAndRelease : Prop :=
  ∀ (r : Rail) (rest : List SeqOrder) (s : State),
    ((s.rail r).seq.orders = .hold :: rest →
      let still := decide ((s.rail r).shot = none ∧ (s.rail r).eval.release = [])
      let u := s.modSeq r fun q => { q with orders := rest, held := true, heldReported := still }
      exec (.holdOrder r) s = .next (if still then
        u.modPlans fun k => { k with heldReports := k.heldReports.set r (k.heldReports.get r + 1) } else u)) ∧
    ((s.rail r).seq.orders = .release :: rest →
      let u := s.modSeq r fun q => { q with orders := rest, held := false, heldReported := false,
                                            nextMark := min Config.maxU32 (s.pos.t + Plan.step s.plan r) }
      exec (.holdRelease r) s = .next (if (s.rail r).seq.lift then
        u.modCoupling fun m => { m with carriage := m.carriage.set r (m.carriage.get r ++ [.lift]) } else u))

/-! ## Echo evaluation and projection (chapter 4) -/

/-- R65: the effective threshold of a FLAW gate: the plan's threshold plus the offset latched with the shot, clamped to
1..254 and fixed at the FIRE; the other roles use the plan's threshold. A sample of 255 inside a FLAW gate is a
detection, and SENSITIVITY leaves a shot in flight as it was latched. -/
def Obligations.EffectiveThresholdIsClampedAndLatched : Prop :=
  (∀ (threshold : Nat) (offset : Int),
    (effectiveThreshold threshold offset : Int) = max 1 (min 254 (threshold + offset)) ∧
      1 ≤ effectiveThreshold threshold offset ∧ effectiveThreshold threshold offset ≤ 254) ∧
  effectiveThreshold 40 (-64) = 1 ∧ effectiveThreshold 200 64 = 254 ∧
  (∀ (s : State) (r : Rail) (index : Nat) (d : ShotDesc), let x := s.latchShot r index d
    x.offset = (s.rail r).eval.offset ∧ x.firings.map Firing.gates = d.firings.map fun f => f.gates.map fun g =>
      { role := g.role, mode := g.mode, start := g.start, length := g.length,
        threshold := if g.role = .flaw then effectiveThreshold g.threshold x.offset else g.threshold, peak := 0,
        peakTick := none, firstCross := none, present := false }) ∧
  (∀ (g : GateAcc) (listen tick k : Nat) (samples : List Byte),
    (g.samples listen tick samples).threshold = g.threshold ∧
      (g.role = .flaw → g.threshold ≤ 254 → g.peak ≤ 255 → samples[k]? = some 255 → g.start ≤ tick + k →
        tick + k < g.start + g.length → tick + k < listen → (g.samples listen tick samples).detection.isSome = true)) ∧
  ∀ s : State, ∃ t, exec .sensitivity s = .next t ∧ ∀ r, (t.rail r).shot = (s.rail r).shot

/-- R64, R66 to R70, R75, R76, R78: what a gate has gathered of the samples it covers, in whatever order they came: a
FLAW gate its greatest sample at that sample's earliest tick and the earliest tick at its threshold, the others whether
any sample reached theirs. A FLAW gate whose peak is at its threshold has a detection, at the first crossing in mode
FIRST and at the peak in mode PEAK. A judged shot releases, firing by whole firing, the COUPLING result and then the
hits in the order of the gates, and its marker behind them; detections before the wedge and beyond the rail are counted.
Where an upset has left a firing two gates of a role, its first COUPLING gate is its result, and each BACKWALL gate
gives its hit by it (log entry 75); the factor k is the byte of the plan, whatever it is (log entry 100). -/
def Obligations.GatesGatherAndShotsAreReleased : Prop :=
  let gathered (g : GateAcc) (seen : List (Nat × Nat)) : Prop :=
    if g.role = .flaw then
      (g.peakTick = none → seen = [] ∧ g.peak = 0) ∧
      (∀ t, g.peakTick = some t → (t, g.peak) ∈ seen ∧ ∀ k ∈ seen, k.2 < g.peak ∨ (k.2 = g.peak ∧ t ≤ k.1)) ∧
      (g.firstCross = none → ∀ k ∈ seen, k.2 < g.threshold) ∧
      ∀ t, g.firstCross = some t → (∃ v, (t, v) ∈ seen ∧ g.threshold ≤ v) ∧ ∀ k ∈ seen, g.threshold ≤ k.2 → t ≤ k.1
    else (g.present = true ↔ ∃ k ∈ seen, g.threshold ≤ k.2)
  (∀ (offset : Int) (d : GateDesc), gathered (buildGate offset d) []) ∧
  (∀ (g : GateAcc) (listen tick : Nat) (samples : List Byte) (seen : List (Nat × Nat)), gathered g seen →
    let covered := (indexed samples).filterMap fun x =>
      if tick + x.1 < listen ∧ g.start ≤ tick + x.1 ∧ tick + x.1 < g.start + g.length then
        some (tick + x.1, x.2.toNat) else none
    let a := g.samples listen tick samples
    gathered a (seen ++ covered) ∧
      a = { g with peak := a.peak, peakTick := a.peakTick, firstCross := a.firstCross, present := a.present } ∧
      (g.role = .flaw → a.present = g.present) ∧
      (g.role ≠ .flaw → a.peak = g.peak ∧ a.peakTick = g.peakTick ∧ a.firstCross = g.firstCross)) ∧
  (∀ (g : GateAcc) (seen : List (Nat × Nat)), gathered g seen → g.role = .flaw → 1 ≤ g.threshold →
    (g.threshold ≤ g.peak → g.detection.isSome = true ∧
      g.detection = if g.mode = .first then g.firstCross else g.peakTick) ∧
    (g.peak < g.threshold → g.detection = none)) ∧
  ∀ (v : Evaluator) (x : Shot) (whole : Firing → Bool),
    let coupling (f : Firing) : Option GateAcc := f.gates.find? fun g => g.role == .coupling
    let hits (f : Firing) (g : GateAcc) : List ReleaseItem :=
      match g.role with
      | .coupling => []
      | .flaw =>
        match g.detection.map (project x f.desc) with
        | some (.hit at_ d edge) =>
          [.hit { element := f.element, group := f.desc.group, kind := .reflector, x := at_, d := some d,
                  amplitude := g.peak, saturated := decide (g.peak = 255), edge := edge }]
        | _ => []
      | .backwall =>
        let at_ : Int := x.pc + x.sense * f.desc.mount
        if (coupling f).map GateAcc.present = some true ∧ g.present = false then
          [.hit { element := f.element, group := f.desc.group, kind := .drop, x := (max 0 (min at_ 4294967295)).toNat,
                  d := none, amplitude := 0, saturated := false,
                  edge := decide (at_ < 0) || decide (4294967295 < at_) }]
        else []
    let judged := x.firings.filter whole
    let results (f : Firing) : List ReleaseItem :=
      ((coupling f).toList.map fun g => .result f.element g.present x.seq x.pc) ++ f.gates.flatMap (hits f)
    let count (p : Projection) : Nat := (judged.flatMap fun f => f.gates.filter fun g =>
      g.role == .flaw && g.detection.map (project x f.desc) == some p).length
    v.releaseShot x whole =
      { v with release := v.release ++ judged.flatMap results ++ [.released x.seq],
               wedge := min 65535 (v.wedge + count .wedge), beyond := min 65535 (v.beyond + count .beyond) }

/-- R73: the along-rail term. -/
def Obligations.AlongTermRoundsHalfAwayFromZero : Prop :=
  (∀ (s : Nat) (factor : Int),
    let um := ((s : Int) * factor).tdiv 32768
    let a := alongTerm s factor
    (0 ≤ um → a = (um + 500) / 1000) ∧ (um < 0 → a = -((-um + 500) / 1000)) ∧ |um - 1000 * a| ≤ 500 ∧
      (|um - 1000 * a| = 500 → |um| < |1000 * a|) ∧ (0 ≤ factor → 0 ≤ a) ∧ (factor ≤ 0 → a ≤ 0)) ∧
  alongTerm 42493 32768 = 42 ∧ alongTerm 42500 32768 = 43 ∧ alongTerm 42500 (-32768) = -43 ∧
  alongTerm 42499 (-32768) = -42

/-- R71, R72, R74: the stages of projection, and how large a sound path and a depth can become. The factor k is the
signed byte latched, also where an upset has left it other than +1 or −1 (log entry 100). -/
def Obligations.ProjectionPlacesADetection : Prop :=
  ∀ (x : Shot) (e : ElementDesc) (t : Nat),
    let sp := (t - e.delay) * e.path / 1024
    let d := sp * e.depthFactor / 32768 / 100
    let place := (x.pc : Int) + x.sense * (e.mount + alongTerm sp e.alongFactor)
    (t < e.delay → project x e t = .wedge) ∧ (e.delay ≤ t → x.railHeight < d → project x e t = .beyond) ∧
      (e.delay ≤ t → d ≤ x.railHeight → project x e t =
        .hit (max 0 (min place 4294967295)).toNat d (decide (place < 0) || decide (4294967295 < place))) ∧
      (t ≤ 16382 → e.path ≤ 65535 → sp ≤ 1048432 ∧ (e.depthFactor ≤ 32767 → d ≤ 10484))

/-! ## Coupling (chapter 5) -/

/-- R81 to R83, R85: what a COUPLING result does to its element, by the element's state; with no plan in force it
changes no record (log entry 58). The record of a restored element names the group it was lost in (log entry 57), and
the counts have no bound but those of the plan (log entry 73). An element code above 11 reads as UNMONITORED (log entry
101), its descriptor and a group code above 7 as the bytes at the place counted on (log entries 98 and 84); only an
upset leaves either. -/
def Obligations.CouplingResultDecidesItsElement : Prop :=
  ∀ (r : Rail) (e pc : Nat) (present : Bool) (seq : BitVec 8) (rest : List ReleaseItem) (s : State),
    (s.rail r).eval.release = .result e present seq pc :: rest →
    let x := s.coupling.element r e
    let group := (Plan.element s.plan r e).group
    let nl := Plan.lossCount s.plan r group
    let nr := Plan.restoreCount s.plan r group
    let u := s.modEval r fun v => { v with release := rest }
    let does (w : State) := exec (.couplingResult r) s = .next w
    let lose (absence : Nat) : State :=
      (((u.setElement r e { x with state := .lost, absence := absence, presence := 0, lostAt := some pc, lostGroup := group }).modCoupling
        fun m => { m with lossFlag := true }).raiseReport .couplingMonitor .couplingLoss (.element r e pc))
    (s.inForce = false ∨ x.state = .unmonitored ∨ x.state = .lifted → does u) ∧
    (s.inForce = true → present = true →
      ((x.state = .unknown ∨ x.state = .coupled ∨ x.state = .doubtful) →
        does (u.setElement r e { x with state := .coupled, absence := 0 })) ∧
      (x.state = .lost → x.presence + 1 < nr → does (u.setElement r e { x with presence := x.presence + 1 })) ∧
      (x.state = .lost → nr ≤ x.presence + 1 → does (((u.offer .couplingMonitor (.coupling
        { rail := r, element := e, group := x.lostGroup, reason := .restored, lostAt := x.lostAt.getD 0,
          restoredAt := some pc, untested := some (Machine.dist (x.lostAt.getD 0) pc), endP := none })).setElement r e
            (.fresh .coupled)).reportLossEnd))) ∧
    (s.inForce = true → present = false →
      ((x.state = .unknown ∨ x.state = .doubtful) → x.absence + 1 < nl →
        does (u.setElement r e { x with absence := x.absence + 1 })) ∧
      ((x.state = .unknown ∨ x.state = .doubtful) → nl ≤ x.absence + 1 → does (lose (x.absence + 1))) ∧
      (x.state = .coupled → 1 < nl → does (u.setElement r e { x with state := .doubtful, absence := 1 })) ∧
      (x.state = .coupled → nl ≤ 1 → does (lose 1)) ∧
      (x.state = .lost → does (u.setElement r e { x with presence := 0 })))

/-- R76, R84: a hit of a LOST element is suppressed and counted, and any other is passed to the rail's correlator; the
shot-released marker is reported to the Sequencer. R46: a held rail that has not been reported held, with no shot in
flight and nothing left to release, is reported so then (log entry 54). A hit of an element code above 11 passes (log
entry 101). Between the emptying of the bank and the notice of it, too, the state of that moment decides (log entry
118). -/
def Obligations.ReleasePathFiltersHits : Prop :=
  ∀ (r : Rail) (rest : List ReleaseItem) (s : State),
    let u := s.modEval r fun v => { v with release := rest }
    (∀ h, (s.rail r).eval.release = .hit h :: rest →
      ((s.coupling.element r h.element).state = .lost → exec (.hitFilter r) s = .next (u.modCoupling fun m =>
        { m with suppressed := m.suppressed.set r (bump16 (m.suppressed.get r)) })) ∧
      ((s.coupling.element r h.element).state ≠ .lost →
        exec (.hitFilter r) s = .next (u.modTrk r fun k => { k with hits := k.hits ++ [h] }))) ∧
    ∀ seq, (s.rail r).eval.release = .released seq :: rest →
      let done := decide ((s.rail r).seq.held = true ∧ (s.rail r).seq.heldReported = false ∧ (s.rail r).shot = none ∧ rest = [])
      exec (.shotReleasedMarker r) s = .next (if done then
        (u.modSeq r fun q => { q with heldReported := true }).modPlans fun k =>
          { k with heldReports := k.heldReports.set r (k.heldReports.get r + 1) } else u)

/-- R85 to R87: a lift notice makes every element of the rail LIFTED, with a record for each that was LOST, in element
order (log entry 83), and the end of the condition once none is left; a release notice sets those LIFTED to UNKNOWN or
UNMONITORED. -/
def Obligations.CarriageNoticesSetTheElements : Prop :=
  ∀ (r : Rail) (rest : List CarriageNotice) (s : State), (s.coupling.elements.get r).length = 12 →
    (s.coupling.carriage.get r = .lift :: rest → ∃ t, exec (.couplingLiftNotice r) s = .next t ∧
      t.coupling.elements = s.coupling.elements.set r (List.replicate 12 (.fresh .lifted)) ∧
      t = { s with coupling := { s.coupling with elements := t.coupling.elements, carriage := s.coupling.carriage.set r rest,
                                                 lossFlag := s.coupling.lossFlag && t.coupling.anyLost },
                   jrn := { s.jrn with presented := s.jrn.presented ++ s.lossRecords r .lifted },
                   alarm := { s.alarm with reports := s.alarm.reports ++
                     if s.coupling.lossFlag && !t.coupling.anyLost then
                       [(.couplingMonitor, .condEnd .couplingLoss none)] else [] } }) ∧
    (s.coupling.carriage.get r = .release :: rest →
      let released (e : Nat) : ElementRecord :=
        if (s.coupling.element r e).state = .lifted then .fresh (s.freshState r e) else s.coupling.element r e
      exec (.couplingReleaseNotice r) s = .next (s.modCoupling fun m =>
        { m with carriage := m.carriage.set r rest, elements := m.elements.set r ((List.range 12).map released) }))

/-- R88, R89: a plan coming into force sets every element afresh and reports the reset done; a plan that has gone sets
every element UNMONITORED. Elements that were LOST give their records first, in element order and rail A before rail B
(log entry 83). What was left on a release path when the ACTIVE bank was emptied is taken while no plan is in force
(log entry 28): a result, and a hit of an element that is not LOST, then change nothing but the path they leave (R83,
R84, log entry 58), and no report of a hold is made of a rail that is not held (R46). -/
def Obligations.PlanNoticesResetTheElements : Prop :=
  ∀ (rest : List CouplingOrder) (s : State), s.coupling.elements.a.length = 12 → s.coupling.elements.b.length = 12 →
    let reset (reason : CouplingReason) (f : Rail → Nat → CouplingState) : State :=
      { s with coupling := { s.coupling with orders := rest, lossFlag := false,
                                             elements := ⟨(List.range 12).map fun e => .fresh (f .A e),
                                                          (List.range 12).map fun e => .fresh (f .B e)⟩ },
               jrn := { s.jrn with presented := s.jrn.presented ++ (s.lossRecords .A reason ++ s.lossRecords .B reason) },
               alarm := { s.alarm with reports := s.alarm.reports ++
                 if s.coupling.lossFlag then [(.couplingMonitor, .condEnd .couplingLoss none)] else [] } }
    (s.coupling.orders = .planReset :: rest → exec .couplingPlanReset s = .next ((reset .planSwitch s.freshState).modPlans
      fun p => { p with resetDone := p.resetDone + 1 })) ∧
    (s.coupling.orders = .planEnded :: rest →
      exec .couplingPlanEnded s = .next (reset .planEnded fun _ _ => .unmonitored)) ∧
    ∀ r, s.inForce = false → (s.rail r).seq.held = false → (∀ e, (s.coupling.element r e).state ≠ .lost) →
      s.drainReleases r = s.modRail r fun b =>
        { b with eval := { b.eval with release := [] }, trk := { b.trk with hits := [] } }

/-! ## Track correlation (chapter 6) -/

/-- R92 to R99: a hit joins the candidate within its windows that is nearest in position, then in depth, then first in
the table. With no candidate it opens a track in the first FREE entry, else in that of the TENTATIVE track with the
smallest T_last, which is EVICTED; with neither it is lost. With no plan in force it is discarded (log entry 58). Only
an upset leaves an Nc of 0 or below a hit_count, under which a track stays TENTATIVE (log entry 102), an element number
above 11, whose bit is set up to 15 and above it not (log entry 104), or a group code above 7, whose settings are read
at the place counted on (log entry 84). -/
def Obligations.HitJoinsOpensEvictsOrIsLost : Prop :=
  ∀ (r : Rail) (h : Hit) (rest : List Hit) (s : State), (s.rail r).trk.hits = h :: rest →
    let u := s.modTrk r fun k => { k with hits := rest }
    let table := (s.rail r).trk.table
    let nc := Plan.confirm s.plan r h.group
    let candidate (i : Nat) (k : Track) : Prop := table[i]? = some (some k) ∧ k.group = h.group ∧ k.kind = h.kind ∧
      k.dx h.x ≤ Plan.windowX s.plan r h.group ∧ k.dd h ≤ Plan.windowD s.plan r h.group
    let best (i : Nat) (k : Track) : Prop := candidate i k ∧ ∀ j m, candidate j m → j ≠ i →
      k.dx h.x < m.dx h.x ∨ (k.dx h.x = m.dx h.x ∧ (k.dd h < m.dd h ∨ (k.dd h = m.dd h ∧ i < j)))
    let opening : Track :=
      { state := if nc = 1 then .confirmed else .tentative, group := h.group, kind := h.kind, xMin := h.x, xMax := h.x,
        dMin := h.d, dMax := h.d, dRef := h.d, peak := h.amplitude, peakX := h.x, saturated := h.saturated, hitCount := 1,
        elementMask := elementBit h.element, tFirst := s.pos.t, tLast := s.pos.t, flags := h.flags }
    let does (w : State) := exec (.trackHit r) s = .next w
    (s.inForce = false → does u) ∧
    (s.inForce = true → ∀ i k, best i k →
      let m : Track :=
        { k with xMin := min k.xMin h.x, xMax := max k.xMax h.x, dMin := minDepth k.dMin h.d, dMax := maxDepth k.dMax h.d,
                 peak := max k.peak h.amplitude, peakX := if k.peak < h.amplitude then h.x else k.peakX,
                 dRef := if k.peak < h.amplitude then h.d else k.dRef, saturated := k.saturated || h.saturated,
                 hitCount := bump16 k.hitCount, elementMask := k.elementMask ||| elementBit h.element,
                 tLast := s.pos.t, flags := k.flags ||| h.flags,
                 state := if bump16 k.hitCount = nc then .confirmed else k.state }
      let long := { m with flags := m.flags ||| flagLong }
      (m.xMax - m.xMin + 1 ≤ Plan.maxLength s.plan r h.group → does (u.putTrack r i (some m))) ∧
      (Plan.maxLength s.plan r h.group < m.xMax - m.xMin + 1 → does (if m.state = .confirmed
        then (u.putTrack r i none).sendPath r (.summary long)
        else (u.putTrack r i none).offered (.tracker r)
          [.dropped { rail := r, index := i, reason := .long, cause := none, track := long, tClose := s.pos.t }]))) ∧
    (s.inForce = true → (∀ i k, ¬ candidate i k) →
      (∀ (i : Nat), table[i]? = some none → (∀ j, j < i → table[j]? ≠ some none) → does (u.putTrack r i (some opening))) ∧
      ((∀ i : Nat, table[i]? ≠ some none) →
        (∀ (i : Nat) k, table[i]? = some (some k) → k.state = .tentative →
          (∀ (j : Nat) m, table[j]? = some (some m) → m.state = .tentative → j ≠ i →
            k.tLast < m.tLast ∨ (k.tLast = m.tLast ∧ i < j)) →
          does ((u.offered (.tracker r) [.dropped { rail := r, index := i, reason := .evicted, cause := none, track := k,
                                                    tClose := s.pos.t }]).putTrack r i (some opening))) ∧
        ((∀ (i : Nat) k, table[i]? = some (some k) → k.state = .confirmed) →
          does ((u.modTrk r fun q => { q with lost := bump16 q.lost }).raiseReport (.tracker r) .trackTableFull
            (.rail r)))))

/-- R100, R102: a progress event closes the tracks whose T_last is more than G below it. A lift notice and an interrupt
notice each set INTERRUPTED on every open track and change nothing else. The gap of a group code above 7, which only an
upset leaves, is read at the place counted on (log entry 84). -/
def Obligations.TracksCloseByGapAndAreInterrupted : Prop :=
  ∀ (r : Rail) (s : State), (s.rail r).trk.table.length = 48 →
    let interrupted (k : Tracker) : List (Option Track) :=
      k.table.map fun e => e.map fun x => { x with flags := x.flags ||| 0x02 }
    (∀ (t p : Nat) (rest : List PosNotice), (s.rail r).trk.notices = .progress t p :: rest → s.inForce = true →
      exec (.trackGapClose r) s = .next ((s.modTrk r fun k => { k with notices := rest }).tracksClosed r
        (fun k => decide (k.tLast + Plan.gap s.plan r k.group < t)) (fun k => k.state == .confirmed) 0 .unconfirmed none)) ∧
    (∀ n, (s.rail r).trk.liftNotices = n + 1 → exec (.trackLiftNotice r) s =
      .next (s.modTrk r fun k => { k with liftNotices := n, table := interrupted k })) ∧
    ∀ n, (s.rail r).trk.interruptNotices = n + 1 → exec (.trackInterruptNotice r) s =
      .next (s.modTrk r fun k => { k with interruptNotices := n, table := interrupted k })

/-- R103 to R110: each forced close empties the table with the flag of its cause, and all but that of a preset send
their flush marker behind it. A FLUSH order reports its counts besides; the end of a plan drops every track and sends
no marker. With no plan in force only a FLUSH order sends anything (log entry 58). A cut or stop order waits for the
hits passed on before it (log entry 70). -/
def Obligations.ForcedClosesEmptyTheTable : Prop :=
  ∀ (r : Rail) (s : State), (s.rail r).trk.table.length = 48 →
    let close (f : Tracker → Tracker) (flag : BitVec 8) (reason : DropReason) (cause : DropCause) : State :=
      (s.modTrk r f).tracksClosed r (fun _ => true) (fun k => k.state == .confirmed) flag reason (some cause)
    let forced (c : Instr) (f : Tracker → Tracker) (flag : BitVec 8) (reason : DropReason) (cause : DropCause)
        (marker : List FlushCause) : Prop :=
      (s.inForce = false → exec c s = .next (s.modTrk r f)) ∧
      (s.inForce = true → exec c s = .next ((close f flag reason cause).modTrk r fun k =>
        { k with path := k.path ++ marker.map fun m => .marker { cause := m, tag := 0 } }))
    (∀ p q d rest, (s.rail r).trk.notices = .preset p q d :: rest →
      forced (.trackPresetCut r) (fun k => { k with notices := rest }) flagCut .cut .preset []) ∧
    (∀ d p t rest, (s.rail r).trk.notices = .reversal d p t :: rest →
      forced (.trackReversalClose r) (fun k => { k with notices := rest }) flagReversal .reversal .reversal [.reversal]) ∧
    (∀ n, (s.rail r).trk.tachNotices = n + 1 →
      forced (.trackTachFaultClose r) (fun k => { k with tachNotices := n }) flagCut .cut .tachFault [.tachFault]) ∧
    (∀ rest, (s.rail r).trk.orders = .cut :: rest → (s.rail r).trk.hits = [] →
      forced (.cutOrder r) (fun k => { k with orders := rest }) flagCut .cut .switch [.switch]) ∧
    (∀ rest, (s.rail r).trk.orders = .stop :: rest → (s.rail r).trk.hits = [] →
      forced (.stopOrder r) (fun k => { k with orders := rest }) flagFlushed .flushed .stop [.stop]) ∧
    ((s.rail r).trk.hits ≠ [] → exec (.cutOrder r) s = .next s ∧ exec (.stopOrder r) s = .next s) ∧
    (∀ tag rest, (s.rail r).trk.flushOrders = tag :: rest →
      let count (st : TrackState) := ((s.rail r).trk.opened.filter fun e => e.2.state == st).length
      let u := if s.inForce then close (fun k => { k with flushOrders := rest }) flagFlushed .flushed .flush
        else s.modTrk r fun k => { k with flushOrders := rest }
      exec (.flushOrder r) s = .next
        ((u.modTrk r fun k => { k with path := k.path ++ [.marker { cause := .flush, tag := tag }] }).modReq fun q =>
          { q with flush := q.flush.map fun f => if f.tag = tag then
              { f with counts := f.counts.set r (if s.inForce then (count .confirmed, count .tentative) else (0, 0)) }
              else f })) ∧
    ∀ rest, (s.rail r).trk.orders = .planEnded :: rest → exec (.trackPlanEnded r) s = .next
      ((s.modTrk r fun k => { k with orders := rest }).tracksClosed r (fun _ => true) (fun _ => false) 0 .planEnded
        (some .planEnded))

/-! ## Indication assembly (chapter 7) -/

/-- R122 to R129, R131: finalizing an entry draws its number, classifies it by the first rule all of whose conditions
hold, and either records and removes it at once or holds it with its mark request in hand, its T, P and direction those
of this moment (log entry 37); behind the last entry of an item comes what the item asks for. With no plan in force
every entry is finalized as PLAN_ENDED (log entry 18); a marker of a switch or stop that has ended since, which carries
tag 1, is reported to nobody (log entry 29); and ASSEMBLY_FULL is raised as the arrival is inserted, behind the early
finalization (log entry 60). As many rules are tried as the rule count says (log entry 105), and a class of 0 or 255 or
a severity above 3, which only an upset leaves in the plan, is taken as that number (log entry 106). -/
def Obligations.FinalizingAnEntryTakesItsSteps : Prop :=
  ∀ (r : Rail) (after : AfterJob) (e : Entry) (cause : FinalCause) (rest : List (Entry × FinalCause)) (s : State),
    let rules := Plan.rules s.plan
    let ended := decide (cause = .planEnded ∨ s.inForce = false)
    let c : Classification := if ended then
      { cls := 0, rule := none, severity := 0, nozzle := none, lead := 0, trail := 0 } else classify s.plan r e
    let noMark : Option MarkerStatus :=
      if c.nozzle = none then some .notRequired
      else if (s.rail r).asm.stopping then some .stopped
      else if e.flags &&& 0x10 ≠ 0 then some .reversal
      else if (s.alarm.source .tachFault).state = .pending then some .noPosition
      else none
    let lead := if s.pos.dir = .decreasing then c.trail else c.lead
    let trail := if s.pos.dir = .decreasing then c.lead else c.trail
    let u : State :=
      { s with indicationCounter := if s.indicationCounter < 4294967295 then s.indicationCounter + 1 else 1 }
    let planId := if ended then 0 else s.plans.active.planId
    let shown := if ended then FinalCause.planEnded else cause
    let record (status : MarkerStatus) : Rec := .indication
      { rail := r, number := s.indicationCounter, planId := planId, cls := c, status := status, interval := none,
        cause := shown, entry := e, tFinal := s.pos.t, pFinal := s.pos.p, dir := s.pos.dir }
    let recorded (status : MarkerStatus) : State :=
      let w := u.offered (.assembler r) [record status]
      (if c.severity = 3 then w.raiseReport (.assembler r) .severeIndication (.indication r s.indicationCounter c.cls)
        else w).modAsm r fun a => { a with list := a.list.erase e }
    let waiting : Finalizing :=
      { entry := e, cause := shown, number := s.indicationCounter, planId := planId, cls := c, t := s.pos.t, p := s.pos.p,
        dir := s.pos.dir, xStart := min 4294967295 (e.xMin - lead), xEnd := min 4294967295 (e.xMax + trail),
        answer := none }
    let group (g : Nat) : Bool := match r with
      | .A => e.groups.getLsbD g
      | .B => decide (8 ≤ g) && e.groups.getLsbD (g - 8)
    let holds (q : ClassRule) : Prop :=
      (q.filter = .both ∨ q.filter = (match r with | .A => .a | .B => .b)) ∧
        (∀ g, g < 16 → q.required.testBit g = true → group g = true) ∧
        ((∃ g, g < 16 ∧ q.anyOf.testBit g = true) → ∃ g, g < 16 ∧ q.anyOf.testBit g = true ∧ group g = true) ∧
        (∀ g, g < 16 → q.excluded.testBit g = true → group g = false) ∧
        (match e.dMin, e.dMax with
          | some a, some b => q.depthMin ≤ a ∧ b ≤ q.depthMax
          | _, _ => q.acceptNoDepth = true) ∧
        q.lengthMin ≤ e.xMax - e.xMin + 1 ∧ e.xMax - e.xMin + 1 ≤ q.lengthMax ∧ q.minPeak ≤ e.peak
    ((∀ i q, rules[i]? = some q → holds q → (∀ (j : Nat) q', j < i → rules[j]? = some q' → ¬ holds q') →
      classify s.plan r e = { cls := q.cls, rule := some i, severity := q.severity, nozzle := q.nozzle, lead := q.lead,
                              trail := q.trail }) ∧
      ((∀ q ∈ rules, ¬ holds q) → classify s.plan r e =
        { cls := 255, rule := none, severity := Plan.defaultSeverity s.plan r, nozzle := Plan.defaultNozzle s.plan r,
          lead := 0, trail := 0 })) ∧
    (∀ status, noMark = some status →
      State.runJob r after ((e, cause) :: rest) s = State.runJob r after rest (recorded status)) ∧
    (noMark = none → s.pos.dir ≠ .unknown → State.runJob r after ((e, cause) :: rest) s = u.modAsm r fun a =>
      { a with job := some { current := waiting, todo := rest, after := after } }) ∧
    (let free := s.modAsm r fun a => { a with job := none }
     State.runJob r .nothing [] s = free ∧
     State.runJob r (.insert e) [] s = (free.raiseReport (.assembler r) .assemblyFull (.rail r)).modAsm r (fun a =>
       { a with list := a.list.takeWhile (fun v => decide (v.xMin ≤ e.xMin)) ++ e ::
                        a.list.dropWhile (fun v => decide (v.xMin ≤ e.xMin)) }) ∧
     ∀ m : FlushMark, State.runJob r (.flushDone m) [] s =
       if m.cause = .flush then free.modReq fun q =>
         { q with flushDone := q.flushDone.set r (q.flushDone.get r ++ [m.tag]) }
       else if m.cause = .switch ∧ m.tag = 0 then free.modPlans fun p =>
         { p with switchDone := p.switchDone.set r (p.switchDone.get r + 1) }
       else if m.cause = .stop ∧ m.tag = 0 then free.modPlans fun p =>
         { p with stopDone := p.stopDone.set r (p.stopDone.get r + 1) }
       else free)

/-- R113, R115 to R118: a summary taken while a plan is in force leaves the list ordered by x_min, of at most 16
entries, no two of which overlap, and one of them covers the track, unless an early finalization still waits for its
mark, or for a stop-begun notice to be taken first (log entry 71). A track that overlaps some entry merges with every
entry it overlaps, and the result with every entry it then overlaps, until none is left; the result takes its place by
its x_min, and nothing else but the count of arrivals changes. Of what is merged the extents, the groups and the flags
are united, the totals added, and of the contributors the eight of the highest peak kept, the earlier among equals, in
arrival order, with TRUNCATED set where there were more. -/
def Obligations.SummariesMergeAndKeepTheListOrderedAndApart : Prop :=
  (∀ (r : Rail) (k : Track) (rest : List PathItem) (s : State), (s.rail r).trk.path = .summary k :: rest →
    (s.rail r).asm.job = none → s.inForce = true →
    let ma := Plan.marginA s.plan r
    let md := Plan.marginD s.plan r
    let apart (list : List Entry) : Prop := list.length ≤ 16 ∧ list.Pairwise fun u v =>
      u.xMin ≤ v.xMin ∧ u.overlaps v ma md = false
    let arrival := k.entry (s.rail r).asm.arrivals s.pos.t
    let list := (s.rail r).asm.list
    (apart list → ∃ t, exec (.trackSummary r) s = .next t ∧ apart (t.rail r).asm.list ∧
      ((t.rail r).asm.job = none → (.stopBegun ∈ (s.rail r).asm.orders →
          list.length < 16 ∨ list.any (fun v => arrival.overlaps v ma md) = true) →
        ∃ e ∈ (t.rail r).asm.list, e.tJoin = s.pos.t ∧ e.xMin ≤ k.xMin ∧ k.xMax ≤ e.xMax ∧
        k.peak ≤ e.peak ∧ k.flags &&& e.flags = k.flags)) ∧
    (list.any (fun v => arrival.overlaps v ma md) = true →
      let res := absorb ma md (list.length + 1) arrival list
      exec (.trackSummary r) s = .next ((s.modTrk r fun x => { x with path := rest }).modAsm r fun a =>
        { a with arrivals := a.arrivals + 1,
                 list := res.2.takeWhile (fun v => decide (v.xMin ≤ res.1.xMin)) ++ res.1 ::
                           res.2.dropWhile (fun v => decide (v.xMin ≤ res.1.xMin)) }))) ∧
  (∀ (ma md n : Nat) (u : Entry) (list : List Entry), list.length < n →
    let met := list.filter fun v => u.overlaps v ma md
    absorb ma md n u list = if met = [] then (u, list) else
      absorb ma md n (met.foldl Entry.merge u) (list.filter fun v => !u.overlaps v ma md)) ∧
  (∀ (u v : Entry) (ma md : Nat), u.overlaps v ma md = true ↔ u.xMin ≤ v.xMax + ma ∧ v.xMin ≤ u.xMax + ma ∧
    ∀ a b c d, u.dMin = some a → u.dMax = some b → v.dMin = some c → v.dMax = some d → a ≤ d + md ∧ c ≤ b + md) ∧
  ∀ (u : Entry) (met : List Entry), met ≠ [] →
    let x := met.foldl Entry.merge u
    let all := (u :: met).flatMap Entry.contributors
    x.xMin = met.foldl (fun m v => min m v.xMin) u.xMin ∧ x.xMax = met.foldl (fun m v => max m v.xMax) u.xMax ∧
      x.dMin = ((u :: met).filterMap Entry.dMin).min? ∧ x.dMax = ((u :: met).filterMap Entry.dMax).max? ∧
      x.peak = met.foldl (fun m v => max m v.peak) u.peak ∧ x.tJoin = u.tJoin ∧
      x.groups = met.foldl (fun g v => g ||| v.groups) u.groups ∧
      x.total = min 4294967295 (met.foldl (fun n v => n + v.total) u.total) ∧
      ((∀ e ∈ u :: met, e.contributors.Pairwise fun c d => c.arrival < d.arrival) → (all.map Contributor.arrival).Nodup →
        x.flags = (met.foldl (fun g v => g ||| v.flags) u.flags ||| if 8 < all.length then flagTruncated else 0) ∧
        (x.contributors.Pairwise fun c d => c.arrival < d.arrival) ∧
        ∀ c, c ∈ x.contributors ↔ c ∈ all ∧ (all.filter fun d =>
          decide (c.peak < d.peak ∨ (d.peak = c.peak ∧ d.arrival < c.arrival))).length < 8)

/-- R116, R120, R121, R127, R130, R131: what the assembler does with each of its items. While a mark request is in hand
it takes nothing but the answer, which is recorded and lets the finalizations behind it go on (log entry 59), as begun
also where a stop has begun since (log entry 117). While a stop-begun notice waits, a summary or a marker whose taking
would build an indication under the plan in force waits behind it, and every other is taken (log entry 71). Whether a
plan is in force decides what an item of the path does (log entry 76), and an entry whose age is Ha or more is beyond
the horizon, also where Ha is 0 (log entry 74). A group code above 7, which only an upset leaves, adds no bit to the
groups (log entry 103). -/
def Obligations.AssemblerTakesItsItems : Prop :=
  ∀ (r : Rail) (s : State),
    let list := (s.rail r).asm.list
    let path (rest : List PathItem) := s.modTrk r fun x => { x with path := rest }
    (∀ job, (s.rail r).asm.job = some job →
      (∀ c ∈ [Instr.trackSummary r, .flushMarker r, .horizonFinalize r, .stopBegunNotice r, .assemblyPlanEnded r],
        exec c s = .next s) ∧
      ∀ status, job.current.answer = some status → exec (.markAnswer r) s = .next (State.runJob r job.after job.todo
        (let f := job.current
         let w := s.offered (.assembler r) [.indication
           { rail := r, number := f.number, planId := f.planId, cls := f.cls, status := status,
             interval := some (f.xStart, f.xEnd), cause := f.cause, entry := f.entry, tFinal := f.t, pFinal := f.p,
             dir := f.dir }]
         (if f.cls.severity = 3 then w.raiseReport (.assembler r) .severeIndication (.indication r f.number f.cls.cls)
          else w).modAsm r fun a => { a with list := a.list.erase f.entry }))) ∧
    ((s.rail r).asm.job = none →
      (∀ (k : Track) (rest : List PathItem), (s.rail r).trk.path = .summary k :: rest →
        let x : Contributor :=
          { group := k.group, kind := k.kind, elementMask := k.elementMask, xMin := k.xMin, xMax := k.xMax,
            dMin := k.dMin, dMax := k.dMax, peak := k.peak, hitCount := k.hitCount, flags := k.flags,
            arrival := (s.rail r).asm.arrivals }
        let e : Entry :=
          { xMin := k.xMin, xMax := k.xMax, dMin := k.dMin, dMax := k.dMax, peak := k.peak, groups := groupBit k.group,
            contributors := [x], total := 1, tJoin := s.pos.t, flags := k.flags }
        let u := (path rest).modAsm r fun a => { a with arrivals := a.arrivals + 1 }
        (s.inForce = false → exec (.trackSummary r) s = .next (State.runJob r .nothing [(e, .planEnded)] u)) ∧
        (s.inForce = true → (∀ v ∈ list, e.overlaps v (Plan.marginA s.plan r) (Plan.marginD s.plan r) = false) →
          (list.length < 16 → exec (.trackSummary r) s = .next (u.modAsm r fun a =>
            { a with list := list.takeWhile (fun v => decide (v.xMin ≤ e.xMin)) ++ e ::
                             list.dropWhile (fun v => decide (v.xMin ≤ e.xMin)) })) ∧
          (16 ≤ list.length → .stopBegun ∈ (s.rail r).asm.orders → exec (.trackSummary r) s = .next s) ∧
          (16 ≤ list.length → .stopBegun ∉ (s.rail r).asm.orders → ∀ i v, list[i]? = some v →
            (∀ (j : Nat) w, list[j]? = some w → j ≠ i → v.tJoin < w.tJoin ∨ (v.tJoin = w.tJoin ∧
              (v.xMin < w.xMin ∨ (v.xMin = w.xMin ∧ i < j)))) →
            let early := { v with flags := v.flags ||| 0x80 }
            exec (.trackSummary r) s = .next (State.runJob r (.insert e) [(early, .early)]
              (u.modAsm r fun a => { a with list := list.map fun w => if w = v then early else w }))))) ∧
      (∀ (m : FlushMark) (rest : List PathItem), (s.rail r).trk.path = .marker m :: rest →
        (.stopBegun ∈ (s.rail r).asm.orders → s.inForce = true → list ≠ [] → exec (.flushMarker r) s = .next s) ∧
        ((.stopBegun ∈ (s.rail r).asm.orders → s.inForce = true → list = []) → exec (.flushMarker r) s =
          .next (State.runJob r (.flushDone m)
            (if s.inForce then list.map fun e => (e, .flush m.cause) else []) (path rest)))) ∧
      (∀ t p rest, (s.rail r).asm.notices = .progress t p :: rest → exec (.horizonFinalize r) s =
        .next (State.runJob r .nothing (if s.inForce then
            (list.filter fun e => decide (e.tJoin + Plan.horizon s.plan r ≤ t)).map fun e => (e, .horizon) else [])
          (s.modAsm r fun a => { a with notices := rest }))) ∧
      (∀ rest, (s.rail r).asm.orders = .stopBegun :: rest → exec (.stopBegunNotice r) s =
        .next (s.modAsm r fun a => { a with orders := rest, stopping := true })) ∧
      ∀ rest, (s.rail r).asm.orders = .planEnded :: rest → exec (.assemblyPlanEnded r) s =
        .next (State.runJob r .nothing (list.map fun e => (e, .planEnded))
          (s.modAsm r fun a => { a with orders := rest })))

/-! ## Marker control (chapter 8) -/

/-- R134, R137, R138: the controller answers a mark request by the first case that applies: in LOCKED and where the
nozzle has passed the far end it is rejected with its record; near an entry of its nozzle it merges with the nearest,
and on until no entry of the nozzle is within the merge distance of the result, which takes the place its interval gives
it; a full queue rejects it; else it is inserted by travel order, SPRAYING at once when the nozzle stands inside it.
Among equally near entries the first merges first (log entry 47). A NOZZLE_CHECK that waits is carried out first, so
that the request is judged by the plan in force (R29, log entry 107), and a nozzle without a position belongs to no plan
in force (log entry 19). -/
def Obligations.MarkRequestIsAnsweredByTheFirstCase : Prop :=
  ∀ (r : Rail) (job : Job) (s : State), (s.rail r).asm.job = some job → job.current.answer = none →
    let m := (s.rail r).mrk
    let j := job.current.cls.nozzle.getD 0
    let lo := job.current.xStart
    let hi := job.current.xEnd
    let answered (u : State) (x : MarkerStatus) : State :=
      u.modAsm r fun a => { a with job := some { job with current := { job.current with answer := some x } } }
    let rejected (reason : UnmarkedReason) (x : MarkerStatus) : Prop := exec (.markRequest r) s = .next
      (answered ((s.offered (.marker r) [.marker
        { rail := r, nozzle := j, reason := some reason, broken := false, xStart := lo, xEnd := hi,
          origins := [job.current.number], originTotal := 1, p := s.pos.p, t := s.pos.t, dir := m.dir }]).raiseReport
        (.marker r) .markerUnmarked (.unmarked r j reason job.current.number)) x)
    (s.device = .locked → rejected .locked .queueFull) ∧
    (∀ rest u, s.device ≠ .locked → m.orders = .nozzleCheck :: rest → exec (.nozzleCheck r) s = .next u →
      exec (.markRequest r) s = exec (.markRequest r) u) ∧
    (s.device ≠ .locked → m.orders.head? ≠ some .nozzleCheck →
      (m.nozzle j).position = none ∨ (m.nozzle j).desc = none → rejected .planEnded .queueFull) ∧
    ∀ n d, s.device ≠ .locked → m.orders.head? ≠ some .nozzleCheck → (m.nozzle j).position = some n →
      (m.nozzle j).desc = some d →
      let passed (x : Nat) : Bool := if m.dir = .decreasing then decide (n < x) else decide ((x : Int) < n)
      let near := if m.dir = .decreasing then hi else lo
      let far := if m.dir = .decreasing then lo else hi
      let close (a b : Nat) (v : MarkEntry) : Prop :=
        v.nozzle = j ∧ intervalDistance a b v.xStart v.xEnd ≤ d.mergeDistance
      (passed far = true → rejected .late .late) ∧
      (passed far = false → (∃ v ∈ m.queue, close lo hi v) →
        let res := gather j d.mergeDistance (m.queue.length + 1)
          { xStart := lo, xEnd := hi, origins := [], originTotal := 0, broken := false, spraying := [] } m.queue
        let g := res.1
        let e : MarkEntry :=
          { nozzle := j, xStart := g.xStart, xEnd := g.xEnd, origins := (g.origins ++ [job.current.number]).take 4,
            originTotal := min 65535 (g.originTotal + 1),
            state := if g.spraying ≠ [] ∨ ((g.xStart : Int) ≤ n ∧ n ≤ g.xEnd) then .spraying else .pending,
            broken := g.broken || uncovered m.dir n lo hi g.spraying }
        let gathered (v : MarkEntry) : Prop := v ∈ m.queue ∧ v.nozzle = j ∧ e.xStart ≤ v.xStart ∧ v.xEnd ≤ e.xEnd
        exec (.markRequest r) s = .next (answered (s.modMrk r fun k =>
          { k with queue := insertMark m.dir e res.2, nozzles := if e.state = .spraying ∧ g.spraying = [] then
              k.nozzles.modify j Nozzle.start else k.nozzles }) .merged) ∧
        res.2.Sublist m.queue ∧ (∀ v ∈ res.2, ¬ close e.xStart e.xEnd v) ∧ (∀ v ∈ m.queue, v ∈ res.2 ∨ gathered v) ∧
        e.xStart ≤ lo ∧ hi ≤ e.xEnd ∧ (e.xStart = lo ∨ ∃ v, gathered v ∧ v.xStart = e.xStart) ∧
        (e.xEnd = hi ∨ ∃ v, gathered v ∧ v.xEnd = e.xEnd) ∧
        (∀ v, m.queue = [v] → g.origins = v.origins ∧ g.originTotal = v.originTotal ∧ g.broken = v.broken ∧
          g.spraying = if v.state = .spraying then [(v.xStart, v.xEnd)] else []) ∧
        (lo ≤ hi → g.spraying.length ≤ 1 → (uncovered m.dir n lo hi g.spraying = true ↔
          ∃ x, lo ≤ x ∧ x ≤ hi ∧ passed x = true ∧ ∀ k ∈ g.spraying, ¬ (k.1 ≤ x ∧ x ≤ k.2)))) ∧
      (passed far = false → (∀ v ∈ m.queue, ¬ close lo hi v) →
        (32 ≤ m.queue.length → rejected .queueFull .queueFull) ∧
        (m.queue.length < 32 →
          let inside := decide ((lo : Int) ≤ n ∧ n ≤ hi)
          let e : MarkEntry :=
            { nozzle := j, xStart := lo, xEnd := hi, origins := [job.current.number], originTotal := 1,
              state := if inside then .spraying else .pending, broken := inside && passed near }
          let ahead (v : MarkEntry) : Bool :=
            if m.dir = .decreasing then decide (e.xEnd ≤ v.xEnd) else decide (v.xStart ≤ e.xStart)
          exec (.markRequest r) s = .next (answered (s.modMrk r fun k =>
            { k with queue := k.queue.takeWhile ahead ++ e :: k.queue.dropWhile ahead,
                     nozzles := if inside then k.nozzles.modify j Nozzle.start else k.nozzles }) .queued)))

/-- R133, R135, R136: a position change recomputes every nozzle position, and while a plan is in force starts the
PENDING entries their nozzles stand in and completes the SPRAYING ones whose far end is passed, each with a SPRAYED
record. The outputs act on each start, and then on the end of the last SPRAYING entry of a nozzle: one with another goes
on. The positions come from the descriptors and the sense the controller holds, which between a swap and its
NOZZLE_CHECK are those of the plan before (log entry 20). The notice of a declared direction sets the controller's copy.
That sense is the signed byte of the bank, also where an upset has left it other than +1 or −1 (log entry 100). Where
only an upset has left it so, a PENDING entry that its nozzle has passed stays PENDING (log entry 124), and an entry of
a nozzle without a position keeps its state (log entry 125). -/
def Obligations.PositionChangesStartAndCompleteMarks : Prop :=
  ∀ (r : Rail) (s : State),
    let m := (s.rail r).mrk
    (∀ d p rest, m.notices = .declared d p :: rest → exec (.markerDirectionDeclared r) s = .next (s.modMrk r fun k =>
      { k with notices := rest, dir := d })) ∧
    ∀ p rest, m.notices = .positionChange p :: rest →
      let nozzles := m.nozzles.map fun z => { z with position := z.desc.map fun d => (p : Int) + m.sense * d.offset }
      let at_ (e : MarkEntry) : Option Int := (nozzles.getD e.nozzle .cleared).position
      let starts (e : MarkEntry) : Bool := e.state == .pending && (at_ e).any fun (n : Int) =>
        decide ((e.xStart : Int) ≤ n ∧ n ≤ e.xEnd)
      let ends (e : MarkEntry) : Bool := e.state == .spraying && (at_ e).any fun (n : Int) =>
        if m.dir = .decreasing then decide (n < e.xStart) else decide ((e.xEnd : Int) < n)
      let left := (m.queue.filter fun e => !ends e).map fun e => if starts e then { e with state := .spraying } else e
      let sprays (xs : List MarkEntry) (j : Nat) : Bool := xs.any fun e => e.nozzle == j && e.state == .spraying
      let started := m.queue.foldl (fun zs e => if starts e then zs.modify e.nozzle Nozzle.start else zs) nozzles
      let u := s.modMrk r fun k => { k with notices := rest, p := p, nozzles := nozzles }
      (s.inForce = false → exec (.positionChange r) s = .next u) ∧
      (s.inForce = true → exec (.positionChange r) s = .next
        ((u.offered (.marker r) ((m.queue.filter ends).map fun e => .marker
          { rail := r, nozzle := e.nozzle, reason := none, broken := e.broken, xStart := e.xStart, xEnd := e.xEnd,
            origins := e.origins, originTotal := e.originTotal, p := s.pos.p, t := s.pos.t, dir := m.dir })).modMrk r fun k =>
          { k with queue := left
                   nozzles := (indexed started).map fun x =>
                     if sprays m.queue x.1 && !sprays left x.1 then x.2.finish else x.2 }))

/-- R139: a purge removes every entry, with an UNMARKED record and a raise for each in travel order. A reversal changes
the direction first, so that its records carry the new one (log entry 77); the purge at the end of a plan drops the
nozzles besides, pulse timers running on (log entry 26); that of a stop tells the Plan Store, here while the other
rail's is still to come. -/
def Obligations.PurgesEmptyTheMarkerQueue : Prop :=
  ∀ (r : Rail) (s : State),
    let m := (s.rail r).mrk
    let purged (reason : UnmarkedReason) (dir : Dir) (z : Nozzle → Nozzle) : State :=
      let u := s.offered (.marker r) (m.queue.map fun e => .marker
        { rail := r, nozzle := e.nozzle, reason := some reason, broken := e.broken, xStart := e.xStart, xEnd := e.xEnd,
          origins := e.origins, originTotal := e.originTotal, p := s.pos.p, t := s.pos.t, dir := dir })
      (u.modAlarm fun a => { a with reports := a.reports ++ m.queue.map fun e =>
        (.marker r, .raise .markerUnmarked (.unmarked r e.nozzle reason (e.origins.headD 0))) }).modMrk r fun k =>
          { k with queue := [], dir := dir, nozzles := k.nozzles.map z }
    (∀ d p t rest, m.notices = .reversal d p t :: rest → exec (.markerReversalPurge r) s = .next
      ((purged .reversal d Nozzle.finish).modMrk r fun k => { k with notices := rest })) ∧
    (∀ n, m.tachNotices = n + 1 → exec (.markerTachFaultPurge r) s = .next
      ((purged .tachFault m.dir Nozzle.finish).modMrk r fun k => { k with tachNotices := n })) ∧
    (∀ rest, m.orders = .planEnded :: rest → exec (.markerPlanEndedPurge r) s = .next
      ((purged .planEnded m.dir fun z => { z with desc := none, position := none, drive := z.latched }).modMrk r fun k =>
        { k with orders := rest })) ∧
    ∀ x rest, m.orders = .stopPurge :: rest → s.plans.stop = some x → (∀ other, other ≠ r → x.purged.get other = false) →
      exec (.markerStopPurge r) s = .next (((purged .stopped m.dir Nozzle.finish).modMrk r fun k =>
        { k with orders := rest }).modPlans fun p => { p with stop := some { x with purged := x.purged.set r true } })

/-- R140, R141: a preset translates every entry, shortens those that reach across a limit, and removes those wholly
beyond one, their records carrying the interval before the translation (log entry 36). At a switch, entries whose
nozzles the new plan does not define are removed and their outputs cleared; a nozzle of another mode is cleared and one
of SPRAY with an entry SPRAYING driven again; entries whose nozzle's position has changed are judged afresh; and entries
of a nozzle now within its merge distance merge, so that no two stay within it. A SPRAY output goes off with the last
SPRAYING entry of its nozzle (R136), and the queue is judged in travel order (log entry 86). A queue all of whose
nozzles keep their mode, offset and merge distance passes through untouched. A latched nozzle that neither plan defines,
without entries, stays as it is (log entry 78), and the descriptors and positions held up to the check are those of log
entry 20. The sense is the signed byte of the bank, also where an upset has left it other than +1 or −1 (log entry 100).
-/
def Obligations.PresetsTranslateAndSwitchesCheckTheQueue : Prop :=
  ∀ (r : Rail) (s : State),
    let m := (s.rail r).mrk
    let unmarked (reason : UnmarkedReason) (xs : List MarkEntry) : State :=
      let u := s.offered (.marker r) (xs.map fun e => .marker
        { rail := r, nozzle := e.nozzle, reason := some reason, broken := e.broken, xStart := e.xStart, xEnd := e.xEnd,
          origins := e.origins, originTotal := e.originTotal, p := s.pos.p, t := s.pos.t, dir := m.dir })
      u.modAlarm fun a => { a with reports := a.reports ++ xs.map fun e =>
        (.marker r, .raise .markerUnmarked (.unmarked r e.nozzle reason (e.origins.headD 0))) }
    let sprays (xs : List MarkEntry) (j : Nat) : Bool := xs.any fun e => e.nozzle == j && e.state == .spraying
    let settled (left : List MarkEntry) (zs : List Nozzle) : List Nozzle :=
      (indexed zs).map fun x => if sprays m.queue x.1 && !sprays left x.1 then x.2.finish else x.2
    (∀ old new delta rest, m.notices = .preset old new delta :: rest →
      let lo (e : MarkEntry) : Int := e.xStart + delta
      let hi (e : MarkEntry) : Int := e.xEnd + delta
      let gone (e : MarkEntry) : Bool := decide (hi e < 0) || decide (4294967295 < lo e)
      let off (x : Int) : Bool := decide (x < 0) || decide (4294967295 < x)
      exec (.markerPresetTranslate r) s = .next ((unmarked .presetLimit (m.queue.filter gone)).modMrk r fun k =>
        { k with
          notices := rest, p := new,
          queue := (m.queue.filter fun e => !gone e).map fun e =>
            { e with xStart := clampPos (lo e), xEnd := clampPos (hi e), broken := e.broken || off (lo e) || off (hi e) },
          nozzles := (settled (m.queue.filter fun e => !gone e) m.nozzles).map fun z =>
            { z with position := z.desc.map fun d => (new : Int) + m.sense * d.offset } })) ∧
    ∀ rest, m.orders = .nozzleCheck :: rest → s.inForce = true →
      let desc (j : Nat) : Option NozzleDesc := if j < 4 then Plan.nozzle s.plan r j else none
      let stays := m.queue.filter fun e => (desc e.nozzle).isSome
      let gone := m.queue.filter fun e => (desc e.nozzle).isNone
      let clear (z : Nozzle) : Nozzle := { z with drive := false, latched := false, pulse := none }
      let brought (j : Nat) (z : Nozzle) : Nozzle :=
        let y : Nozzle :=
          { z with desc := desc j, position := (desc j).map fun d => (m.p : Int) + Plan.sense s.plan * d.offset }
        match z.desc.map NozzleDesc.mode, (desc j).map NozzleDesc.mode with
        | none, _ => if gone.any fun e => e.nozzle == j then clear y else y
        | some _, none => clear y
        | some a, some b =>
          if a = b then y
          else { clear y with drive := b == .spray && stays.any fun e => e.nozzle == j && e.state == .spraying }
      let nozzles := (indexed m.nozzles).map fun x => brought x.1 x.2
      let at_ (e : MarkEntry) : Int := ((nozzles.getD e.nozzle .cleared).position).getD 0
      let moved (e : MarkEntry) : Bool :=
        (nozzles.getD e.nozzle .cleared).position != (m.nozzles.getD e.nozzle .cleared).position
      let passed (e : MarkEntry) (x : Nat) : Bool :=
        if m.dir = .decreasing then decide (at_ e < x) else decide ((x : Int) < at_ e)
      let ends (e : MarkEntry) : Bool := moved e && e.state == .spraying
      let late (e : MarkEntry) : Bool :=
        moved e && e.state == .pending && passed e (if m.dir = .decreasing then e.xStart else e.xEnd)
      let starts (e : MarkEntry) : Bool :=
        moved e && e.state == .pending && !late e && decide ((e.xStart : Int) ≤ at_ e ∧ at_ e ≤ e.xEnd)
      let left := (stays.filter fun e => !ends e && !late e).map fun e => if starts e then
        { e with state := .spraying, broken := e.broken || passed e (if m.dir = .decreasing then e.xEnd else e.xStart) }
        else e
      let record (reason : Option UnmarkedReason) (e : MarkEntry) : Rec := .marker
        { rail := r, nozzle := e.nozzle, reason := reason, broken := e.broken || reason.isNone, xStart := e.xStart,
          xEnd := e.xEnd, origins := e.origins, originTotal := e.originTotal, p := s.pos.p, t := s.pos.t, dir := m.dir }
      let records := gone.map (record (some .planSwitch)) ++ (stays.filter fun e => ends e || late e).map fun e =>
        record (if ends e then none else some .planSwitch) e
      let judged := (s.offered (.marker r) records).modAlarm fun a =>
        { a with reports := a.reports ++ (gone ++ stays.filter late).map fun e =>
            (.marker r, .raise .markerUnmarked (.unmarked r e.nozzle .planSwitch (e.origins.headD 0))) }
      let w := judged.modMrk r fun k =>
        { k with orders := rest, queue := left, sense := Plan.sense s.plan,
                 nozzles := settled left (stays.foldl (fun zs e =>
                   if starts e then zs.modify e.nozzle Nozzle.start else zs) nozzles) }
      let merged := State.remerge r (left.length + 1) left [] [] w
      let within (u v : MarkEntry) : Prop := u.nozzle = v.nozzle ∧ ∀ d, desc u.nozzle = some d →
        intervalDistance u.xStart u.xEnd v.xStart v.xEnd ≤ d.mergeDistance
      m.nozzles.length = 4 →
        exec (.nozzleCheck r) s = .next merged ∧
        ((left.Pairwise fun u v => ¬ within u v) → merged = w) ∧
        ((∀ e ∈ left, e.xStart ≤ e.xEnd) → ∃ queue zs, merged = (w.modMrk r fun k => { k with queue := queue, nozzles := zs }) ∧
          (queue.Pairwise fun u v => ¬ within u v) ∧
          (∀ e ∈ left, ∃ v ∈ queue, v.nozzle = e.nozzle ∧ v.xStart ≤ e.xStart ∧ e.xEnd ≤ v.xEnd) ∧
          (∀ v ∈ queue, (∃ e ∈ left, e.nozzle = v.nozzle ∧ e.xStart = v.xStart) ∧
            ∃ e ∈ left, e.nozzle = v.nozzle ∧ e.xEnd = v.xEnd) ∧
          (∀ before e after, left = before ++ e :: after → (∀ v ∈ before ++ after, ¬ within e v) → e ∈ queue) ∧
          ∀ j : Nat, zs[j]? = (w.rail r).mrk.nozzles[j]? ∨ zs[j]? = ((w.rail r).mrk.nozzles[j]?).map Nozzle.start) ∧
        (∀ a b others, left = a :: b :: others → within a b →
          let spray := (∃ e ∈ [a, b], e.state = .spraying) ∨
            ((min a.xStart b.xStart : Nat) : Int) ≤ at_ a ∧ at_ a ≤ (max a.xEnd b.xEnd : Nat)
          let x : MarkEntry :=
            { nozzle := a.nozzle, xStart := min a.xStart b.xStart, xEnd := max a.xEnd b.xEnd,
              origins := (a.origins ++ b.origins).take 4, originTotal := min 65535 (a.originTotal + b.originTotal),
              state := if spray then .spraying else .pending, broken := a.broken || b.broken }
          (x :: others).Pairwise (fun u v => ¬ within u v) → (∀ v ∈ others, ¬ within a v) → merged = w.modMrk r fun k =>
            { k with queue := insertMark m.dir x others,
                     nozzles := if x.state = .spraying ∧ a.state ≠ .spraying ∧ b.state ≠ .spraying then
                       k.nozzles.modify a.nozzle Nozzle.start else k.nozzles }) ∧
        ((∀ j, j < 4 → (m.nozzle j).desc = Plan.nozzle s.plan r j) → m.sense = Plan.sense s.plan →
          (∀ z ∈ m.nozzles, z.position = z.desc.map fun d => (m.p : Int) + m.sense * d.offset) →
          (∀ e ∈ m.queue, (m.nozzle e.nozzle).desc.isSome = true) → (m.queue.Pairwise fun u v => ¬ within u v) →
          exec (.nozzleCheck r) s = .next (s.modMrk r fun k => { k with orders := rest }))

/-- R136, R142, R143: an output is on while its position drive is on or a test is in hand, and off in LOCKED; the
position drive in its three modes; a pulse timer that expires turns its drive off, and a test timer's expiry completes
the request of the test. A pulse timer runs on where the plan has gone and then leaves the drive to the latch (log entry
26); where an upset has given the nozzle another mode it leaves the drive as it is (log entry 116). TEST and RELEASE of
a MARKER request: a TEST of a nozzle that the plan in force does not define is a BAD_PARAMETER also while an earlier
test of it runs, not BUSY (log entry 87); an action outside the two is a BAD_PARAMETER, refused by the row MARKER_TEST
(log entry 46). -/
def Obligations.NozzleOutputsFollowModesTestsAndReleases : Prop :=
  (∀ (r : Rail) (j : Nat) (s : State), j < 4 →
    let z := (s.rail r).mrk.nozzle j
    (s.nozzleOn r j = true ↔ s.device ≠ .locked ∧ (z.drive = true ∨ z.test.isSome = true))) ∧
  (∀ (z : Nozzle) (d : NozzleDesc), z.desc = some d →
    (d.mode = .spray → z.start = { z with drive := true } ∧ z.finish = { z with drive := z.latched }) ∧
    (d.mode = .latch → z.start = { z with drive := true, latched := true } ∧ z.finish = z) ∧
    (d.mode = .pulse → z.start = { z with drive := true, pulse := some d.pulseLength } ∧ z.finish = z)) ∧
  (∀ (r : Rail) (j : Nat) (z : Nozzle) (s : State), (s.rail r).mrk.nozzles[j]? = some z →
    (∀ n, z.pulse = some n → (∀ d, z.desc = some d → d.mode = .pulse) → exec (.pulseTimerExpiry r j) s = .next
      (s.modNozzle r j fun z => { z with pulse := none, drive := z.latched })) ∧
    (∀ n d, z.pulse = some n → z.desc = some d → d.mode ≠ .pulse → exec (.pulseTimerExpiry r j) s = .next
      (s.modNozzle r j fun z => { z with pulse := none })) ∧
    (z.pulse = none → exec (.pulseTimerExpiry r j) s = .next s) ∧
    ∀ k, z.test = some k → exec (.testTimerExpiry r j) s = .next
      ((s.modNozzle r j fun z => { z with test := none }).complete k.index .done .ok [])) ∧
  ∀ (q : Request) (rest : List Request) (s : State), s.req.scan = q :: rest → s.device.scans = true → q.kind = 9 →
    let u : State := { s with req := { s.req with scan := rest } }
    let j := byteAt q.params 1
    let ms := u16At q.params 4
    let bad := closeScan rest (u.refuse q .badParameter)
    (1 < byteAt q.params 2 → exec .markerTest s = .next bad) ∧
    (byteAt q.params 2 = 0 →
      (2 ≤ byteAt q.params 0 ∨ 4 ≤ j ∨ ms = 0 ∨ 2000 < ms → exec .markerTest s = .next bad) ∧
      ∀ r, railOfCode (byteAt q.params 0) = some r → j < 4 → 1 ≤ ms → ms ≤ 2000 →
        (s.inForce = true → Plan.nozzle s.plan r j = none → exec .markerTest s = .next bad) ∧
        ((s.inForce = true → (Plan.nozzle s.plan r j).isSome = true) →
          (((s.rail r).mrk.nozzle j).test.isSome = true → exec .markerTest s = .next (closeScan rest (u.refuse q .busy))) ∧
          (((s.rail r).mrk.nozzle j).test = none → exec .markerTest s = .next (closeScan rest ((u.take q).modNozzle r j
            fun z => { z with test := some { index := q.index, duration := ms } }))))) ∧
    (byteAt q.params 2 = 1 →
      (2 ≤ byteAt q.params 0 ∨ 4 ≤ j → exec .markerRelease s = .next bad) ∧
      ∀ r, railOfCode (byteAt q.params 0) = some r → j < 4 →
        let z := (s.rail r).mrk.nozzle j
        let sprays := (s.rail r).mrk.queue.any fun e => e.nozzle == j && e.state == .spraying
        let released := u.modNozzle r j fun z =>
          { z with latched := false,
                   drive := ((z.desc.map NozzleDesc.mode) == some .spray && sprays) ||
                     ((z.desc.map NozzleDesc.mode) == some .pulse && z.pulse.isSome) }
        exec .markerRelease s = .next (closeScan rest (((if z.latched then released else u).done q
          (leBool z.latched)))))

/-! ## Plan storage (chapter 2) -/

/-- R20, R27, R28: CHECK_PLAN and ACTIVATE_PLAN are answered at once by the first case that applies, or are written
TAKEN and start a load into STANDBY, which shows plan id 0 until it is PENDING (log entry 80). -/
def Obligations.PlanRequestsAreAnsweredOrStartALoad : Prop :=
  ∀ (q : Request) (rest : List Request) (s : State), s.req.scan = q :: rest → s.device.scans = true →
    let u : State := { s with req := { s.req with scan := rest } }
    let n := u32At q.params 8
    let loading (purpose : LoadPurpose) : State := closeScan rest ((u.take q).modPlans fun p =>
      { p with standby := { state := .loading, contents := [], planId := 0, codes := ⟨none, none⟩ },
               load := some { purpose := purpose, index := q.index, address := u64At q.params 0, length := n } })
    let bad := le8 1 ++ [0, 0, 0] ++ le32 0
    (q.kind = 2 →
      (s.plans.standby.state ≠ .empty → exec .checkPlan s = .next (closeScan rest (u.refuse q .busy))) ∧
      (s.plans.standby.state = .empty →
        (n < 32 ∨ 16384 < n → exec .checkPlan s = .next (closeScan rest (u.done q (bad ++ le32 0)))) ∧
        (32 ≤ n → n ≤ 16384 → exec .checkPlan s = .next (loading .check)))) ∧
    (q.kind = 1 →
      let mode := byteAt q.params 12
      (s.device = .faulted → exec .activatePlan s = .next (closeScan rest (u.refuse q .notActive))) ∧
      (s.device ≠ .faulted → 2 ≤ mode → exec .activatePlan s = .next (closeScan rest (u.refuse q .badParameter))) ∧
      (s.device ≠ .faulted → mode < 2 →
        (s.plans.standby.state ≠ .empty ∨ s.plans.stop.isSome = true →
          exec .activatePlan s = .next (closeScan rest (u.refuse q .busy))) ∧
        (s.plans.standby.state = .empty → s.plans.stop = none →
          (n < 32 ∨ 16384 < n →
            exec .activatePlan s = .next (closeScan rest (u.answer q .refused .planInvalid bad))) ∧
          (32 ≤ n → n ≤ 16384 → exec .activatePlan s = .next (loading (.activate (s.device == .active)
            (if mode = 0 then .immediate else .atPosition) (u32At q.params 16)))))))

/-- R21 to R26, R186: validation. The header's tests come first, then the firing and gate counts in their order, then
the size; the checks that follow are made in the order of the table, and of the faults a check finds the one with the
lowest offset is given. A plan without a fault has code NONE. The parts of a plan lie where its counts place them; which
parts count as complete is log entry 13, and that reserved bytes of a nozzle not defined are tested log entry 15. -/
def Obligations.ValidationGivesTheFirstFault : Prop :=
  (∀ (c : List Byte) (len : Nat),
    let tests : List (Nat × Bool) :=
      [(0, u16At c 0 == 1), (4, u32At c 4 == len), (13, decide (byteAt c 13 ≤ 8)), (14, decide (byteAt c 14 ≤ 8)),
       (15, decide (byteAt c 15 ≤ 16))]
    let gives (code : PlanFaultCode) (o : Nat) : Prop := validate c len = (code, o)
    let wrong (p : Nat) : Prop := len ≤ p ∨ byteAt c p = 0 ∨ 4 < byteAt c p
    let places := Plan.countPlaces c
    let later : List PlanFaultCode :=
      [.range, .groupUndefined, .channelConflict, .gateWindow, .gateRole, .noShots, .factor, .classRule, .nozzle]
    (∀ i o, tests[i]? = some (o, false) → (∀ (j : Nat) x, j < i → tests[j]? = some x → x.2 = true) → gives .badLayout o) ∧
    ((∀ x ∈ tests, x.2 = true) →
      (∀ i p, places[i]? = some p → wrong p → (∀ (j : Nat) q, j < i → places[j]? = some q → ¬ wrong q) →
        (p < len → gives .badLayout p) ∧ (len ≤ p → ∀ o, Plan.lastPart c len o → gives .badLayout o)) ∧
      ((∀ p ∈ places, ¬ wrong p) →
        (len < Plan.size c → ∀ o, Plan.lastPart c len o → gives .badLayout o) ∧
        (Plan.size c < len → gives .badLayout 4) ∧
        (Plan.size c = len →
          (∀ i code o, later[i]? = some code → Plan.faultAt c code o → (∀ o', Plan.faultAt c code o' → o ≤ o') →
            (∀ (j : Nat) code' o', j < i → later[j]? = some code' → ¬ Plan.faultAt c code' o') → gives code o) ∧
          ((∀ code ∈ later, ∀ o, ¬ Plan.faultAt c code o) → gives .none 0))))) ∧
  ∀ c : List Byte,
    let shots := Plan.shots c .A ++ Plan.shots c .B
    (Plan.shots c .A).length = byteAt c 13 ∧ (Plan.shots c .B).length = byteAt c 14 ∧
    ∀ (i : Nat) (s : ShotDesc), shots[i]? = some s →
      s.offset = 704 + 32 * byteAt c 15 + ((shots.take i).map ShotDesc.bytes).sum ∧ s.listen = u16At c s.offset ∧
      s.firings.length = byteAt c (s.offset + 2) ∧ ∀ (k : Nat) (f : FiringDesc), s.firings[k]? = some f →
        f.offset = s.offset + 4 + ((s.firings.take k).map FiringDesc.bytes).sum ∧ f.element = byteAt c f.offset ∧
        f.channel = byteAt c (f.offset + 1) ∧ f.gates.length = byteAt c (f.offset + 2) ∧
        ∀ (n : Nat) (g : GateDesc), f.gates[n]? = some g →
          g.offset = f.offset + 4 + 8 * n ∧ g.threshold = byteAt c (g.offset + 2) ∧ g.start = u16At c (g.offset + 4) ∧
          g.length = u16At c (g.offset + 6) ∧ (byteAt c g.offset = 0 → g.role = .flaw) ∧
          (byteAt c g.offset = 1 → g.role = .coupling) ∧ (byteAt c g.offset = 2 → g.role = .backwall) ∧
          (byteAt c (g.offset + 1) = 0 → g.mode = .first) ∧ (byteAt c (g.offset + 1) = 1 → g.mode = .peak)

/-- R20, R27 to R31: how a load ends. A check is answered with its fault; an activation with a fault is REFUSED, and
without one its plan becomes PENDING: from BOUND it comes into force at once and is written DONE with the plan id and T,
and from ACTIVE it waits for its switch point or begins the switch, which cancels snapshots in flight (R168); where the
point is reached and the device is not ACTIVE or another switch runs, it is noted. One for a switch that ends in BOUND
finds nothing to switch from and is REFUSED with CANCELLED (log entry 24). An activation first takes what is left of an
earlier plan, sets the elements in the same step (log entry 28), and raises and clears by the new levels before the
device is ACTIVE, as R30 orders it. Bytes beyond the length asked for are cut off and missing ones read as 0 (log entry
49). The request is written DONE before the status area is rewritten (log entry 51), and the COUPLING records of rail A
come before those of rail B (log entry 83). Snapshots cancelled at one moment are written rail A before rail B (log
entry 121), and a STATE message comes behind the status rewrite of its change (log entry 129). -/
def Obligations.LoadsEndInAnAnswerOrAPendingPlan : Prop :=
  ∀ (l : Load) (bytes : List Byte) (s : State), s.plans.load = some l →
    let c := fitBytes l.length bytes
    let fault := validate c l.length
    let dropped := s.modPlans fun p => { p with load := none, standby := .cleared }
    let words := le8 fault.1.code ++ [0, 0, 0] ++ le32 fault.2
    let code (r : Rail) := some (Plan.checkCode c r)
    let pending (a : PendingActivation) : State := s.modPlans fun p =>
      { p with load := none, pendingActivation := some a, standby :=
          { state := .pending, contents := c, planId := Plan.planId c, codes := ⟨code .A, code .B⟩ } }
    let does (w : State) := exec (.planLoadComplete bytes) s = .next w
    exec .planLoadError s = .next ((dropped.complete l.index .refused .hostMemory []).raiseReport .planStore .contextFault
      (.block .planStore)) ∧
    (l.purpose = .check → does (dropped.complete l.index .done .ok
      (words ++ le32 (if fault.1 = .badLayout then 0 else Plan.planId c)))) ∧
    ∀ origin mode position, l.purpose = .activate origin mode position →
      let a : PendingActivation :=
        { index := l.index, fromActive := origin, mode := mode, position := position, reached := false }
      let beyond := decide (s.pos.dir = .increasing ∧ position ≤ s.pos.p ∨ s.pos.dir = .decreasing ∧ s.pos.p ≤ position)
      (fault.1 ≠ .none → does (dropped.complete l.index .refused .planInvalid words)) ∧
      (fault.1 = .none → origin = false → s.device ≠ .bound → does (pending a)) ∧
      (fault.1 = .none → origin = false → s.device = .bound →
        let v := (pending a).takeAllEndings
        let asked (r : Rail) (e : Nat) : CouplingState := if Plan.hasGate c r e .coupling then .unknown else .unmonitored
        let elements (r : Rail) : List ElementRecord := (List.range 12).map fun e =>
          .fresh (if (v.rail r).seq.lift then .lifted else asked r e)
        let rail (r : Rail) (b : RailBlocks) : RailBlocks :=
          { b with
            seq := { b.seq with
              state := if b.seq.lift then .lifted else if b.link.state = .down then .linkDown else .waiting
              counters := .zero
              nextMark := min 4294967295 (s.pos.t + Plan.step c r)
              surveyMark := min 4294967295 (s.pos.t + Plan.surveyInterval c) }
            link := { b.link with presence := true, good := 0, upSinceEntry := false }
            eval := { b.eval with wedge := 0, beyond := 0 }
            trk := { b.trk with lost := 0 }
            mrk := { b.mrk with
              sense := Plan.sense c
              nozzles := (indexed b.mrk.nozzles).map fun x =>
                let d := if x.1 < 4 then Plan.nozzle c r x.1 else none
                { x.2 with desc := d, position := d.map fun d => (b.mrk.p : Int) + Plan.sense c * d.offset } } }
        let w := ({ v with plans := { v.plans with
          active := { state := .valid, contents := c, planId := Plan.planId c, codes := ⟨code .A, code .B⟩ }
          standby := .cleared
          pendingActivation := none } } : State).setSoftLevels (Plan.alarmLevels c)
        (∀ r, v.coupling.carriage.get r = [] ∧ (v.coupling.elements.get r).length = 12) →
          does (({ w with
            device := .active
            rails := ⟨rail .A v.rails.a, rail .B v.rails.b⟩
            coupling := { v.coupling with elements := ⟨elements .A, elements .B⟩, suppressed := ⟨0, 0⟩, lossFlag := false }
            jrn := { w.jrn with presented :=
              w.jrn.presented ++ (v.lossRecords .A .planSwitch ++ v.lossRecords .B .planSwitch) }
            alarm := { w.alarm with reports := w.alarm.reports ++
              if v.coupling.lossFlag then [(Raiser.couplingMonitor, Report.condEnd .couplingLoss none)] else [] }
          }.complete l.index .done .ok (le32 (Plan.planId c) ++ le32 s.pos.t)).announce)) ∧
      (.planEnded ∉ s.coupling.orders → (∀ r, (s.rail r).eval.release = [] ∧ (s.rail r).trk.hits = [] ∧
        (s.rail r).trk.path = [] ∧ (s.rail r).asm.job = none ∧ .planEnded ∉ (s.rail r).trk.orders ∧
        .planEnded ∉ (s.rail r).mrk.orders ∧ .planEnded ∉ (s.rail r).asm.orders) →
          (pending a).takeAllEndings = pending a) ∧
      (fault.1 = .none → origin = true → s.device = .bound → does (dropped.complete l.index .refused .cancelled [])) ∧
      (fault.1 = .none → origin = true → s.device ≠ .bound → mode = .atPosition → beyond = false → does (pending a)) ∧
      (fault.1 = .none → origin = true → s.device ≠ .bound → mode = .immediate ∨ beyond = true →
        s.device ≠ .active ∨ s.plans.protocol.isSome = true → does (pending { a with reached := true })) ∧
      (fault.1 = .none → origin = true → s.device = .active → mode = .immediate ∨ beyond = true →
        s.plans.protocol = none →
        let hold (b : RailBlocks) : RailBlocks := { b with seq := { b.seq with orders := b.seq.orders ++ [.hold] } }
        let x : SwitchProtocol :=
          { index := l.index, step := 1, held := ⟨false, false⟩, flushed := ⟨false, false⟩, swapT := 0 }
        does (State.snapshotsCancelled
          { (pending { a with reached := true }).modPlans (fun p => { p with protocol := some x }) with
            rails := ⟨hold s.rails.a, hold s.rails.b⟩ }))

/-- R31 to R34: the steps of a switch. A sweep step begins the protocol of a switch whose position is reached, and
cancels snapshots in flight (R168); a rail held is ordered cut; flush done on both rails swaps the banks, unless the
device is FAULTED, and orders the coupling reset and the nozzle check; the reset done releases both holds and completes
the request. A STOP that waited begins then, and else a further switch whose point is reached (log entry 64). The step
numbers shown are log entry 25, that a switch goes on in every state but LOCKED is log entry 65, and that the swap
rewrites the status area and sets the STATE cause is section 2.10 and log entry 23. Snapshots are cancelled rail A
before rail B, behind the DONE of the switch before (log entry 121), and the STATE message of the swap comes behind its
status rewrite (log entry 129). -/
def Obligations.SwitchStepsFollowTheirReports : Prop :=
  ∀ (r : Rail) (n : Nat) (s : State),
    let hold (o : SeqOrder) (b : RailBlocks) : RailBlocks := { b with seq := { b.seq with orders := b.seq.orders ++ [o] } }
    let started (index : Nat) : SwitchProtocol :=
      { index := index, step := 1, held := ⟨false, false⟩, flushed := ⟨false, false⟩, swapT := 0 }
    let others (f : Both Bool) : Bool := f.get (match r with | .A => .B | .B => .A)
    (s.plans.stepReports.get r = n + 1 →
      let u := s.modPlans fun p => { p with stepReports := p.stepReports.set r n }
      (s.plans.pendingActivation = none → exec (.sweepStepReport r) s = .next u) ∧
      ∀ a, s.plans.pendingActivation = some a → a.fromActive = true → a.reached = false → a.mode = .atPosition →
        let beyond : Prop := s.pos.dir = .increasing ∧ a.position ≤ s.pos.p ∨ s.pos.dir = .decreasing ∧ s.pos.p ≤ a.position
        (¬ beyond → exec (.sweepStepReport r) s = .next u) ∧
        (beyond → s.device ≠ .active ∨ s.plans.protocol.isSome = true → exec (.sweepStepReport r) s = .next
          (u.modPlans fun p => { p with pendingActivation := some { a with reached := true } })) ∧
        (beyond → s.device = .active → s.plans.protocol = none →
          exec (.sweepStepReport r) s = .next (State.snapshotsCancelled { u.modPlans (fun p =>
            { p with pendingActivation := some { a with reached := true }, protocol := some (started a.index) }) with
            rails := ⟨hold .hold s.rails.a, hold .hold s.rails.b⟩ }))) ∧
    ∀ x, s.plans.protocol = some x → s.device ≠ .locked →
      (s.plans.heldReports.get r = n + 1 → x.step < 4 → x.held.get r = false → exec (.railHeldReport r) s = .next
        ((s.modPlans fun p => { p with heldReports := p.heldReports.set r n,
                                       protocol := some { x with held := x.held.set r true, step := max 2 x.step } }).modTrk r
          fun k => { k with orders := k.orders ++ [.cut] })) ∧
      (s.plans.switchDone.get r = n + 1 → x.step < 4 →
        let y := { x with flushed := x.flushed.set r true, step := max 3 x.step }
        let u := s.modPlans fun p => { p with switchDone := p.switchDone.set r n, protocol := some y }
        (others x.flushed = false ∨ s.device = .faulted → exec (.switchFlushDone r) s = .next u) ∧
        (others x.flushed = true → s.device = .active →
          let plan := s.plans.standby.contents
          let rail (r : Rail) (b : RailBlocks) : RailBlocks :=
            { b with seq := { b.seq with nextMark := min 4294967295 (s.pos.t + Plan.step plan r),
                                         surveyMark := min 4294967295 (s.pos.t + Plan.surveyInterval plan) },
                     mrk := { b.mrk with orders := b.mrk.orders ++ [.nozzleCheck] } }
          let swapped := (u.modPlans fun p => { p with active := { p.standby with state := .valid }, standby := .cleared,
                                                       pendingActivation := none }).setSoftLevels (Plan.alarmLevels plan)
          exec (.switchFlushDone r) s = .next { swapped with
            plans := { swapped.plans with protocol := some { y with step := 6, swapT := s.pos.t } }
            coupling := { s.coupling with orders := s.coupling.orders ++ [CouplingOrder.planReset] }
            rails := ⟨rail .A s.rails.a, rail .B s.rails.b⟩ }.announce)) ∧
      (s.plans.resetDone = n + 1 → 4 ≤ x.step →
        let done := ({ s with rails := ⟨hold .release s.rails.a, hold .release s.rails.b⟩ }.complete
          x.index .done .ok (le32 s.plans.active.planId ++ le32 x.swapT)).modPlans fun p =>
            { p with resetDone := n, protocol := none }
        let reached (a : PendingActivation) : Prop := a.fromActive = true ∧ a.reached = true ∧ s.device = .active
        let does (w : State) := exec .couplingResetDone s = .next w
        (s.plans.stop = none → (∀ a, s.plans.pendingActivation = some a → ¬ reached a) → does done) ∧
        (∀ y, s.plans.stop = some y →
          let stops (b : RailBlocks) : RailBlocks :=
            { hold .hold b with asm := { b.asm with orders := b.asm.orders ++ [.stopBegun] } }
          does (State.snapshotsCancelled { done.modPlans (fun p => { p with stop := some { y with begun := true } }) with
            rails := ⟨stops done.rails.a, stops done.rails.b⟩ })) ∧
        ∀ a, s.plans.stop = none → s.plans.pendingActivation = some a → reached a →
          does (State.snapshotsCancelled { done.modPlans (fun p => { p with protocol := some (started a.index) }) with
            rails := ⟨hold .hold done.rails.a, hold .hold done.rails.b⟩ }))

/-- R35, R36: the steps of a stop. The request is written TAKEN; a switch not begun, and a load for an activation, are
REFUSED with CANCELLED, while a load for a check goes on; and both rails are ordered to hold, with snapshots in flight
cancelled (R168), where no switch runs, and else after it (R34); a rail held is ordered to close with FLUSHED; its flush
done orders the purge; and the second purge empties the ACTIVE bank, turns the Sequencers OFF, leaves the device BOUND
and writes STOP DONE. The step numbers shown are log entry 25, and that steps 5 and 6 fall inside the second purge is
log entry 27. The snapshots are cancelled rail A before rail B, behind the TAKEN and the requests cancelled (log entry
121). -/
def Obligations.StopRunsItsSteps : Prop :=
  ∀ (r : Rail) (n : Nat) (s : State),
    let start (begun : Bool) (q : Request) : StopInProgress :=
      { index := q.index, begun := begun, step := 1, held := ⟨false, false⟩, flushed := ⟨false, false⟩,
        purged := ⟨false, false⟩ }
    let begin_ (b : RailBlocks) : RailBlocks :=
      { b with seq := { b.seq with orders := b.seq.orders ++ [.hold] }, asm := { b.asm with orders := b.asm.orders ++ [.stopBegun] } }
    (∀ q rest, s.req.scan = q :: rest → s.device.scans = true → q.kind = 3 →
      let u : State := { s with req := { s.req with scan := rest } }
      (s.device ≠ .active → exec .stop s = .next (closeScan rest (u.refuse q .notActive))) ∧
      (s.device = .active → s.plans.stop.isSome = true → exec .stop s = .next (closeScan rest (u.refuse q .busy))) ∧
      (s.device = .active → s.plans.stop = none →
        let running := s.plans.protocol.any fun x => decide (x.step < 4)
        let unswitched (w : State) : State :=
          match s.plans.pendingActivation with
          | none => w
          | some a =>
            if a.fromActive && !running then
              (w.modPlans fun p => { p with pendingActivation := none, standby := .cleared }).complete a.index .refused
                .cancelled []
            else w
        let unloaded (w : State) : State :=
          match s.plans.load with
          | none => w
          | some l =>
            match l.purpose with
            | .check => w
            | .activate _ _ _ =>
              (w.modPlans fun p => { p with load := none, standby := .cleared }).complete l.index .refused .cancelled []
        let taken (begun : Bool) :=
          unloaded (unswitched ((u.take q).modPlans fun p => { p with stop := some (start begun q) }))
        (s.plans.protocol.isSome = true → exec .stop s = .next (closeScan rest (taken false))) ∧
        (s.plans.protocol = none → exec .stop s = .next
          (closeScan rest (State.snapshotsCancelled { taken true with rails := ⟨begin_ s.rails.a, begin_ s.rails.b⟩ }))))) ∧
    ∀ x, s.plans.stop = some x → s.device ≠ .locked →
      (s.plans.heldReports.get r = n + 1 → s.plans.protocol = none → x.begun = true → x.held.get r = false →
        exec (.railHeldReport r) s = .next ((s.modPlans fun p =>
          { p with heldReports := p.heldReports.set r n,
                   stop := some { x with held := x.held.set r true, step := max 2 x.step } }).modTrk r fun k =>
            { k with orders := k.orders ++ [.stop] })) ∧
      (s.plans.stopDone.get r = n + 1 → exec (.stopFlushDone r) s = .next ((s.modPlans fun p =>
        { p with stopDone := p.stopDone.set r n,
                 stop := some { x with flushed := x.flushed.set r true, step := max 4 x.step } }).modMrk r fun k =>
          { k with orders := k.orders ++ [.stopPurge] })) ∧
      (∀ rest, (s.rail r).mrk.orders = .stopPurge :: rest → (∀ other, other ≠ r → x.purged.get other = true) →
        ∃ t, exec (.markerStopPurge r) s = .next t ∧ t.device = (if s.device = .faulted then .faulted else .bound) ∧
          (s.device = .faulted → t.alarm.remembered = some .bound) ∧ t.plans.active = .cleared ∧ t.plans.stop = none ∧
          t.pos = s.pos ∧ t.coupling = { s.coupling with orders := s.coupling.orders ++ [.planEnded] } ∧
          (s.device ≠ .faulted → t.req.snapshot = ⟨none, none⟩) ∧
          (x.index < 8 → s.req.issued.length = 8 → (∀ o k, s.req.snapshot.get o = some k → k.index ≠ x.index) →
            t.req.taken.getD x.index none = none ∧ t.bus.causes.request = true ∧
              ∃ w, t.req.issued.getD x.index none = some w ∧ w.write.state = .done ∧ w.write.code = .ok ∧
                t.bus.trace[w.start + 3]? = some (.write (s.bus.context + 256 + 64 * x.index) (le8 ReqState.done.code))) ∧
          (t.rail r).mrk.queue = [] ∧ (s.alarm.sources.length = 15 → ∀ i, i < 12 →
            (t.alarm.sources.getD i (.cleared 0)).level = 4) ∧
          ∀ o, (t.rail o).seq.state = .off ∧ (t.rail o).seq.held = false ∧ (t.rail o).asm.stopping = false ∧
            (t.rail o).shot = none ∧ ∀ z ∈ (t.rail o).mrk.nozzles, z.desc = none ∧ z.position = none)

/-! ## Requests and the status area (chapter 10) -/

/-- R37, R164 to R166: a scan first repeats every pending entry write in index order (log entry 127), then puts the
requests posted in line, in index order, and skips the indices held: those taken, but for one whose DONE or REFUSED it
has just repeated (log entry 108). One that reads none, or cannot read, ends at once with the status area rewritten. A
repeated write sets REQUEST whatever it writes (log entry 50). An unknown kind is REFUSED, and SENSITIVITY sets the
rail's offset and answers with the one before. Outside the states that scan, or with the timer not running, the expiry
has no cause and changes nothing (log entry 1). -/
def Obligations.ScansTakeThePostedRequests : Prop :=
  (∀ (table : Option (List Byte)) (s : State),
    (s.device.scans = false ∨ s.req.scanTimer = false → exec (.scanTimerExpiry table) s = .next s) ∧
    (s.device.scans = true → s.req.scanTimer = true →
      let u := (List.range 8).foldl (fun u i => match s.req.pendingWrites.getD i none with
        | none => u
        | some w => u.issueEntry i w true) (s.modReq fun q => { q with scanTimer := false })
      let held (i : Nat) : Bool := (s.req.taken.getD i none).isSome &&
        (s.req.pendingWrites.getD i none).all fun w => w.state == .taken
      (s.req.pendingWrites = List.replicate 8 none → u = s.modReq fun q => { q with scanTimer := false }) ∧
      let ended (w : State) : State := w.rewriteStatus.modReq fun q => { q with scanTimer := true }
      (table = none → exec (.scanTimerExpiry table) s =
        .next (ended (u.raiseReport .requestHandler .contextFault (.block .requestHandler)))) ∧
      ∀ bytes, table = some bytes →
        let posted := (List.range 8).filter fun i => byteAt bytes (64 * i) == 1 && !held i
        let read (i : Nat) : Request :=
          { index := i, kind := byteAt bytes (64 * i + 1), tag := u16At bytes (64 * i + 2),
            params := (bytes.drop (64 * i + 8)).take 32 }
        bytes.length = 512 → exec (.scanTimerExpiry table) s = .next
          (if posted = [] then ended u else u.modReq fun q => { q with scan := posted.map read }))) ∧
  ∀ (q : Request) (rest : List Request) (s : State), s.req.scan = q :: rest → s.device.scans = true →
    let u : State := { s with req := { s.req with scan := rest } }
    let offset := i8At q.params 1
    (q.kind = 0 ∨ 10 < q.kind → exec .unknownKind s = .next (closeScan rest (u.refuse q .unknownKind))) ∧
    (q.kind = 10 →
      (2 ≤ byteAt q.params 0 ∨ offset < -64 ∨ 64 < offset →
        exec .sensitivity s = .next (closeScan rest (u.refuse q .badParameter))) ∧
      ∀ r, railOfCode (byteAt q.params 0) = some r → -64 ≤ offset → offset ≤ 64 → exec .sensitivity s = .next
        (closeScan rest ((u.modEval r fun v => { v with offset := offset }).done q (leInt8 (s.rail r).eval.offset))))

/-- R110: FLUSH is REFUSED outside ACTIVE and while another is in hand; else it is recorded, written TAKEN and ordered
of both correlators. It completes with the counts of both rails when the second reports flush done on its tag. -/
def Obligations.FlushWaitsForBothRails : Prop :=
  (∀ (q : Request) (rest : List Request) (s : State), s.req.scan = q :: rest → s.device.scans = true → q.kind = 4 →
    let u : State := { s with req := { s.req with scan := rest } }
    (s.device ≠ .active → exec .flush s = .next (closeScan rest (u.refuse q .notActive))) ∧
    (s.device = .active → s.req.flush.isSome = true → exec .flush s = .next (closeScan rest (u.refuse q .busy))) ∧
    (s.device = .active → s.req.flush = none →
      let order (b : RailBlocks) : RailBlocks := { b with trk := { b.trk with flushOrders := b.trk.flushOrders ++ [q.tag] } }
      let w := (u.take q).modReq fun h =>
        { h with flush := some { index := q.index, tag := q.tag, counts := ⟨(0, 0), (0, 0)⟩, done := ⟨false, false⟩ } }
      exec .flush s = .next (closeScan rest { w with rails := ⟨order s.rails.a, order s.rails.b⟩ }))) ∧
  ∀ (r : Rail) (tag : Nat) (rest : List Nat) (s : State), s.req.flushDone.get r = tag :: rest →
    let u := s.modReq fun q => { q with flushDone := q.flushDone.set r rest }
    (s.req.flush = none → exec (.flushDoneReport r) s = .next u) ∧
    ∀ f, s.req.flush = some f →
      (f.tag ≠ tag → exec (.flushDoneReport r) s = .next u) ∧
      (f.tag = tag → (∀ o, o ≠ r → f.done.get o = false) → exec (.flushDoneReport r) s = .next (u.modReq fun q =>
        { q with flush := some { f with done := f.done.set r true } })) ∧
      (f.tag = tag → (∀ o, o ≠ r → f.done.get o = true) → exec (.flushDoneReport r) s = .next
        ((u.modReq fun q => { q with flush := none }).complete f.index .done .ok
          (le16 f.counts.a.1 ++ le16 f.counts.a.2 ++ le16 f.counts.b.1 ++ le16 f.counts.b.2)))

/-- R167, R168: SNAPSHOT is answered by the first case that applies, and its capture, a write error or sixteen sweeps
without a capture end it. A shot in flight as the request is taken is not copied (log entry 55). The row of sixteen
sweeps changes nothing beside a capture, or while the sweeps are fewer (log entry 1). In LOCKED, too, a write under way
completes or fails, the failure raising CONTEXT_FAULT, and the completion is kept (log entry 111). The samples stand in
the trace as their write completes (log entry 110), and nothing of a write that fails does (log entry 109). -/
def Obligations.SnapshotsAreTakenWrittenAndEnded : Prop :=
  (∀ (q : Request) (rest : List Request) (s : State), s.req.scan = q :: rest → s.device.scans = true → q.kind = 8 →
    let u : State := { s with req := { s.req with scan := rest } }
    let element := byteAt q.params 1
    let capacity := u32At q.params 4
    let destination := u64At q.params 8
    let does (w : State) := exec .snapshot s = .next (closeScan rest w)
    (s.device ≠ .active → does (u.refuse q .notActive)) ∧
    (s.device = .active → 2 ≤ byteAt q.params 0 ∨ 12 ≤ element ∨ destination % 64 ≠ 0 ∨ capacity = 0 →
      does (u.refuse q .badParameter)) ∧
    ∀ r, s.device = .active → railOfCode (byteAt q.params 0) = some r → element < 12 → destination % 64 = 0 →
      0 < capacity →
        (Plan.fired s.plan r element = false → does (u.refuse q .notInPlan)) ∧
        (Plan.fired s.plan r element = true → (s.req.snapshot.get r).isSome = true → does (u.refuse q .busy)) ∧
        (Plan.fired s.plan r element = true → s.req.snapshot.get r = none →
          let x : Snapshot :=
            { index := q.index, element := element, destination := destination, capacity := capacity, sweeps := 0,
              capture := none }
          let uncopied (x : Shot) : Shot := { x with firings := x.firings.map fun f => { f with copying := false, copied := [] } }
          does (((u.take q).modReq fun h => { h with snapshot := h.snapshot.set r (some x) }).modRail r fun b =>
            { b with shot := b.shot.map uncopied }))) ∧
  ∀ (r : Rail) (x : Snapshot) (s : State), s.req.snapshot.get r = some x →
    let ended (u : State) (state : ReqState) (code : ResultCode) (words : List Byte) : State :=
      (u.modReq fun q => { q with snapshot := q.snapshot.set r none }).complete x.index state code words
    (∀ c, x.capture = some c →
      let samples := c.samples.take x.capacity
      exec (.snapshotWriteComplete r) s = .next (ended (s.issue [.write x.destination samples]) .done .ok
        (le32 samples.length ++ le32 c.pc ++ [c.seq])) ∧
      exec (.snapshotWriteError r) s = .next ((ended s .refused .hostMemory []).raiseReport .requestHandler .contextFault
        (.block .requestHandler)) ∧
      exec (.snapshotNoCleanFiring r) s = .next s) ∧
    (x.capture = none → x.sweeps < 16 → exec (.snapshotNoCleanFiring r) s = .next s) ∧
    (x.capture = none → 16 ≤ x.sweeps → exec (.snapshotNoCleanFiring r) s = .next (ended s .done .noCleanFiring []))

/-- R166, R169, R179, R184: an entry write puts the result code, the words and the tag and then the state, and a
completion or a repeated write joins those the REQUEST cause stands for and sets it (log entry 50); in LOCKED a
completion is kept unwritten. Issued accesses stand at once (log entry 11), and an error takes back what did not land
(log entry 12): of an entry write, with the cause where it stood for that write alone, with the message moved behind the
first of the others where it came first, and with the index shown held in the status areas written since; the write is
kept to be repeated, but for one beside a completion that fell due in LOCKED (log entry 92), and a scan that so loses
its last entry ends. A failed rewrite of the status area is abandoned. An error with no write issued changes nothing
(log entry 1). Both raise CONTEXT_FAULT. A rewrite raises the number by 1 and writes it at the head, the contents, and
the number at the tail. The LINK_DOWN mask shows rail A in bit 0 and rail B in bit 1 (log entry 115). The gap state
shown is that of the GAP being written, where one is (log entry 120). An error names the last write issued for its index
(log entry 128). -/
def Obligations.EntryAndStatusWritesLandInOrderOrFail : Prop :=
  (∀ (i : Nat) (state : ReqState) (code : ResultCode) (words : List Byte) (s : State), state = .done ∨ state = .refused →
    let w : EntryWrite :=
      { state := state, code := code, words := words, tag := ((s.req.taken.getD i none).map Request.tag).getD 0 }
    (s.device = .locked → s.complete i state code words = s.modReq fun q =>
      { q with pendingWrites := q.pendingWrites.set i (some w) }) ∧
    (s.device ≠ .locked → s.complete i state code words = s.issueEntry i w false)) ∧
  (∀ (i : Nat) (w : EntryWrite) (repeated : Bool) (s : State),
    let base := s.bus.context + 256 + 64 * i
    let accesses : List BusAction :=
      (if w.state = .taken then [] else
        [.write (base + 4) (le8 w.code.code ++ [0, 0, 0]), .write (base + 40) (fitBytes 16 w.words),
         .write (base + 2) (le16 w.tag)]) ++ [.write base (le8 w.state.code)]
    let start := s.bus.trace.length
    let u : State :=
      { s with
        bus := { s.bus with trace := s.bus.trace ++ accesses }
        req := { s.req with
          pendingWrites := s.req.pendingWrites.set i none
          taken := if w.state = .taken then s.req.taken else s.req.taken.set i none
          issued := s.req.issued.set i (some { write := w, start := start, count := accesses.length }) } }
    s.issueEntry i w repeated = if w.state = .taken ∧ repeated = false then u else (u.modReq fun q =>
      { q with announced := (if s.bus.causes.request then q.announced else []) ++ [(start, start + accesses.length)] }).setCause
        .request) ∧
  (∀ (i landed : Nat) (s : State),
    (s.req.issued.getD i none = none → exec (.entryWriteError i landed) s = .next s) ∧
    ∀ w, s.req.issued.getD i none = some w →
      let kept := w.start + min landed (w.count - 1)
      let stop := w.start + w.count
      let trace := s.bus.trace.take kept ++
        List.replicate (min (stop - kept) (s.bus.trace.length - kept)) .void ++ s.bus.trace.drop stop
      let held (a : BusAction) : BusAction := match a with
        | .write b bytes => .write b (if b = s.bus.context + 0x304 then
            bytes.modify 0x60 fun v => v ||| BitVec.ofNat 8 (2 ^ i) else bytes)
        | _ => a
      let shown := trace.take w.start ++ (trace.drop w.start).map held
      let others := s.req.announced.filter fun x => x.1 != w.start
      let told := decide (shown[stop]? = some (.message .request))
      let scan := s.req.scan.filter fun q => q.index != i
      let failed (causes : AttnBits) (trace : List BusAction) (place : Nat → Nat) (close : Nat × Nat → Nat) : State :=
        let u : State := { s with
          bus := { s.bus with causes := causes, trace := trace }
          req := { s.req with
            pendingWrites := s.req.pendingWrites.set i (some ((s.req.pendingWrites.getD i none).getD w.write))
            issued := (s.req.issued.map fun o => o.map fun v => { v with start := place v.start }).set i none
            announced := others.map fun x => (place x.1, close x)
            statusIssued := s.req.statusIssued.map place
            scan := scan } }
        let v := u.raiseReport .requestHandler .contextFault (.block .requestHandler)
        if s.device.scans = true ∧ scan = [] ∧ s.req.scan ≠ [] then v.endScan else v
      let does (u : State) := exec (.entryWriteError i landed) s = .next u
      ((∀ x ∈ s.req.announced.head?, x.1 ≠ w.start) → does (failed s.bus.causes shown id Prod.snd)) ∧
      (∀ x ∈ s.req.announced.head?, x.1 = w.start →
        (others = [] → does (failed { s.bus.causes with request := false }
          (if told then shown.take stop ++ [.void] ++ shown.drop (stop + 1) else shown) id Prod.snd)) ∧
        ∀ y ys, others = y :: ys →
          (told = false → does (failed s.bus.causes shown id Prod.snd)) ∧
          (told = true → does (failed s.bus.causes
            (shown.take stop ++ (shown.take y.2).drop (stop + 1) ++ [.message .request] ++ shown.drop y.2)
            (fun n => if stop < n ∧ n < y.2 then n - 1 else n)
            (fun x => if x.2 = y.2 then y.2 - 1 else if stop < x.2 ∧ x.2 < y.2 then x.2 - 1 else x.2))))) ∧
  (∀ (back landed : Nat) (s : State),
    (s.req.statusIssued[back]? = none → exec (.statusWriteError ⟨back, landed⟩) s = .next s) ∧
    ∀ start, s.req.statusIssued[back]? = some start →
      let kept := start + min landed 2
      let trace := s.bus.trace.take kept ++ List.replicate (min (start + 3 - kept) (s.bus.trace.length - kept)) .void ++
        s.bus.trace.drop (start + 3)
      exec (.statusWriteError ⟨back, landed⟩) s = .next ({ s with
        bus := { s.bus with trace := trace }
        req := { s.req with statusIssued := s.req.statusIssued.eraseIdx back } }.raiseReport .busInterface .contextFault
          (.block .busInterface))) ∧
  ∀ s : State,
    let number := s.req.rewrite + 1
    ∃ contents, s.rewriteStatus =
      { s with
        bus := { s.bus with trace := s.bus.trace ++
          [.write (s.bus.context + 0x300) (le32 number.toNat), .write (s.bus.context + 0x304) contents,
           .write (s.bus.context + 0x3D4) (le32 number.toNat)] }
        req := { s.req with rewrite := number, statusIssued := s.bus.trace.length :: s.req.statusIssued } } ∧
      let at_ (offset : Nat) (bytes : List Byte) : Prop := (contents.drop (offset - 0x304)).take bytes.length = bytes
      let none255 (x : Option Nat) : List Byte := le8 (x.getD 255)
      at_ 0x304 (le8 s.device.code ++ none255 (s.alarm.remembered.map OpState.code) ++
        none255 (s.alarm.lockPair.map Prod.fst) ++ none255 (s.alarm.lockPair.map Prod.snd)) ∧
      at_ 0x308 (le32 s.pos.p ++ le32 s.pos.t ++ le8 s.pos.dir.code ++ le8 s.pos.score ++ leBool s.pos.armed.isSome) ∧
      at_ 0x314 (le32 ((s.pos.armed.map ArmedPreset.value).getD 0)) ∧
      at_ 0x318 (le8 s.plans.active.state.code ++ le8 s.plans.standby.state.code ++
        le8 (match s.plans.pendingActivation with | none => 0 | some a => if a.reached then 2 else 1) ++
        le8 ((s.plans.protocol.map SwitchProtocol.step).getD 0) ++ le32 s.plans.active.planId ++
        le32 s.plans.standby.planId ++ le8 ((s.plans.stop.map StopInProgress.step).getD 0)) ∧
      (∀ r, at_ (match r with | .A => 0x328 | .B => 0x338)
        (let b := s.rail r
         let tracks (st : TrackState) := (b.trk.table.filter fun k => k.any fun x => x.state == st).length
         le8 b.seq.state.code ++ leBool b.seq.held ++ le8 b.link.state.code ++ leInt8 b.eval.offset ++ le16 b.eval.wedge ++
           le16 b.eval.beyond ++ le16 (s.coupling.suppressed.get r) ++ le8 (tracks .tentative) ++
           le8 (tracks .confirmed) ++ le16 b.trk.lost ++ le8 b.asm.list.length ++ le8 b.mrk.queue.length)) ∧
      ((∀ r, (s.coupling.elements.get r).length = 12) →
        at_ 0x348 ((s.coupling.elements.a ++ s.coupling.elements.b).flatMap fun x => le8 x.state.code) ∧
        at_ 0x360 (le8 ((s.coupling.elements.a ++ s.coupling.elements.b).filter fun x => x.state == .lost).length) ∧
        (∀ j, j < 8 → let r := if j < 4 then Rail.A else Rail.B
          ((contents.getD (0x361 - 0x304) 0).getLsbD j = s.nozzleOn r (j % 4) ∧
            (contents.getD (0x362 - 0x304) 0).getLsbD j = ((s.rail r).mrk.nozzles.getD (j % 4) .cleared).latched ∧
            (contents.getD (0x364 - 0x304) 0).getLsbD j =
              ((s.req.taken.getD j none).isSome || (s.req.pendingWrites.getD j none).isSome))) ∧
        at_ 0x363 (le8 ((if s.req.snapshot.a.isSome then 1 else 0) + if s.req.snapshot.b.isSome then 2 else 0)) ∧
        at_ 0x368 (le32 s.indicationCounter ++ le8 s.alarm.alarmLevel ++ none255 s.alarm.topSource ++
          le8 ((if s.alarm.linkMask.a then 1 else 0) + if s.alarm.linkMask.b then 2 else 0)) ∧
        at_ 0x370 (le16 s.alarm.suppression ++ le16 s.alarm.suppressedCount) ∧
        (s.alarm.sources.length = 15 → s.jrn.gap.counts.length = 8 →
          (∀ src : Source, let n := src.id
            (contents.getD (0x374 - 0x304 + n / 8) 0).getLsbD (n % 8) = (s.alarm.source src).present ∧
            at_ (0x378 + 4 * n) (le8 (s.alarm.source src).state.code ++ le8 (s.alarm.source src).level ++
              le16 (s.alarm.source src).raiseCount)) ∧
          at_ 0x3B4 (le32 s.jrn.w ++ le32 s.jrn.nextSeq.toNat ++ le32 s.jrn.knownFree ++ le8 s.jrn.queue.length ++
            leBool s.jrn.stopped ++ leBool s.jrn.gap.pending) ∧
          at_ 0x3C4 (s.jrn.gap.counts.flatMap le16) ∧ contents.length = 0x3D4 - 0x304))

/-! ## Alarms, faults and suppression (chapter 9) -/

/-- R147 to R149, R151, R152: what a raise of a soft source and the end of a condition do to the source. A raise of
LINK_DOWN adds its rail to the mask, and the mask is its latest detail (log entry 40); an end takes its rail from it,
and ends the condition only where the mask is then empty. A raise that makes a source PENDING sets the ALARM cause when
the level passes the threshold. A fault already PENDING only counts, and the count stops at 65,535 at level 0 too (log
entry 90). R151: new soft levels first clear each source they disable that is not IDLE, then raise each waiting
condition that a raise would now make PENDING, both in id order (log entry 88), each record showing the level as it is
built (log entry 52), and the alarm level is formed anew behind them (log entry 35). A level above 7, which only an
upset leaves, is taken as it is (log entry 119). R152: the alarm level is the highest level PENDING, 0 with none, a
source at level 0 adding nothing (log entry 43); the top source is the lowest id PENDING at it, and none at 0; CAB_ALARM
is on in LOCKED, and else at a level above 0 that reaches the cab level. -/
def Obligations.RaisesAndEndsMoveTheirSource : Prop :=
  (∀ (who : Raiser) (src : Source) (before rest : List (Raiser × Report)) (s : State),
    s.alarm.sources.length = 15 → (∀ x ∈ before, x.1 ≠ who) →
    let x := s.alarm.source src
    let put (mask : Both Bool) (y : SourceRecord) : State :=
      { s with alarm := { s.alarm with reports := before ++ rest, linkMask := mask,
                                       sources := s.alarm.sources.set src.id y } }
    let recorded (w : State) (action : AlarmAction) (raises : Nat) : State :=
      let y := w.alarm.source src
      w.offered .alarmUnit [.alarm
        { source := src, action := action, state := y.state, level := y.level, raiseCount := raises, conflict := false,
          detail := y.detail, alarmLevel := w.alarm.alarmLevel, topSource := w.alarm.topSource, device := w.device,
          suppression := w.alarm.suppression, p := w.pos.p, t := w.pos.t }]
    (∀ (d : Detail) (detail : Detail) (mask : Both Bool), s.alarm.reports = before ++ (who, .raise src d) :: rest →
      (src ≠ .linkDown ∧ detail = d ∧ mask = s.alarm.linkMask ∨
        src = .linkDown ∧ detail = .mask mask.a mask.b ∧ ∃ r, d = .rail r ∧ mask = s.alarm.linkMask.set r true) →
      let put := put mask
      let y := { x with detail := some detail, present := x.present || src.isCondition }
      let does (w : State) := exec (.alarmRaise who) s = .next w
      (s.device = .unbound → does (put y)) ∧
      (s.device ≠ .unbound → x.state = .pending → does (put { y with raiseCount := bump16 x.raiseCount })) ∧
      (s.device ≠ .unbound → src.isFault = false → x.level = 0 →
        does (put { y with raiseCount := bump16 x.raiseCount })) ∧
      (s.device ≠ .unbound → src.isFault = false → x.state ≠ .pending → 1 ≤ x.level → x.level ≤ 6 →
        0 < s.alarm.suppression → does (recorded ((put y).modAlarm fun a =>
          { a with suppressedCount := bump16 a.suppressedCount }) .suppressed 0)) ∧
      (s.device ≠ .unbound → src.isFault = false → x.state ≠ .pending → 1 ≤ x.level →
        6 < x.level ∨ s.alarm.suppression = 0 →
        let w := put { y with state := .pending, raiseCount := 0 }
        does (if s.alarm.alarmLevel ≤ s.alarm.threshold ∧ s.alarm.threshold < w.alarm.alarmLevel then
          (recorded w .raised 0).setCause .alarm else recorded w .raised 0))) ∧
    ∀ (rail : Option Rail) (mask : Both Bool), s.alarm.reports = before ++ (who, .condEnd src rail) :: rest →
      (src ≠ .linkDown ∧ mask = s.alarm.linkMask ∨ src = .linkDown ∧ ∃ r, rail = some r ∧ mask = s.alarm.linkMask.set r false) →
      let put := put mask
      (src = .linkDown → mask ≠ ⟨false, false⟩ → exec (.conditionEnd who) s = .next (put x)) ∧
      (src ≠ .linkDown ∨ mask = ⟨false, false⟩ →
        (x.state ≠ .acknowledged ∨ s.device = .unbound →
          exec (.conditionEnd who) s = .next (put { x with present := false })) ∧
        (x.state = .acknowledged → s.device ≠ .unbound → exec (.conditionEnd who) s = .next
          (recorded (put { x with present := false, state := .idle }) .cleared x.raiseCount)))) ∧
  (∀ s : State, s.alarm.sources.length = 15 →
    let pends (src : Source) : Prop := (s.alarm.source src).state = .pending
    let level (src : Source) : Nat := (s.alarm.source src).level
    let top := s.alarm.alarmLevel
    (∀ src, pends src → level src ≤ top) ∧ ((∃ src, pends src) → ∃ src, pends src ∧ level src = top) ∧
    ((∀ src, ¬ pends src) → top = 0) ∧ (top = 0 → s.alarm.topSource = none) ∧
    (0 < top → ∃ src, s.alarm.topSource = some src.id ∧ pends src ∧ level src = top ∧
      ∀ other, pends other → level other = top → src.id ≤ other.id) ∧
    (s.cabAlarm = true ↔ s.device = .locked ∨ (0 < top ∧ s.alarm.cabLevel ≤ top))) ∧
  ∀ (levels : List Nat) (s : State), s.alarm.sources.length = 15 →
    let level (src : Source) : Nat := if src.isFault then (s.alarm.source src).level else levels.getD src.id 0
    let clears (src : Source) : Bool := !src.isFault && level src == 0 && (s.alarm.source src).state != .idle
    let raises (src : Source) : Bool := !src.isFault && src.isCondition && (s.alarm.source src).state == .idle &&
      (s.alarm.source src).present && level src != 0 && s.device != .unbound &&
      (decide (6 < level src) || s.alarm.suppression == 0)
    let acts := Source.all.filter clears ++ Source.all.filter raises
    let sources (acted : List Source) : List SourceRecord := Source.all.map fun src =>
      let x := { s.alarm.source src with level := level src }
      if src ∉ acted then x else if clears src then { x with state := .idle } else { x with state := .pending, raiseCount := 0 }
    let record (k : Nat × Source) : Rec :=
      let soFar : AlarmUnit := { s.alarm with sources := sources (acts.take (k.1 + 1)) }
      let x := s.alarm.source k.2
      .alarm
        { source := k.2, action := if clears k.2 then .cleared else .raised,
          state := if clears k.2 then .idle else .pending, level := level k.2,
          raiseCount := if clears k.2 then x.raiseCount else 0, conflict := false, detail := x.detail,
          alarmLevel := soFar.alarmLevel, topSource := soFar.topSource, device := s.device,
          suppression := s.alarm.suppression, p := s.pos.p, t := s.pos.t }
    let w := { s with alarm := { s.alarm with sources := sources acts } }.offered .alarmUnit ((indexed acts).map record)
    s.setSoftLevels levels =
      if s.alarm.alarmLevel ≤ s.alarm.threshold ∧ s.alarm.threshold < w.alarm.alarmLevel then w.setCause .alarm else w

/-- R153, R154, R157: a fault made PENDING in ACTIVE or BOUND takes the device to FAULTED, the Sequencers OFF and the
links DOWN, with its own effects. In FAULTED it joins the stay, unless a fault of higher level is PENDING: then the
device locks, with the two ids as its lock pair and every output off; a TACH_FAULT in conflict first cuts the tracks and
purges the markers, rail A and then rail B (log entry 21). In LOCKED a fault made PENDING has its record and sets the
ALARM cause, and nothing else happens. R158: the record of the raise that locks is marked as the conflict; each record
shows the device as the raise has left it (log entry 22). -/
def Obligations.FaultsFaultTheDeviceAndConflictsLockIt : Prop :=
  ∀ (who : Raiser) (src : Source) (d : Detail) (before rest : List (Raiser × Report)) (s : State),
    s.alarm.reports = before ++ (who, .raise src d) :: rest → (∀ x ∈ before, x.1 ≠ who) → src.isFault = true →
    s.alarm.sources.length = 15 → (s.alarm.source src).state ≠ .pending →
    let higher (h : Source) : Prop := src.id < h.id ∧ (s.alarm.source h).state = .pending
    let pends (t : State) : Prop := exec (.alarmRaise who) s = .next t ∧ (t.alarm.source src).state = .pending ∧
      (t.alarm.source src).raiseCount = 0 ∧ (t.alarm.source src).detail = some d ∧ t.bus.causes.alarm = true ∧ t.pos = s.pos
    let effects (t : State) : Prop :=
      t.alarm.planFaultSeen = (s.alarm.planFaultSeen || src == .planFault) ∧
        t.jrn.stopped = (s.jrn.stopped || src == .contextFault) ∧ t.plans.active = s.plans.active ∧
        ∀ r, (t.rail r).asm = (s.rail r).asm ∧ (t.rail r).mrk.queue = (s.rail r).mrk.queue ∧
          (t.rail r).trk.table = (s.rail r).trk.table ∧
          (t.rail r).trk.tachNotices = (s.rail r).trk.tachNotices + (if src = .tachFault then 1 else 0) ∧
          (t.rail r).mrk.tachNotices = (s.rail r).mrk.tachNotices + (if src = .tachFault then 1 else 0)
    let off (t : State) : Prop := ∀ r, (t.rail r).seq.state = .off ∧ (t.rail r).shot = none ∧
      (t.rail r).link.state = .down ∧ (t.rail r).link.presence = false
    let record (t : State) (conflict : Bool) : Rec :=
      let y := t.alarm.source src
      .alarm
        { source := src, action := .raised, state := y.state, level := y.level, raiseCount := 0, conflict := conflict,
          detail := y.detail, alarmLevel := t.alarm.alarmLevel, topSource := t.alarm.topSource, device := t.device,
          suppression := s.alarm.suppression, p := s.pos.p, t := s.pos.t }
    let recorded (t : State) (conflict : Bool) (xs : List (Producer × Rec)) : Prop := t.jrn.presented = xs ++
      if readerMask s.jrn.consumers .alarm = 0 then [] else [(.alarmUnit, record t conflict)]
    let cut (r : Rail) (w : State) : State :=
      let w := if w.inForce then (w.tracksClosed r (fun _ => true) (fun k => k.state == .confirmed) flagCut .cut
          (some .tachFault)).modTrk r fun k => { k with path := k.path ++ [.marker { cause := .tachFault, tag := 0 }] }
        else w
      let m := (w.rail r).mrk
      w.offered (.marker r) (m.queue.map fun e => .marker
        { rail := r, nozzle := e.nozzle, reason := some .tachFault, broken := e.broken, xStart := e.xStart, xEnd := e.xEnd,
          origins := e.origins, originTotal := e.originTotal, p := s.pos.p, t := s.pos.t, dir := m.dir })
    (s.device = .locked → ∃ t, pends t ∧
      let y := { s.alarm.source src with state := .pending, raiseCount := 0, detail := some d,
                                         present := (s.alarm.source src).present || src.isCondition }
      let w : State := { s with alarm := { s.alarm with reports := before ++ rest, sources := s.alarm.sources.set src.id y } }
      t = (w.setCause .alarm).offered .alarmUnit [record t false]) ∧
    (s.device = .active ∨ s.device = .bound → ∃ t, pends t ∧ effects t ∧ recorded t false s.jrn.presented ∧ off t ∧
      t.device = .faulted ∧
      t.alarm.remembered = some s.device ∧ t.bus.causes.state = true) ∧
    (s.device = .faulted → (∀ h, ¬ higher h) → ∃ t, pends t ∧ effects t ∧ recorded t false s.jrn.presented ∧ t.device = .faulted ∧
      t.alarm.remembered = s.alarm.remembered ∧ ∀ r, (t.rail r).seq = (s.rail r).seq ∧ (t.rail r).link = (s.rail r).link) ∧
    ∀ h, s.device = .faulted → higher h → (∀ g, higher g → g.id ≤ h.id) → (∀ r, (s.rail r).trk.table.length = 48) →
      let v := if src = .tachFault then cut .B (cut .A s) else s
      ∃ t, pends t ∧ recorded t true v.jrn.presented ∧ off t ∧ t.device = .locked ∧
      t.alarm.lockPair = some (h.id, src.id) ∧ t.cabAlarm = true ∧ t.bus.causes.state = true ∧ t.plans.load = none ∧
      t.plans.pendingActivation = none ∧ t.plans.standby = .cleared ∧ t.req.scan = [] ∧ t.req.scanTimer = false ∧
      ∀ r, (t.rail r).mrk.queue = [] ∧ (∀ j, t.nozzleOn r j = false) ∧ (t.rail r).trk.table = (v.rail r).trk.table ∧
        (t.rail r).trk.path = (v.rail r).trk.path ∧ (t.rail r).asm = (s.rail r).asm

/-- R149, R150, R155, R156, R177: an acknowledgement of one source or of all, each PENDING source going IDLE, or
ACKNOWLEDGED where it is a soft condition still present, with its record showing the level as it is built (log entry
52), and TACH_FAULT still present staying PENDING, which answers STILL_PRESENT to an acknowledgement that names it or
all (log entry 113). In FAULTED one that leaves no fault PENDING takes the device out of it, and the level it answers is
the one after that return (log entry 44). A Journal Writer that was stopped resumes then with its known-free count 0 and
its head record taken afresh (R177, log entry 31). SUPPRESS in its three actions: an action outside the three is a
BAD_PARAMETER, refused by the row SUPPRESS_START (log entry 46), and a START at distance 0 answers suppressed_count as
it stood before it is set to 0 (log entry 79). A progress event is taken in its place among the Position Unit's reports
and brings suppression to its end, which then falls due (log entry 17); with none waiting, or no end due, the command
changes nothing (log entry 1). -/
def Obligations.AcknowledgementsAndSuppressionRunTheirCourse : Prop :=
  (∀ (q : Request) (rest : List Request) (s : State), s.req.scan = q :: rest → s.device.scans = true →
    let u : State := { s with req := { s.req with scan := rest } }
    let id := byteAt q.params 0
    (q.kind = 6 → 14 < id → id ≠ 255 → exec .ackAlarm s = .next (closeScan rest (u.refuse q .badParameter))) ∧
    (q.kind = 6 → id ≤ 14 ∨ id = 255 → s.alarm.sources.length = 15 →
      let named (src : Source) : Prop := id = 255 ∨ src.id = id
      let pending (src : Source) : Prop := (s.alarm.source src).state = .pending
      let gone (src : Source) : Prop := src.isCondition = false ∨ (s.alarm.source src).present = false
      let changes (src : Source) : Prop := named src ∧ pending src ∧ (gone src ∨ src ≠ .tachFault)
      let outcome (src : Source) (st : SourceState) : Prop :=
        (changes src → gone src → st = .idle) ∧ (changes src → ¬ gone src → st = .acknowledged) ∧
          (¬ changes src → st = (s.alarm.source src).state)
      let code := if (id = 255 ∨ id = 13) ∧ (s.alarm.source .tachFault).state = .pending ∧
        (s.alarm.source .tachFault).present = true then ResultCode.stillPresent else .ok
      let written (n : Nat) (t : State) : Prop := ∃ w, t.req.issued.getD q.index none = some w ∧
        w.write = { state := .done, code := code, words := le8 n ++ le8 t.alarm.alarmLevel, tag := q.tag }
      (s.device ≠ .faulted ∨ (∃ f : Source, f.isFault = true ∧ pending f ∧ ¬ changes f) →
        ∃ (sources : List SourceRecord) (records : List AlarmRecord) (xs : List Source),
          (∀ src : Source, ∃ st, outcome src st ∧ sources[src.id]? = some { s.alarm.source src with state := st }) ∧
          sources.length = 15 ∧ (∀ src, src ∈ xs ↔ changes src) ∧ xs.Pairwise (fun a b => a.id < b.id) ∧
          (records.map fun x => (x.source, x.action, x.level, x.raiseCount, x.detail)) = (xs.map fun src =>
            (src, .acknowledged, (s.alarm.source src).level, (s.alarm.source src).raiseCount, (s.alarm.source src).detail)) ∧
          (∀ x ∈ records, outcome x.source x.state ∧ x.conflict = false ∧ x.device = s.device ∧
            x.suppression = s.alarm.suppression ∧ x.p = s.pos.p ∧ x.t = s.pos.t) ∧
          (∀ (k : Nat) x, records[k]? = some x →
            let ids : List Nat := (xs.take (k + 1)).map Source.id
            let part := (indexed s.alarm.sources).map fun y => if y.1 ∈ ids then sources.getD y.1 y.2 else y.2
            let soFar : AlarmUnit := { s.alarm with sources := part }
            x.alarmLevel = soFar.alarmLevel ∧ x.topSource = soFar.topSource) ∧
          (let w := { u with alarm := { u.alarm with sources := sources } }.offered .alarmUnit (records.map .alarm)
           exec .ackAlarm s = .next (closeScan rest (w.answer q .done code (le8 xs.length ++ le8 w.alarm.alarmLevel))))) ∧
      (s.device = .faulted → (∀ f : Source, f.isFault = true → pending f → changes f) → s.plans.pendingActivation = none →
        ∃ t, exec .ackAlarm s = .next t ∧ (∀ f : Source, f.isFault = true → (t.alarm.source f).state ≠ .pending) ∧
          t.alarm.remembered = none ∧ t.alarm.planFaultSeen = false ∧ t.bus.causes.state = true ∧ t.pos = s.pos ∧
          t.jrn.stopped = false ∧ (s.jrn.stopped = true → t.jrn.knownFree = 0 ∧ t.jrn.queue = s.jrn.queue ∧
            t.jrn.phase = if s.jrn.queue = [] then .idle else .afresh) ∧
          (s.alarm.planFaultSeen = false → (s.alarm.remembered = some .active ∨ s.alarm.remembered = some .bound) →
            some t.device = s.alarm.remembered ∧ (t.device = .active → ∀ r, (t.rail r).link.presence = true ∧
              (t.rail r).seq.state = if (s.rail r).seq.lift then .lifted
                else if (s.rail r).link.state = .down then .linkDown else .waiting)) ∧
          (s.alarm.planFaultSeen = true → t.device = .bound ∧ t.plans.active = .cleared ∧ t.plans.protocol = none ∧
            t.plans.stop = none ∧ ∀ r, (t.rail r).seq.held = false ∧ (t.rail r).asm.stopping = false ∧
              (∃ xs, (t.rail r).trk.orders = xs ++ [.planEnded]) ∧ (∃ xs, (t.rail r).asm.orders = xs ++ [.planEnded]) ∧
              ∃ xs, (t.rail r).mrk.orders = xs ++ [.planEnded]) ∧
          (s.plans.protocol = none → s.plans.stop = none → s.req.snapshot = ⟨none, none⟩ → q.index < 8 →
            s.req.issued.length = 8 → ∃ xs : List Source, (∀ src, src ∈ xs ↔ changes src) ∧ xs.Nodup ∧
              written xs.length t))) ∧
    (q.kind = 7 →
      let value := u16At q.params 2
      let now := s.alarm.suppression
      let words := le16 now ++ le16 s.alarm.suppressedCount
      (2 < id ∨ (id = 0 ∧ value = 0) → exec .suppressStart s = .next (closeScan rest (u.refuse q .badParameter))) ∧
      (id = 0 → 0 < value → s.alarm.expiryDue = false → exec .suppressStart s = .next (closeScan rest
        ((u.modAlarm fun a => { a with suppression := value, suppressedCount := if now = 0 then 0 else a.suppressedCount }).done
          q words))) ∧
      (id = 1 → now = 0 → exec .suppressExtend s = .next (closeScan rest (u.refuse q .notSuppressing))) ∧
      (id = 1 → 0 < now → exec .suppressExtend s = .next (closeScan rest
        ((u.modAlarm fun a => { a with suppression := min 65535 (now + value) }).done q words))) ∧
      (id = 2 → now = 0 → exec .suppressEnd s = .next (closeScan rest (u.done q words))) ∧
      (id = 2 → 0 < now → exec .suppressEnd s = .next (closeScan rest
        (((u.modAlarm fun a => { a with suppression := 0 }).suppressionEnds).done q words))))) ∧
  (∀ (before rest : List (Raiser × Report)) (x : Report) (s : State),
    s.alarm.reports = before ++ (.positionUnit, x) :: rest → (∀ y ∈ before, y.1 ≠ .positionUnit) →
    (∀ t p, x = .progress t p → exec .alarmProgressEvent s = .next (s.modAlarm fun a =>
      { a with reports := before ++ rest, suppression := a.suppression - 1,
               expiryDue := a.expiryDue || decide (a.suppression = 1) })) ∧
    ((∀ t p, x ≠ .progress t p) → exec .alarmProgressEvent s = .next s)) ∧
  ∀ s : State,
    (s.alarm.expiryDue = false → exec .suppressionExpiry s = .next s) ∧
    (s.alarm.expiryDue = true → s.alarm.suppression = 0 → s.device ≠ .unbound → s.alarm.sources.length = 15 →
      ∃ t, exec .suppressionExpiry s = .next t ∧ t.alarm.expiryDue = false ∧ t.device = s.device ∧ t.pos = s.pos ∧
        t.rails = s.rails ∧ t.plans = s.plans ∧ ∀ src,
          let x := s.alarm.source src
          t.alarm.source src =
            if src.isCondition = true ∧ src.isFault = false ∧ x.state = .idle ∧ x.present = true ∧ 1 ≤ x.level ∧
              x.level ≤ 6 then { x with state := .pending, raiseCount := 0 } else x)

/-! ## The journal (chapter 10) -/

/-- R172, R176: the arbiter takes the record of the first producer in its order that has one presented. There is room
below 32 records; else a ROUTINE record is lost, and an ESSENTIAL one takes the place of the newest ROUTINE record that
is not being written, or is lost; what was displaced is lost before the record is queued (log entry 2). A loss joins
the gap state, or while a GAP is being written a new one behind it (log entry 30), and that of an ESSENTIAL record
raises JOURNAL_LOSS but for an ALARM record of that source (log entry 61). -/
def Obligations.RecordsAreQueuedOrLost : Prop :=
  ∀ (who : Producer) (x : Rec) (before rest : List (Producer × Rec)) (s : State),
    s.jrn.presented = before ++ (who, x) :: rest → (∀ y ∈ before, y.1 ≠ who) →
    (∀ p ∈ Producer.order.takeWhile (fun p => p != who), ∀ y ∈ s.jrn.presented, y.1 ≠ p) →
    let late : Bool := match s.jrn.phase with
      | .writingGap _ => true
      | _ => false
    let lost (y : Rec) (u : State) : State :=
      let g := if late then u.jrn.gapLate else u.jrn.gap
      let g' : GapState :=
        { pending := true, counts := g.counts.modify (y.kind.code - 1) bump16,
          firstP := if g.pending then g.firstP else s.pos.p, lastP := s.pos.p }
      let w := u.modJrn fun j => { j with gap := if late then j.gap else g', gapLate := if late then g' else j.gapLate }
      let own : Bool := match y with
        | .alarm z => z.source == .journalLoss
        | _ => false
      w.modAlarm fun a => { a with reports := a.reports ++ if y.kind.essential && !own then
        [(.journalWriter, .raise .journalLoss (.loss y.kind (g'.counts.getD (y.kind.code - 1) 0) s.pos.p))] else [] }
    let u := s.modJrn fun j => { j with presented := before ++ rest }
    let free (i : Nat) (y : Rec) : Prop :=
      s.jrn.queue[i]? = some y ∧ y.kind.essential = false ∧ (s.jrn.phase = .idle ∨ i ≠ 0)
    let does (w : State) := exec .recordOffer s = .next w
    (s.jrn.queue.length < 32 → does (u.modJrn fun j => { j with queue := j.queue ++ [x] })) ∧
    (32 ≤ s.jrn.queue.length → x.kind.essential = false → does (lost x u)) ∧
    (32 ≤ s.jrn.queue.length → x.kind.essential = true →
      (∀ i y, free i y → (∀ j z, free j z → j ≤ i) →
        does ((lost y (u.modJrn fun j => { j with queue := j.queue.eraseIdx i })).modJrn fun j =>
          { j with queue := j.queue ++ [x] })) ∧
      ((∀ i y, ¬ free i y) → does (lost x u)))

/-- R170, R171, R173 to R177, R185, R189: a record at the head is checked for room, taken for the first time, afresh on
a resume, or again behind a check or a write that failed; the masks read as zero up to the first that is not count as
free (log entry 48), behind a failed write from 0 on (log entry 81). With room its writing begins, behind a pending GAP;
without, an ESSENTIAL record waits and a ROUTINE one is lost. A write that completes advances W and the sequence, with
the first slot's header last of all; losses while a GAP was written form the next gap, or join the gap again where its
write fails (log entry 30). An access that fails leaves the record waiting and raises CONTEXT_FAULT. A stopped writer
checks nothing. The accesses of a record stand in the trace as its write completes (log entry 110). A loss that falls
while a record without a GAP is written puts none ahead of that record (log entry 114). R170, R171, R173, R185: what the
slots hold, byte by byte: the header, the reader mask, the slots of each kind, and each field at its slot offset
(`Rec.slotFields`), zeros beside them; the codes of every enumerated field of a record (R189); an extent that an upset
of Lmax leaves beyond 65,535 mm (log entry 112), a group code above 7 (log entry 103), and the bits of a rail mask (log
entry 115). -/
def Obligations.TheWriterChecksWritesAndWaits : Prop :=
  (∀ x : Rec, x.bodies.length = x.slotCount ∧ (x.shaped → ∀ i body, x.bodies[i]? = some body → x.bodyHolds i body) ∧
    x.slotCount = (match x with | .indication y => 1 + (y.entry.contributors.length + 2) / 3 | _ => 1) ∧
    (x.kind.essential = true ↔ x.kind ∈ [RecordKind.indication, .alarm, .gap, .mark, .marker])) ∧
  (∀ (mask : Byte) (kind : RecordKind) (n i : Nat) (seq : BitVec 32), i < n →
    slotHeader mask kind n i seq = [mask] ++ bytesOf 1 kind.code ++
      bytesOf 1 (if n = 1 then 0 else if i = 0 then 1 else if i < n - 1 then 2 else 3) ++ bytesOf 1 n ++
      bytesOf 4 seq.toNat) ∧
  (∀ (consumers : List Consumer) (kind : RecordKind) (c : Nat), consumers.length ≤ 8 →
    ((readerMask consumers kind).getLsbD c = true ↔ ∃ k, consumers[c]? = some k ∧ k.enabled = true ∧
      (kind = .gap ∨ k.subscriptions.getLsbD (kind.code - 1) = true))) ∧
  ([RecordKind.indication, .alarm, .gap, .mark, .marker, .coupling, .survey, .droppedTrack].map RecordKind.code =
      [1, 2, 3, 4, 5, 6, 7, 8] ∧
    [OpState.unbound, .bound, .active, .faulted, .locked].map OpState.code = List.range 5 ∧
    [Rail.A, .B].map Rail.idx = List.range 2 ∧ [Dir.unknown, .increasing, .decreasing].map Dir.code = List.range 3 ∧
    [SeqState.off, .lifted, .linkDown, .waiting, .shot].map SeqState.code = List.range 5 ∧
    [LinkState.down, .up].map LinkState.code = List.range 2 ∧
    [CouplingState.unmonitored, .unknown, .coupled, .doubtful, .lost, .lifted].map CouplingState.code = List.range 6 ∧
    [CouplingReason.restored, .lifted, .planSwitch, .planEnded].map CouplingReason.code = List.range 4 ∧
    [SourceState.idle, .pending, .acknowledged].map SourceState.code = List.range 3 ∧
    [AlarmAction.raised, .suppressed, .acknowledged, .cleared].map AlarmAction.code = List.range 4 ∧
    [Source.couplingLoss, .overspeed, .trackTableFull, .assemblyFull, .severeIndication, .markerUnmarked, .journalLoss,
      .tachDegraded, .frontEndWarning, .positionLimit, .linkDown, .spare, .planFault, .tachFault, .contextFault].map
        Source.id = List.range 15 ∧
    [ContextBlockName.planStore, .requestHandler, .journalWriter, .busInterface].map ContextBlockName.code = List.range 4 ∧
    [TrackState.tentative, .confirmed].map TrackState.code = List.range 2 ∧
    [DropReason.unconfirmed, .evicted, .long, .cut, .reversal, .flushed, .planEnded].map DropReason.code = List.range 7 ∧
    [DropCause.preset, .reversal, .tachFault, .switch, .stop, .flush, .planEnded].map DropCause.code = List.range 7 ∧
    [FinalCause.horizon, .early, .planEnded, .flush .reversal, .flush .tachFault, .flush .switch, .flush .stop,
      .flush .flush].map FinalCause.code = List.range 8 ∧
    [MarkerStatus.notRequired, .queued, .merged, .late, .queueFull, .reversal, .stopped, .noPosition].map
      MarkerStatus.code = List.range 8 ∧
    [UnmarkedReason.late, .queueFull, .reversal, .tachFault, .stopped, .planSwitch, .planEnded, .presetLimit, .locked].map
      UnmarkedReason.code = List.range 9) ∧
  ∀ (x : Rec) (rest : List Rec) (s : State), s.jrn.queue = x :: rest →
    let need := x.slotCount + (if x.kind.essential then 0 else s.jrn.reserve) + (if s.jrn.gap.pending then 1 else 0)
    let raised (u : State) := u.raiseReport .journalWriter .contextFault (.block .journalWriter)
    (∀ masks : List Byte,
      let known := if s.jrn.phase = .failed then 0 else s.jrn.knownFree
      let free := known + ((masks.take (need - known)).takeWhile fun m => m == 0).length
      let put (phase : WriterPhase) : State := s.modJrn fun j => { j with knownFree := free, phase := phase }
      let takes := s.jrn.phase = .idle ∨ s.jrn.phase = .afresh
      let waits := s.jrn.phase = .retry ∨ s.jrn.phase = .failed
      (∀ c, s.jrn.stopped = false → (c = .journalTakeRecord masks ∧ takes ∨ c = .roomCheckRetry masks ∧ waits) →
        (need ≤ free → s.jrn.gap.pending = false → exec c s = .next (put .writing)) ∧
        (need ≤ free → s.jrn.gap.pending = true → exec c s = .next (put (.writingGap
          { counts := s.jrn.gap.counts, firstP := s.jrn.gap.firstP, lastP := s.jrn.gap.lastP, t := s.pos.t }))) ∧
        (free < need → x.kind.essential = true → exec c s = .next (put .retry)) ∧
        (free < need → x.kind.essential = false → exec c s = .next ((put .idle).modJrn fun j =>
          { j with queue := rest, gap :=
              { pending := true, counts := j.gap.counts.modify (x.kind.code - 1) bump16,
                firstP := if j.gap.pending then j.gap.firstP else s.pos.p, lastP := s.pos.p } }))) ∧
      (s.jrn.stopped = false → takes ∨ waits → exec (.journalReadError masks) s = .next (raised (put .retry))) ∧
      (s.jrn.stopped = true → ∀ c ∈ [Instr.journalTakeRecord masks, .roomCheckRetry masks, .journalReadError masks],
        exec c s = .next s)) ∧
    (∀ y : Rec, (s.jrn.phase = .writing ∧ y = x ∨ ∃ g, s.jrn.phase = .writingGap g ∧ y = .gap g) →
      let slot (i : Nat) : Nat := s.jrn.base + 64 * ((s.jrn.w + i) % s.jrn.slotCount)
      let writes (k : Nat × List Byte) : List BusAction :=
        [.write (slot k.1 + 8) k.2,
         .write (slot k.1) (slotHeader (readerMask s.jrn.consumers y.kind) y.kind y.slotCount k.1 s.jrn.nextSeq)]
      let accesses := ((indexed y.bodies).tail.flatMap writes) ++ ((indexed y.bodies).take 1).flatMap writes
      let done := (s.issue accesses).modJrn fun j =>
        { j with w := (j.w + y.slotCount) % j.slotCount, knownFree := j.knownFree - y.slotCount, nextSeq := j.nextSeq + 1 }
      let told := if y.kind.essential then done.setCause .journal else done
      exec .journalWriteComplete s = .next (told.modJrn fun j => if s.jrn.phase = .writing then
          { j with queue := rest, phase := .idle }
        else { j with gap := j.gapLate, gapLate := .clear, phase := .writing }) ∧
      ∀ landed, exec (.journalWriteError landed) s = .next (raised
        ((s.issue ((accesses.take (accesses.length - 1)).take landed)).modJrn fun j =>
          { j with
            phase := .failed
            gapLate := .clear
            gap := if j.gapLate.pending = false then j.gap else if j.gap.pending = false then j.gapLate else
              { pending := true, firstP := j.gap.firstP, lastP := j.gapLate.lastP,
                counts := List.zipWith (fun m n => min 65535 (m + n)) j.gap.counts j.gapLate.counts } })))

/-! ## Binding and the registers (chapter 10) -/

/-- R160 to R162, R178, R181: what the registers read as, writes of them, and the end of a BIND, which fails with the
first check that fails, or makes the device BOUND with the fields it read, clamped or replaced where they are out of
their ranges (R162, R182). A field of STATE shows no more bits than it has (log entry 94). A BIND that succeeds loads
the position settings: lines whose hold time has reached the new filter time are accepted under them (R1, R16; log entry
39), and the new Rv is tested on what they leave (R8, R10; log entry 67); of lines that change together the count comes
before the mark edge (log entry 4). The status area is written, and then each condition present is raised (R147), in id
order (log entry 88) and not shown in that area (log entry 91). The end of a BIND that is not in progress changes
nothing (log entry 1). The STATE message of a BIND that succeeds comes behind its status area (log entry 129). -/
def Obligations.RegistersAreWrittenAndBindsEnd : Prop :=
  (∀ (v : Word) (s : State),
    let messages := AttnCause.all.filter fun c => (enablesOf v).get c && !s.bus.enables.get c && s.bus.causes.get c
    let u := s.modBus fun b => { b with enables := enablesOf v, trace := b.trace ++ messages.map .message }
    let latched := s.bus.contextLo.toNat + 4294967296 * s.bus.contextHi.toNat
    let open_ : Prop := s.device = .unbound ∧ s.bus.binding = none
    (commandField v = 1 → open_ → exec (.bind v) s = .next (u.modBus fun b => { b with binding := some latched })) ∧
    (commandField v = 1 → ¬ open_ → exec (.bind v) s = .next u) ∧
    (commandField v ≠ 1 → commandField v ≠ 2 → exec (.controlNone v) s = .next u) ∧
    exec (.attentionWrite v) s = .next (s.modBus fun b => { b with causes :=
      { journal := b.causes.journal && !v.getLsbD 0, request := b.causes.request && !v.getLsbD 1,
        alarm := b.causes.alarm && !v.getLsbD 2, state := b.causes.state && !v.getLsbD 3 } }) ∧
    (open_ → exec (.registerWrite 0x10 v) s = .next (s.modBus fun b => { b with contextLo := v &&& 0xFFFFF000 }) ∧
      exec (.registerWrite 0x14 v) s = .next (s.modBus fun b => { b with contextHi := v })) ∧
    (¬ open_ → exec (.registerWrite 0x10 v) s = .next s ∧ exec (.registerWrite 0x14 v) s = .next s) ∧
    exec (.registerWrite 0x00 v) s = .next s ∧ exec (.registerWrite 0x08 v) s = .next s) ∧
  (∀ s : State,
    let reads (offset lo n value : Nat) : Prop := ((readRegister s offset).extractLsb' lo n).toNat = value
    let bits (offset lo : Nat) (b : AttnBits) : Prop := ∀ i, (readRegister s offset).getLsbD i =
      (decide (i = lo) && b.journal || decide (i = lo + 1) && b.request || decide (i = lo + 2) && b.alarm ||
        decide (i = lo + 3) && b.state)
    reads 0x00 0 16 24 ∧ reads 0x00 16 8 1 ∧ reads 0x00 24 8 0 ∧ bits 0x04 8 s.bus.enables ∧ bits 0x0C 0 s.bus.causes ∧
      readRegister s 0x10 = s.bus.contextLo ∧ readRegister s 0x14 = s.bus.contextHi ∧
      reads 0x08 0 3 s.device.code ∧ reads 0x08 3 1 0 ∧ reads 0x08 4 4 s.bus.bindError.code ∧
      reads 0x08 8 4 (s.alarm.alarmLevel % 16) ∧ reads 0x08 12 4 (s.alarm.topSource.getD 15 % 16) ∧
      reads 0x08 16 4 ((s.alarm.lockPair.map Prod.fst).getD 15 % 16) ∧
      reads 0x08 20 4 ((s.alarm.lockPair.map Prod.snd).getD 15 % 16) ∧ reads 0x08 24 8 0) ∧
  (∀ bytes : List Byte, readContext bytes =
    { version := u16At bytes 0, base := u64At bytes 0x0C, slotCount := u32At bytes 0x14, startIndex := u32At bytes 0x18,
      firstSeq := u32At bytes 0x1C, reserve := u16At bytes 0x20, threshold := min 10 (byteAt bytes 0x22),
      cabLevel := max 1 (min 10 (byteAt bytes 0x23)), scanInterval := u16At bytes 0x24,
      settings :=
        { q := max 256 (min 1048576 (u32At bytes 4)), filterTime := byteAt bytes 9, rv := max 1 (byteAt bytes 10),
          mode := if byteAt bytes 8 = 1 then .edge2 else if byteAt bytes 8 = 2 then .edge1 else .edge4,
          markEdge := if byteAt bytes 11 = 1 then .falling else .rising },
      consumers := (List.range 8).map fun i =>
        { enabled := decide (byteAt bytes (0x28 + 4 * i) ≠ 0),
          subscriptions := BitVec.ofNat 8 (byteAt bytes (0x29 + 4 * i)) } }) ∧
  (∀ (src : Source) (d : Detail) (s : State), exec (.alarmRaise .busInterface) { s with
    alarm := { s.alarm with reports := (.busInterface, .raise src d) :: s.alarm.reports } } = .next (s.takeRaise src d)) ∧
  (∀ (block : Option (List Byte)) (s : State), s.bus.binding = none → exec (.bindComplete block) s = .next s) ∧
  ∀ (address : Nat) (s : State), s.bus.binding = some address → s.device = .unbound →
    let fails (e : BindError) := (s.modBus fun b => { b with binding := none, bindError := e }).setCause .state
    exec (.bindComplete none) s = .next (fails .hostMemory) ∧
    ∀ bytes : List Byte,
      let f := readContext bytes
      let checks : List (BindError × Bool) :=
        [(.version, decide (f.version = 1)), (.align, f.base % 64 == 0),
         (.slots, (List.range 11).any fun k => f.slotCount == 2 ^ (6 + k)), (.reserve, decide (4 * f.reserve ≤ f.slotCount)),
         (.scan, decide (50 ≤ f.scanInterval ∧ f.scanInterval ≤ 5000))]
      (∀ i e, checks[i]? = some (e, false) → (∀ (j : Nat) x, j < i → checks[j]? = some x → x.2 = true) →
        exec (.bindComplete (some bytes)) s = .next (fails e)) ∧
      ((∀ x ∈ checks, x.2 = true) →
        (∀ x ∈ [s.pos.tachA, s.pos.tachB, s.pos.markIn], ∀ n, x.hold = some n → n < s.pos.settings.filterTime) →
        let due (x : InputLine) : Bool := x.hold.any fun n => decide (f.settings.filterTime ≤ n)
        let line (x : InputLine) : InputLine := if due x then ⟨x.raw, x.raw, none⟩ else x
        let u : State :=
          { s with
            device := .bound
            indicationCounter := 1
            pos := { s.pos with settings := f.settings, tachA := line s.pos.tachA, tachB := line s.pos.tachB,
                                markIn := line s.pos.markIn }
            alarm := { s.alarm with cabLevel := f.cabLevel, threshold := f.threshold }
            req := { s.req with scanTimer := true, scanInterval := f.scanInterval }
            jrn := { writerAfterReset with
              base := f.base, slotCount := f.slotCount, reserve := f.reserve, consumers := f.consumers,
              w := f.startIndex % f.slotCount, nextSeq := BitVec.ofNat 32 f.firstSeq }
            bus := { s.bus with binding := none, bindError := .none, context := address } }
        let v := u.pairMoved s.pos.tachA.qualified s.pos.tachB.qualified (line s.pos.tachA).qualified
          (line s.pos.tachB).qualified
        let v := if due s.pos.markIn then v.markMoved s.pos.markIn.raw else v
        let rv : Int := f.settings.rv
        let declared (d : Dir) : State :=
          { v with pos := { v.pos with dir := d, e := v.pos.p } }.noticeMarkers (.declared d v.pos.p)
        let behind : Int := if v.pos.dir = .increasing then (v.pos.e : Int) - v.pos.p else (v.pos.p : Int) - v.pos.e
        let w := if v.pos.dir = .unknown then
            (if rv ≤ v.pos.n then declared .increasing else if v.pos.n ≤ -rv then declared .decreasing else v)
          else if rv ≤ behind then
            { v with pos := { v.pos with dir := v.pos.dir.flip, e := v.pos.p } }.sendReversal v.pos.dir.flip v.pos.p v.pos.t
          else v
        exec (.bindComplete (some bytes)) s = .next (Source.all.foldl (fun z src =>
          match (z.alarm.source src).detail with
          | none => z
          | some d => if src.isCondition ∧ (z.alarm.source src).present = true then z.takeRaise src d else z) w.announce))
end

