-- ==== Sys2Proof/Laws/State.lean ====
section
/-! SUPPORT. One lemma per field for each update of one block of the state, and what reading a rail's blocks gives
after each update of a rail. -/

namespace Sys2Proof.Machine

/-! ## The two rails -/

@[simp] theorem Both.get_set_same {α : Type} (x : Both α) (r : Rail) (v : α) : (x.set r v).get r = v := by
  cases r <;> rfl

theorem Both.get_set {α : Type} (x : Both α) (r q : Rail) (v : α) : (x.set r v).get q = if q = r then v else x.get q := by
  cases r <;> cases q <;> rfl

@[simp] theorem Both.get_modify_same {α : Type} (x : Both α) (r : Rail) (f : α → α) :
    (x.modify r f).get r = f (x.get r) := by
  cases r <;> rfl

theorem Both.get_modify {α : Type} (x : Both α) (r q : Rail) (f : α → α) :
    (x.modify r f).get q = if q = r then f (x.get q) else x.get q := by
  cases r <;> cases q <;> rfl

/-! ## One block outside the rails -/

@[simp] theorem State.modPos_pending (s : State) (f : PositionUnit → PositionUnit) : (s.modPos f).pending = s.pending := rfl
@[simp] theorem State.modPos_device (s : State) (f : PositionUnit → PositionUnit) : (s.modPos f).device = s.device := rfl
@[simp] theorem State.modPos_pos (s : State) (f : PositionUnit → PositionUnit) : (s.modPos f).pos = f s.pos := rfl
@[simp] theorem State.modPos_plans (s : State) (f : PositionUnit → PositionUnit) : (s.modPos f).plans = s.plans := rfl
@[simp] theorem State.modPos_rails (s : State) (f : PositionUnit → PositionUnit) : (s.modPos f).rails = s.rails := rfl
@[simp] theorem State.modPos_coupling (s : State) (f : PositionUnit → PositionUnit) : (s.modPos f).coupling = s.coupling := rfl
@[simp] theorem State.modPos_indicationCounter (s : State) (f : PositionUnit → PositionUnit) : (s.modPos f).indicationCounter = s.indicationCounter := rfl
@[simp] theorem State.modPos_alarm (s : State) (f : PositionUnit → PositionUnit) : (s.modPos f).alarm = s.alarm := rfl
@[simp] theorem State.modPos_req (s : State) (f : PositionUnit → PositionUnit) : (s.modPos f).req = s.req := rfl
@[simp] theorem State.modPos_jrn (s : State) (f : PositionUnit → PositionUnit) : (s.modPos f).jrn = s.jrn := rfl
@[simp] theorem State.modPos_bus (s : State) (f : PositionUnit → PositionUnit) : (s.modPos f).bus = s.bus := rfl
@[simp] theorem State.modPos_rail (s : State) (f : PositionUnit → PositionUnit) (r : Rail) : (s.modPos f).rail r = s.rail r := rfl

@[simp] theorem State.modPlans_pending (s : State) (f : PlanStore → PlanStore) : (s.modPlans f).pending = s.pending := rfl
@[simp] theorem State.modPlans_device (s : State) (f : PlanStore → PlanStore) : (s.modPlans f).device = s.device := rfl
@[simp] theorem State.modPlans_pos (s : State) (f : PlanStore → PlanStore) : (s.modPlans f).pos = s.pos := rfl
@[simp] theorem State.modPlans_plans (s : State) (f : PlanStore → PlanStore) : (s.modPlans f).plans = f s.plans := rfl
@[simp] theorem State.modPlans_rails (s : State) (f : PlanStore → PlanStore) : (s.modPlans f).rails = s.rails := rfl
@[simp] theorem State.modPlans_coupling (s : State) (f : PlanStore → PlanStore) : (s.modPlans f).coupling = s.coupling := rfl
@[simp] theorem State.modPlans_indicationCounter (s : State) (f : PlanStore → PlanStore) : (s.modPlans f).indicationCounter = s.indicationCounter := rfl
@[simp] theorem State.modPlans_alarm (s : State) (f : PlanStore → PlanStore) : (s.modPlans f).alarm = s.alarm := rfl
@[simp] theorem State.modPlans_req (s : State) (f : PlanStore → PlanStore) : (s.modPlans f).req = s.req := rfl
@[simp] theorem State.modPlans_jrn (s : State) (f : PlanStore → PlanStore) : (s.modPlans f).jrn = s.jrn := rfl
@[simp] theorem State.modPlans_bus (s : State) (f : PlanStore → PlanStore) : (s.modPlans f).bus = s.bus := rfl
@[simp] theorem State.modPlans_rail (s : State) (f : PlanStore → PlanStore) (r : Rail) : (s.modPlans f).rail r = s.rail r := rfl

@[simp] theorem State.modCoupling_pending (s : State) (f : CouplingMonitor → CouplingMonitor) : (s.modCoupling f).pending = s.pending := rfl
@[simp] theorem State.modCoupling_device (s : State) (f : CouplingMonitor → CouplingMonitor) : (s.modCoupling f).device = s.device := rfl
@[simp] theorem State.modCoupling_pos (s : State) (f : CouplingMonitor → CouplingMonitor) : (s.modCoupling f).pos = s.pos := rfl
@[simp] theorem State.modCoupling_plans (s : State) (f : CouplingMonitor → CouplingMonitor) : (s.modCoupling f).plans = s.plans := rfl
@[simp] theorem State.modCoupling_rails (s : State) (f : CouplingMonitor → CouplingMonitor) : (s.modCoupling f).rails = s.rails := rfl
@[simp] theorem State.modCoupling_coupling (s : State) (f : CouplingMonitor → CouplingMonitor) : (s.modCoupling f).coupling = f s.coupling := rfl
@[simp] theorem State.modCoupling_indicationCounter (s : State) (f : CouplingMonitor → CouplingMonitor) : (s.modCoupling f).indicationCounter = s.indicationCounter := rfl
@[simp] theorem State.modCoupling_alarm (s : State) (f : CouplingMonitor → CouplingMonitor) : (s.modCoupling f).alarm = s.alarm := rfl
@[simp] theorem State.modCoupling_req (s : State) (f : CouplingMonitor → CouplingMonitor) : (s.modCoupling f).req = s.req := rfl
@[simp] theorem State.modCoupling_jrn (s : State) (f : CouplingMonitor → CouplingMonitor) : (s.modCoupling f).jrn = s.jrn := rfl
@[simp] theorem State.modCoupling_bus (s : State) (f : CouplingMonitor → CouplingMonitor) : (s.modCoupling f).bus = s.bus := rfl
@[simp] theorem State.modCoupling_rail (s : State) (f : CouplingMonitor → CouplingMonitor) (r : Rail) : (s.modCoupling f).rail r = s.rail r := rfl

@[simp] theorem State.modAlarm_pending (s : State) (f : AlarmUnit → AlarmUnit) : (s.modAlarm f).pending = s.pending := rfl
@[simp] theorem State.modAlarm_device (s : State) (f : AlarmUnit → AlarmUnit) : (s.modAlarm f).device = s.device := rfl
@[simp] theorem State.modAlarm_pos (s : State) (f : AlarmUnit → AlarmUnit) : (s.modAlarm f).pos = s.pos := rfl
@[simp] theorem State.modAlarm_plans (s : State) (f : AlarmUnit → AlarmUnit) : (s.modAlarm f).plans = s.plans := rfl
@[simp] theorem State.modAlarm_rails (s : State) (f : AlarmUnit → AlarmUnit) : (s.modAlarm f).rails = s.rails := rfl
@[simp] theorem State.modAlarm_coupling (s : State) (f : AlarmUnit → AlarmUnit) : (s.modAlarm f).coupling = s.coupling := rfl
@[simp] theorem State.modAlarm_indicationCounter (s : State) (f : AlarmUnit → AlarmUnit) : (s.modAlarm f).indicationCounter = s.indicationCounter := rfl
@[simp] theorem State.modAlarm_alarm (s : State) (f : AlarmUnit → AlarmUnit) : (s.modAlarm f).alarm = f s.alarm := rfl
@[simp] theorem State.modAlarm_req (s : State) (f : AlarmUnit → AlarmUnit) : (s.modAlarm f).req = s.req := rfl
@[simp] theorem State.modAlarm_jrn (s : State) (f : AlarmUnit → AlarmUnit) : (s.modAlarm f).jrn = s.jrn := rfl
@[simp] theorem State.modAlarm_bus (s : State) (f : AlarmUnit → AlarmUnit) : (s.modAlarm f).bus = s.bus := rfl
@[simp] theorem State.modAlarm_rail (s : State) (f : AlarmUnit → AlarmUnit) (r : Rail) : (s.modAlarm f).rail r = s.rail r := rfl

@[simp] theorem State.modReq_pending (s : State) (f : RequestHandler → RequestHandler) : (s.modReq f).pending = s.pending := rfl
@[simp] theorem State.modReq_device (s : State) (f : RequestHandler → RequestHandler) : (s.modReq f).device = s.device := rfl
@[simp] theorem State.modReq_pos (s : State) (f : RequestHandler → RequestHandler) : (s.modReq f).pos = s.pos := rfl
@[simp] theorem State.modReq_plans (s : State) (f : RequestHandler → RequestHandler) : (s.modReq f).plans = s.plans := rfl
@[simp] theorem State.modReq_rails (s : State) (f : RequestHandler → RequestHandler) : (s.modReq f).rails = s.rails := rfl
@[simp] theorem State.modReq_coupling (s : State) (f : RequestHandler → RequestHandler) : (s.modReq f).coupling = s.coupling := rfl
@[simp] theorem State.modReq_indicationCounter (s : State) (f : RequestHandler → RequestHandler) : (s.modReq f).indicationCounter = s.indicationCounter := rfl
@[simp] theorem State.modReq_alarm (s : State) (f : RequestHandler → RequestHandler) : (s.modReq f).alarm = s.alarm := rfl
@[simp] theorem State.modReq_req (s : State) (f : RequestHandler → RequestHandler) : (s.modReq f).req = f s.req := rfl
@[simp] theorem State.modReq_jrn (s : State) (f : RequestHandler → RequestHandler) : (s.modReq f).jrn = s.jrn := rfl
@[simp] theorem State.modReq_bus (s : State) (f : RequestHandler → RequestHandler) : (s.modReq f).bus = s.bus := rfl
@[simp] theorem State.modReq_rail (s : State) (f : RequestHandler → RequestHandler) (r : Rail) : (s.modReq f).rail r = s.rail r := rfl

@[simp] theorem State.modJrn_pending (s : State) (f : JournalWriter → JournalWriter) : (s.modJrn f).pending = s.pending := rfl
@[simp] theorem State.modJrn_device (s : State) (f : JournalWriter → JournalWriter) : (s.modJrn f).device = s.device := rfl
@[simp] theorem State.modJrn_pos (s : State) (f : JournalWriter → JournalWriter) : (s.modJrn f).pos = s.pos := rfl
@[simp] theorem State.modJrn_plans (s : State) (f : JournalWriter → JournalWriter) : (s.modJrn f).plans = s.plans := rfl
@[simp] theorem State.modJrn_rails (s : State) (f : JournalWriter → JournalWriter) : (s.modJrn f).rails = s.rails := rfl
@[simp] theorem State.modJrn_coupling (s : State) (f : JournalWriter → JournalWriter) : (s.modJrn f).coupling = s.coupling := rfl
@[simp] theorem State.modJrn_indicationCounter (s : State) (f : JournalWriter → JournalWriter) : (s.modJrn f).indicationCounter = s.indicationCounter := rfl
@[simp] theorem State.modJrn_alarm (s : State) (f : JournalWriter → JournalWriter) : (s.modJrn f).alarm = s.alarm := rfl
@[simp] theorem State.modJrn_req (s : State) (f : JournalWriter → JournalWriter) : (s.modJrn f).req = s.req := rfl
@[simp] theorem State.modJrn_jrn (s : State) (f : JournalWriter → JournalWriter) : (s.modJrn f).jrn = f s.jrn := rfl
@[simp] theorem State.modJrn_bus (s : State) (f : JournalWriter → JournalWriter) : (s.modJrn f).bus = s.bus := rfl
@[simp] theorem State.modJrn_rail (s : State) (f : JournalWriter → JournalWriter) (r : Rail) : (s.modJrn f).rail r = s.rail r := rfl

@[simp] theorem State.modBus_pending (s : State) (f : BusInterface → BusInterface) : (s.modBus f).pending = s.pending := rfl
@[simp] theorem State.modBus_device (s : State) (f : BusInterface → BusInterface) : (s.modBus f).device = s.device := rfl
@[simp] theorem State.modBus_pos (s : State) (f : BusInterface → BusInterface) : (s.modBus f).pos = s.pos := rfl
@[simp] theorem State.modBus_plans (s : State) (f : BusInterface → BusInterface) : (s.modBus f).plans = s.plans := rfl
@[simp] theorem State.modBus_rails (s : State) (f : BusInterface → BusInterface) : (s.modBus f).rails = s.rails := rfl
@[simp] theorem State.modBus_coupling (s : State) (f : BusInterface → BusInterface) : (s.modBus f).coupling = s.coupling := rfl
@[simp] theorem State.modBus_indicationCounter (s : State) (f : BusInterface → BusInterface) : (s.modBus f).indicationCounter = s.indicationCounter := rfl
@[simp] theorem State.modBus_alarm (s : State) (f : BusInterface → BusInterface) : (s.modBus f).alarm = s.alarm := rfl
@[simp] theorem State.modBus_req (s : State) (f : BusInterface → BusInterface) : (s.modBus f).req = s.req := rfl
@[simp] theorem State.modBus_jrn (s : State) (f : BusInterface → BusInterface) : (s.modBus f).jrn = s.jrn := rfl
@[simp] theorem State.modBus_bus (s : State) (f : BusInterface → BusInterface) : (s.modBus f).bus = f s.bus := rfl
@[simp] theorem State.modBus_rail (s : State) (f : BusInterface → BusInterface) (r : Rail) : (s.modBus f).rail r = s.rail r := rfl

/-! ## The blocks of a rail -/

@[simp] theorem State.modRail_pending (s : State) (r : Rail) (f : RailBlocks → RailBlocks) : (s.modRail r f).pending = s.pending := rfl
@[simp] theorem State.modRail_device (s : State) (r : Rail) (f : RailBlocks → RailBlocks) : (s.modRail r f).device = s.device := rfl
@[simp] theorem State.modRail_pos (s : State) (r : Rail) (f : RailBlocks → RailBlocks) : (s.modRail r f).pos = s.pos := rfl
@[simp] theorem State.modRail_plans (s : State) (r : Rail) (f : RailBlocks → RailBlocks) : (s.modRail r f).plans = s.plans := rfl
@[simp] theorem State.modRail_coupling (s : State) (r : Rail) (f : RailBlocks → RailBlocks) : (s.modRail r f).coupling = s.coupling := rfl
@[simp] theorem State.modRail_indicationCounter (s : State) (r : Rail) (f : RailBlocks → RailBlocks) : (s.modRail r f).indicationCounter = s.indicationCounter := rfl
@[simp] theorem State.modRail_alarm (s : State) (r : Rail) (f : RailBlocks → RailBlocks) : (s.modRail r f).alarm = s.alarm := rfl
@[simp] theorem State.modRail_req (s : State) (r : Rail) (f : RailBlocks → RailBlocks) : (s.modRail r f).req = s.req := rfl
@[simp] theorem State.modRail_jrn (s : State) (r : Rail) (f : RailBlocks → RailBlocks) : (s.modRail r f).jrn = s.jrn := rfl
@[simp] theorem State.modRail_bus (s : State) (r : Rail) (f : RailBlocks → RailBlocks) : (s.modRail r f).bus = s.bus := rfl

theorem State.rail_modRail (s : State) (r q : Rail) (f : RailBlocks → RailBlocks) :
    (s.modRail r f).rail q = if q = r then f (s.rail q) else s.rail q :=
  Both.get_modify s.rails r q f

@[simp] theorem State.rail_modRail_same (s : State) (r : Rail) (f : RailBlocks → RailBlocks) :
    (s.modRail r f).rail r = f (s.rail r) :=
  Both.get_modify_same s.rails r f

@[simp] theorem State.modSeq_pending (s : State) (r : Rail) (f : Sequencer → Sequencer) : (s.modSeq r f).pending = s.pending := rfl
@[simp] theorem State.modSeq_device (s : State) (r : Rail) (f : Sequencer → Sequencer) : (s.modSeq r f).device = s.device := rfl
@[simp] theorem State.modSeq_pos (s : State) (r : Rail) (f : Sequencer → Sequencer) : (s.modSeq r f).pos = s.pos := rfl
@[simp] theorem State.modSeq_plans (s : State) (r : Rail) (f : Sequencer → Sequencer) : (s.modSeq r f).plans = s.plans := rfl
@[simp] theorem State.modSeq_coupling (s : State) (r : Rail) (f : Sequencer → Sequencer) : (s.modSeq r f).coupling = s.coupling := rfl
@[simp] theorem State.modSeq_indicationCounter (s : State) (r : Rail) (f : Sequencer → Sequencer) : (s.modSeq r f).indicationCounter = s.indicationCounter := rfl
@[simp] theorem State.modSeq_alarm (s : State) (r : Rail) (f : Sequencer → Sequencer) : (s.modSeq r f).alarm = s.alarm := rfl
@[simp] theorem State.modSeq_req (s : State) (r : Rail) (f : Sequencer → Sequencer) : (s.modSeq r f).req = s.req := rfl
@[simp] theorem State.modSeq_jrn (s : State) (r : Rail) (f : Sequencer → Sequencer) : (s.modSeq r f).jrn = s.jrn := rfl
@[simp] theorem State.modSeq_bus (s : State) (r : Rail) (f : Sequencer → Sequencer) : (s.modSeq r f).bus = s.bus := rfl
@[simp] theorem State.modSeq_seq_same (s : State) (r : Rail) (f : Sequencer → Sequencer) :
    ((s.modSeq r f).rail r).seq = f (s.rail r).seq := by
  cases r <;> rfl
theorem State.modSeq_seq (s : State) (r q : Rail) (f : Sequencer → Sequencer) :
    ((s.modSeq r f).rail q).seq = if q = r then f (s.rail q).seq else (s.rail q).seq := by
  cases r <;> cases q <;> rfl
@[simp] theorem State.modSeq_link (s : State) (r q : Rail) (f : Sequencer → Sequencer) :
    ((s.modSeq r f).rail q).link = (s.rail q).link := by
  cases r <;> cases q <;> rfl
@[simp] theorem State.modSeq_eval (s : State) (r q : Rail) (f : Sequencer → Sequencer) :
    ((s.modSeq r f).rail q).eval = (s.rail q).eval := by
  cases r <;> cases q <;> rfl
@[simp] theorem State.modSeq_shot (s : State) (r q : Rail) (f : Sequencer → Sequencer) :
    ((s.modSeq r f).rail q).shot = (s.rail q).shot := by
  cases r <;> cases q <;> rfl
@[simp] theorem State.modSeq_trk (s : State) (r q : Rail) (f : Sequencer → Sequencer) :
    ((s.modSeq r f).rail q).trk = (s.rail q).trk := by
  cases r <;> cases q <;> rfl
@[simp] theorem State.modSeq_asm (s : State) (r q : Rail) (f : Sequencer → Sequencer) :
    ((s.modSeq r f).rail q).asm = (s.rail q).asm := by
  cases r <;> cases q <;> rfl
@[simp] theorem State.modSeq_mrk (s : State) (r q : Rail) (f : Sequencer → Sequencer) :
    ((s.modSeq r f).rail q).mrk = (s.rail q).mrk := by
  cases r <;> cases q <;> rfl

@[simp] theorem State.modLink_pending (s : State) (r : Rail) (f : Link → Link) : (s.modLink r f).pending = s.pending := rfl
@[simp] theorem State.modLink_device (s : State) (r : Rail) (f : Link → Link) : (s.modLink r f).device = s.device := rfl
@[simp] theorem State.modLink_pos (s : State) (r : Rail) (f : Link → Link) : (s.modLink r f).pos = s.pos := rfl
@[simp] theorem State.modLink_plans (s : State) (r : Rail) (f : Link → Link) : (s.modLink r f).plans = s.plans := rfl
@[simp] theorem State.modLink_coupling (s : State) (r : Rail) (f : Link → Link) : (s.modLink r f).coupling = s.coupling := rfl
@[simp] theorem State.modLink_indicationCounter (s : State) (r : Rail) (f : Link → Link) : (s.modLink r f).indicationCounter = s.indicationCounter := rfl
@[simp] theorem State.modLink_alarm (s : State) (r : Rail) (f : Link → Link) : (s.modLink r f).alarm = s.alarm := rfl
@[simp] theorem State.modLink_req (s : State) (r : Rail) (f : Link → Link) : (s.modLink r f).req = s.req := rfl
@[simp] theorem State.modLink_jrn (s : State) (r : Rail) (f : Link → Link) : (s.modLink r f).jrn = s.jrn := rfl
@[simp] theorem State.modLink_bus (s : State) (r : Rail) (f : Link → Link) : (s.modLink r f).bus = s.bus := rfl
@[simp] theorem State.modLink_seq (s : State) (r q : Rail) (f : Link → Link) :
    ((s.modLink r f).rail q).seq = (s.rail q).seq := by
  cases r <;> cases q <;> rfl
@[simp] theorem State.modLink_link_same (s : State) (r : Rail) (f : Link → Link) :
    ((s.modLink r f).rail r).link = f (s.rail r).link := by
  cases r <;> rfl
theorem State.modLink_link (s : State) (r q : Rail) (f : Link → Link) :
    ((s.modLink r f).rail q).link = if q = r then f (s.rail q).link else (s.rail q).link := by
  cases r <;> cases q <;> rfl
@[simp] theorem State.modLink_eval (s : State) (r q : Rail) (f : Link → Link) :
    ((s.modLink r f).rail q).eval = (s.rail q).eval := by
  cases r <;> cases q <;> rfl
@[simp] theorem State.modLink_shot (s : State) (r q : Rail) (f : Link → Link) :
    ((s.modLink r f).rail q).shot = (s.rail q).shot := by
  cases r <;> cases q <;> rfl
@[simp] theorem State.modLink_trk (s : State) (r q : Rail) (f : Link → Link) :
    ((s.modLink r f).rail q).trk = (s.rail q).trk := by
  cases r <;> cases q <;> rfl
@[simp] theorem State.modLink_asm (s : State) (r q : Rail) (f : Link → Link) :
    ((s.modLink r f).rail q).asm = (s.rail q).asm := by
  cases r <;> cases q <;> rfl
@[simp] theorem State.modLink_mrk (s : State) (r q : Rail) (f : Link → Link) :
    ((s.modLink r f).rail q).mrk = (s.rail q).mrk := by
  cases r <;> cases q <;> rfl

@[simp] theorem State.modEval_pending (s : State) (r : Rail) (f : Evaluator → Evaluator) : (s.modEval r f).pending = s.pending := rfl
@[simp] theorem State.modEval_device (s : State) (r : Rail) (f : Evaluator → Evaluator) : (s.modEval r f).device = s.device := rfl
@[simp] theorem State.modEval_pos (s : State) (r : Rail) (f : Evaluator → Evaluator) : (s.modEval r f).pos = s.pos := rfl
@[simp] theorem State.modEval_plans (s : State) (r : Rail) (f : Evaluator → Evaluator) : (s.modEval r f).plans = s.plans := rfl
@[simp] theorem State.modEval_coupling (s : State) (r : Rail) (f : Evaluator → Evaluator) : (s.modEval r f).coupling = s.coupling := rfl
@[simp] theorem State.modEval_indicationCounter (s : State) (r : Rail) (f : Evaluator → Evaluator) : (s.modEval r f).indicationCounter = s.indicationCounter := rfl
@[simp] theorem State.modEval_alarm (s : State) (r : Rail) (f : Evaluator → Evaluator) : (s.modEval r f).alarm = s.alarm := rfl
@[simp] theorem State.modEval_req (s : State) (r : Rail) (f : Evaluator → Evaluator) : (s.modEval r f).req = s.req := rfl
@[simp] theorem State.modEval_jrn (s : State) (r : Rail) (f : Evaluator → Evaluator) : (s.modEval r f).jrn = s.jrn := rfl
@[simp] theorem State.modEval_bus (s : State) (r : Rail) (f : Evaluator → Evaluator) : (s.modEval r f).bus = s.bus := rfl
@[simp] theorem State.modEval_seq (s : State) (r q : Rail) (f : Evaluator → Evaluator) :
    ((s.modEval r f).rail q).seq = (s.rail q).seq := by
  cases r <;> cases q <;> rfl
@[simp] theorem State.modEval_link (s : State) (r q : Rail) (f : Evaluator → Evaluator) :
    ((s.modEval r f).rail q).link = (s.rail q).link := by
  cases r <;> cases q <;> rfl
@[simp] theorem State.modEval_eval_same (s : State) (r : Rail) (f : Evaluator → Evaluator) :
    ((s.modEval r f).rail r).eval = f (s.rail r).eval := by
  cases r <;> rfl
theorem State.modEval_eval (s : State) (r q : Rail) (f : Evaluator → Evaluator) :
    ((s.modEval r f).rail q).eval = if q = r then f (s.rail q).eval else (s.rail q).eval := by
  cases r <;> cases q <;> rfl
@[simp] theorem State.modEval_shot (s : State) (r q : Rail) (f : Evaluator → Evaluator) :
    ((s.modEval r f).rail q).shot = (s.rail q).shot := by
  cases r <;> cases q <;> rfl
@[simp] theorem State.modEval_trk (s : State) (r q : Rail) (f : Evaluator → Evaluator) :
    ((s.modEval r f).rail q).trk = (s.rail q).trk := by
  cases r <;> cases q <;> rfl
@[simp] theorem State.modEval_asm (s : State) (r q : Rail) (f : Evaluator → Evaluator) :
    ((s.modEval r f).rail q).asm = (s.rail q).asm := by
  cases r <;> cases q <;> rfl
@[simp] theorem State.modEval_mrk (s : State) (r q : Rail) (f : Evaluator → Evaluator) :
    ((s.modEval r f).rail q).mrk = (s.rail q).mrk := by
  cases r <;> cases q <;> rfl

@[simp] theorem State.modTrk_pending (s : State) (r : Rail) (f : Tracker → Tracker) : (s.modTrk r f).pending = s.pending := rfl
@[simp] theorem State.modTrk_device (s : State) (r : Rail) (f : Tracker → Tracker) : (s.modTrk r f).device = s.device := rfl
@[simp] theorem State.modTrk_pos (s : State) (r : Rail) (f : Tracker → Tracker) : (s.modTrk r f).pos = s.pos := rfl
@[simp] theorem State.modTrk_plans (s : State) (r : Rail) (f : Tracker → Tracker) : (s.modTrk r f).plans = s.plans := rfl
@[simp] theorem State.modTrk_coupling (s : State) (r : Rail) (f : Tracker → Tracker) : (s.modTrk r f).coupling = s.coupling := rfl
@[simp] theorem State.modTrk_indicationCounter (s : State) (r : Rail) (f : Tracker → Tracker) : (s.modTrk r f).indicationCounter = s.indicationCounter := rfl
@[simp] theorem State.modTrk_alarm (s : State) (r : Rail) (f : Tracker → Tracker) : (s.modTrk r f).alarm = s.alarm := rfl
@[simp] theorem State.modTrk_req (s : State) (r : Rail) (f : Tracker → Tracker) : (s.modTrk r f).req = s.req := rfl
@[simp] theorem State.modTrk_jrn (s : State) (r : Rail) (f : Tracker → Tracker) : (s.modTrk r f).jrn = s.jrn := rfl
@[simp] theorem State.modTrk_bus (s : State) (r : Rail) (f : Tracker → Tracker) : (s.modTrk r f).bus = s.bus := rfl
@[simp] theorem State.modTrk_seq (s : State) (r q : Rail) (f : Tracker → Tracker) :
    ((s.modTrk r f).rail q).seq = (s.rail q).seq := by
  cases r <;> cases q <;> rfl
@[simp] theorem State.modTrk_link (s : State) (r q : Rail) (f : Tracker → Tracker) :
    ((s.modTrk r f).rail q).link = (s.rail q).link := by
  cases r <;> cases q <;> rfl
@[simp] theorem State.modTrk_eval (s : State) (r q : Rail) (f : Tracker → Tracker) :
    ((s.modTrk r f).rail q).eval = (s.rail q).eval := by
  cases r <;> cases q <;> rfl
@[simp] theorem State.modTrk_shot (s : State) (r q : Rail) (f : Tracker → Tracker) :
    ((s.modTrk r f).rail q).shot = (s.rail q).shot := by
  cases r <;> cases q <;> rfl
@[simp] theorem State.modTrk_trk_same (s : State) (r : Rail) (f : Tracker → Tracker) :
    ((s.modTrk r f).rail r).trk = f (s.rail r).trk := by
  cases r <;> rfl
theorem State.modTrk_trk (s : State) (r q : Rail) (f : Tracker → Tracker) :
    ((s.modTrk r f).rail q).trk = if q = r then f (s.rail q).trk else (s.rail q).trk := by
  cases r <;> cases q <;> rfl
@[simp] theorem State.modTrk_asm (s : State) (r q : Rail) (f : Tracker → Tracker) :
    ((s.modTrk r f).rail q).asm = (s.rail q).asm := by
  cases r <;> cases q <;> rfl
@[simp] theorem State.modTrk_mrk (s : State) (r q : Rail) (f : Tracker → Tracker) :
    ((s.modTrk r f).rail q).mrk = (s.rail q).mrk := by
  cases r <;> cases q <;> rfl

@[simp] theorem State.modAsm_pending (s : State) (r : Rail) (f : Assembler → Assembler) : (s.modAsm r f).pending = s.pending := rfl
@[simp] theorem State.modAsm_device (s : State) (r : Rail) (f : Assembler → Assembler) : (s.modAsm r f).device = s.device := rfl
@[simp] theorem State.modAsm_pos (s : State) (r : Rail) (f : Assembler → Assembler) : (s.modAsm r f).pos = s.pos := rfl
@[simp] theorem State.modAsm_plans (s : State) (r : Rail) (f : Assembler → Assembler) : (s.modAsm r f).plans = s.plans := rfl
@[simp] theorem State.modAsm_coupling (s : State) (r : Rail) (f : Assembler → Assembler) : (s.modAsm r f).coupling = s.coupling := rfl
@[simp] theorem State.modAsm_indicationCounter (s : State) (r : Rail) (f : Assembler → Assembler) : (s.modAsm r f).indicationCounter = s.indicationCounter := rfl
@[simp] theorem State.modAsm_alarm (s : State) (r : Rail) (f : Assembler → Assembler) : (s.modAsm r f).alarm = s.alarm := rfl
@[simp] theorem State.modAsm_req (s : State) (r : Rail) (f : Assembler → Assembler) : (s.modAsm r f).req = s.req := rfl
@[simp] theorem State.modAsm_jrn (s : State) (r : Rail) (f : Assembler → Assembler) : (s.modAsm r f).jrn = s.jrn := rfl
@[simp] theorem State.modAsm_bus (s : State) (r : Rail) (f : Assembler → Assembler) : (s.modAsm r f).bus = s.bus := rfl
@[simp] theorem State.modAsm_seq (s : State) (r q : Rail) (f : Assembler → Assembler) :
    ((s.modAsm r f).rail q).seq = (s.rail q).seq := by
  cases r <;> cases q <;> rfl
@[simp] theorem State.modAsm_link (s : State) (r q : Rail) (f : Assembler → Assembler) :
    ((s.modAsm r f).rail q).link = (s.rail q).link := by
  cases r <;> cases q <;> rfl
@[simp] theorem State.modAsm_eval (s : State) (r q : Rail) (f : Assembler → Assembler) :
    ((s.modAsm r f).rail q).eval = (s.rail q).eval := by
  cases r <;> cases q <;> rfl
@[simp] theorem State.modAsm_shot (s : State) (r q : Rail) (f : Assembler → Assembler) :
    ((s.modAsm r f).rail q).shot = (s.rail q).shot := by
  cases r <;> cases q <;> rfl
@[simp] theorem State.modAsm_trk (s : State) (r q : Rail) (f : Assembler → Assembler) :
    ((s.modAsm r f).rail q).trk = (s.rail q).trk := by
  cases r <;> cases q <;> rfl
@[simp] theorem State.modAsm_asm_same (s : State) (r : Rail) (f : Assembler → Assembler) :
    ((s.modAsm r f).rail r).asm = f (s.rail r).asm := by
  cases r <;> rfl
theorem State.modAsm_asm (s : State) (r q : Rail) (f : Assembler → Assembler) :
    ((s.modAsm r f).rail q).asm = if q = r then f (s.rail q).asm else (s.rail q).asm := by
  cases r <;> cases q <;> rfl
@[simp] theorem State.modAsm_mrk (s : State) (r q : Rail) (f : Assembler → Assembler) :
    ((s.modAsm r f).rail q).mrk = (s.rail q).mrk := by
  cases r <;> cases q <;> rfl

@[simp] theorem State.modMrk_pending (s : State) (r : Rail) (f : Marker → Marker) : (s.modMrk r f).pending = s.pending := rfl
@[simp] theorem State.modMrk_device (s : State) (r : Rail) (f : Marker → Marker) : (s.modMrk r f).device = s.device := rfl
@[simp] theorem State.modMrk_pos (s : State) (r : Rail) (f : Marker → Marker) : (s.modMrk r f).pos = s.pos := rfl
@[simp] theorem State.modMrk_plans (s : State) (r : Rail) (f : Marker → Marker) : (s.modMrk r f).plans = s.plans := rfl
@[simp] theorem State.modMrk_coupling (s : State) (r : Rail) (f : Marker → Marker) : (s.modMrk r f).coupling = s.coupling := rfl
@[simp] theorem State.modMrk_indicationCounter (s : State) (r : Rail) (f : Marker → Marker) : (s.modMrk r f).indicationCounter = s.indicationCounter := rfl
@[simp] theorem State.modMrk_alarm (s : State) (r : Rail) (f : Marker → Marker) : (s.modMrk r f).alarm = s.alarm := rfl
@[simp] theorem State.modMrk_req (s : State) (r : Rail) (f : Marker → Marker) : (s.modMrk r f).req = s.req := rfl
@[simp] theorem State.modMrk_jrn (s : State) (r : Rail) (f : Marker → Marker) : (s.modMrk r f).jrn = s.jrn := rfl
@[simp] theorem State.modMrk_bus (s : State) (r : Rail) (f : Marker → Marker) : (s.modMrk r f).bus = s.bus := rfl
@[simp] theorem State.modMrk_seq (s : State) (r q : Rail) (f : Marker → Marker) :
    ((s.modMrk r f).rail q).seq = (s.rail q).seq := by
  cases r <;> cases q <;> rfl
@[simp] theorem State.modMrk_link (s : State) (r q : Rail) (f : Marker → Marker) :
    ((s.modMrk r f).rail q).link = (s.rail q).link := by
  cases r <;> cases q <;> rfl
@[simp] theorem State.modMrk_eval (s : State) (r q : Rail) (f : Marker → Marker) :
    ((s.modMrk r f).rail q).eval = (s.rail q).eval := by
  cases r <;> cases q <;> rfl
@[simp] theorem State.modMrk_shot (s : State) (r q : Rail) (f : Marker → Marker) :
    ((s.modMrk r f).rail q).shot = (s.rail q).shot := by
  cases r <;> cases q <;> rfl
@[simp] theorem State.modMrk_trk (s : State) (r q : Rail) (f : Marker → Marker) :
    ((s.modMrk r f).rail q).trk = (s.rail q).trk := by
  cases r <;> cases q <;> rfl
@[simp] theorem State.modMrk_asm (s : State) (r q : Rail) (f : Marker → Marker) :
    ((s.modMrk r f).rail q).asm = (s.rail q).asm := by
  cases r <;> cases q <;> rfl
@[simp] theorem State.modMrk_mrk_same (s : State) (r : Rail) (f : Marker → Marker) :
    ((s.modMrk r f).rail r).mrk = f (s.rail r).mrk := by
  cases r <;> rfl
theorem State.modMrk_mrk (s : State) (r q : Rail) (f : Marker → Marker) :
    ((s.modMrk r f).rail q).mrk = if q = r then f (s.rail q).mrk else (s.rail q).mrk := by
  cases r <;> cases q <;> rfl

@[simp] theorem State.setShot_pending (s : State) (r : Rail) (x : Option Shot) : (s.setShot r x).pending = s.pending := rfl
@[simp] theorem State.setShot_device (s : State) (r : Rail) (x : Option Shot) : (s.setShot r x).device = s.device := rfl
@[simp] theorem State.setShot_pos (s : State) (r : Rail) (x : Option Shot) : (s.setShot r x).pos = s.pos := rfl
@[simp] theorem State.setShot_plans (s : State) (r : Rail) (x : Option Shot) : (s.setShot r x).plans = s.plans := rfl
@[simp] theorem State.setShot_coupling (s : State) (r : Rail) (x : Option Shot) : (s.setShot r x).coupling = s.coupling := rfl
@[simp] theorem State.setShot_indicationCounter (s : State) (r : Rail) (x : Option Shot) : (s.setShot r x).indicationCounter = s.indicationCounter := rfl
@[simp] theorem State.setShot_alarm (s : State) (r : Rail) (x : Option Shot) : (s.setShot r x).alarm = s.alarm := rfl
@[simp] theorem State.setShot_req (s : State) (r : Rail) (x : Option Shot) : (s.setShot r x).req = s.req := rfl
@[simp] theorem State.setShot_jrn (s : State) (r : Rail) (x : Option Shot) : (s.setShot r x).jrn = s.jrn := rfl
@[simp] theorem State.setShot_bus (s : State) (r : Rail) (x : Option Shot) : (s.setShot r x).bus = s.bus := rfl
@[simp] theorem State.setShot_seq (s : State) (r q : Rail) (x : Option Shot) :
    ((s.setShot r x).rail q).seq = (s.rail q).seq := by
  cases r <;> cases q <;> rfl
@[simp] theorem State.setShot_link (s : State) (r q : Rail) (x : Option Shot) :
    ((s.setShot r x).rail q).link = (s.rail q).link := by
  cases r <;> cases q <;> rfl
@[simp] theorem State.setShot_eval (s : State) (r q : Rail) (x : Option Shot) :
    ((s.setShot r x).rail q).eval = (s.rail q).eval := by
  cases r <;> cases q <;> rfl
@[simp] theorem State.setShot_shot_same (s : State) (r : Rail) (x : Option Shot) : ((s.setShot r x).rail r).shot = x := by
  cases r <;> rfl
@[simp] theorem State.setShot_trk (s : State) (r q : Rail) (x : Option Shot) :
    ((s.setShot r x).rail q).trk = (s.rail q).trk := by
  cases r <;> cases q <;> rfl
@[simp] theorem State.setShot_asm (s : State) (r q : Rail) (x : Option Shot) :
    ((s.setShot r x).rail q).asm = (s.rail q).asm := by
  cases r <;> cases q <;> rfl
@[simp] theorem State.setShot_mrk (s : State) (r q : Rail) (x : Option Shot) :
    ((s.setShot r x).rail q).mrk = (s.rail q).mrk := by
  cases r <;> cases q <;> rfl

end Sys2Proof.Machine
end

