-- ==== Sys2Proof/Laws/Emit.lean ====
section
/-! SUPPORT. What the shared operations of Machine/Emit.lean and the request rows leave alone and come to: writing an
entry keeps the device and the scan, a request's row is its owner's effect with the scan closed behind it, and several
offers come to one update of the records presented. -/

namespace Sys2Proof.Machine

/-! ## The device and the scan under entry writes (R166) -/

@[simp] theorem State.setCause_req (s : State) (c : AttnCause) : (s.setCause c).req = s.req := by
  unfold State.setCause
  split
  · rfl
  · dsimp only
    split <;> rfl

@[simp] theorem State.setCause_device (s : State) (c : AttnCause) : (s.setCause c).device = s.device := by
  unfold State.setCause
  split
  · rfl
  · dsimp only
    split <;> rfl

@[simp] theorem State.issueEntry_scan (s : State) (i : Nat) (w : EntryWrite) (b : Bool) :
    (s.issueEntry i w b).req.scan = s.req.scan := by
  unfold State.issueEntry State.announceEntry
  dsimp only
  split
  · rw [State.setCause_req]
    rfl
  · rfl

@[simp] theorem State.issueEntry_device (s : State) (i : Nat) (w : EntryWrite) (b : Bool) :
    (s.issueEntry i w b).device = s.device := by
  unfold State.issueEntry State.announceEntry
  dsimp only
  split
  · rw [State.setCause_device]
    rfl
  · rfl

@[simp] theorem State.writeEntry_scan (s : State) (i : Nat) (w : EntryWrite) :
    (s.writeEntry i w).req.scan = s.req.scan := by
  unfold State.writeEntry
  split
  · rfl
  · simp

@[simp] theorem State.writeEntry_device (s : State) (i : Nat) (w : EntryWrite) :
    (s.writeEntry i w).device = s.device := by
  unfold State.writeEntry
  split
  · rfl
  · simp

@[simp] theorem State.answer_scan (s : State) (q : Request) (st : ReqState) (code : ResultCode) (words : List Byte) :
    (s.answer q st code words).req.scan = s.req.scan := s.writeEntry_scan _ _

@[simp] theorem State.answer_device (s : State) (q : Request) (st : ReqState) (code : ResultCode) (words : List Byte) :
    (s.answer q st code words).device = s.device := s.writeEntry_device _ _

@[simp] theorem State.refuse_scan (s : State) (q : Request) (code : ResultCode) :
    (s.refuse q code).req.scan = s.req.scan := s.writeEntry_scan _ _

@[simp] theorem State.refuse_device (s : State) (q : Request) (code : ResultCode) :
    (s.refuse q code).device = s.device := s.writeEntry_device _ _

@[simp] theorem State.done_scan (s : State) (q : Request) (words : List Byte) :
    (s.done q words).req.scan = s.req.scan := s.writeEntry_scan _ _

@[simp] theorem State.done_device (s : State) (q : Request) (words : List Byte) :
    (s.done q words).device = s.device := s.writeEntry_device _ _

@[simp] theorem State.take_scan (s : State) (q : Request) : (s.take q).req.scan = s.req.scan := by
  unfold State.take
  rw [State.writeEntry_scan]
  rfl

@[simp] theorem State.take_device (s : State) (q : Request) : (s.take q).device = s.device := by
  unfold State.take
  rw [State.writeEntry_device]
  rfl

@[simp] theorem State.complete_scan (s : State) (i : Nat) (st : ReqState) (code : ResultCode) (words : List Byte) :
    (s.complete i st code words).req.scan = s.req.scan := s.writeEntry_scan _ _

@[simp] theorem State.complete_device (s : State) (i : Nat) (st : ReqState) (code : ResultCode) (words : List Byte) :
    (s.complete i st code words).device = s.device := s.writeEntry_device _ _

/-! ## The rows of the requests (R164) -/

/-- The row of a request takes the front of the scan when the kind is its own: its owner's effect on the state without
that request, with the scan closed behind the last one. -/
theorem State.takeRequest_eq (s : State) (q : Request) (rest : List Request) (kind : Request → Bool)
    (owner : State → Request → State) (h : s.req.scan = q :: rest) (hk : kind q = true) (w : State)
    (hw : owner { s with req := { s.req with scan := rest } } q = w) (h1 : w.req.scan = rest)
    (h2 : w.device.scans = true) : s.takeRequest kind owner = closeScan rest w := by
  unfold State.takeRequest
  rw [h]
  simp only [hk, if_true]
  have e : (s.modReq fun h => { h with scan := rest }) = { s with req := { s.req with scan := rest } } := rfl
  rw [e, hw]
  unfold closeScan
  rw [h1, h2]
  cases rest <;> rfl

/-! ## Offers (R171) -/

/-- One offer is the offer of a list of one. -/
theorem State.offer_eq_offered (s : State) (who : Producer) (x : Rec) : s.offer who x = s.offered who [x] := by
  unfold State.offer State.offered
  by_cases h : s.device = .unbound ∨ readerMask s.jrn.consumers x.kind = 0
  · rw [if_pos h]
    have k : (s.device != .unbound && readerMask s.jrn.consumers x.kind != 0) = false := by
      rcases h with h | h <;> simp [h]
    simp only [List.filter_cons, k, Bool.false_eq_true, if_false, List.filter_nil, List.map_nil, List.append_nil]
  · rw [if_neg h]
    have k : (s.device != .unbound && readerMask s.jrn.consumers x.kind != 0) = true := by
      rw [not_or] at h
      simp only [Bool.and_eq_true, bne_iff_ne]
      exact h
    simp only [List.filter_cons, k, if_true, List.filter_nil, List.map_cons, List.map_nil]
    rfl

/-- Offers one after another come to the offer of all of them. -/
theorem State.offered_offered (s : State) (who : Producer) (xs ys : List Rec) :
    (s.offered who xs).offered who ys = s.offered who (xs ++ ys) := by
  simp [State.offered, List.append_assoc]

/-- The offer of nothing changes nothing. -/
@[simp] theorem State.offered_nil (s : State) (who : Producer) : s.offered who [] = s := by
  simp [State.offered]

/-! ## Taking the first waiting item -/

/-- The first item that satisfies `f` behind items that do not. -/
theorem takeFirst_append {α : Type} (f : α → Bool) (before rest : List α) (x : α) (h : ∀ y ∈ before, f y = false)
    (hx : f x = true) : takeFirst f (before ++ x :: rest) = some (x, before ++ rest) := by
  induction before with
  | nil => simp [takeFirst, hx]
  | cons y ys ih =>
    have hy := h y (by simp)
    have ih' := ih fun z hz => h z (by simp [hz])
    simp [takeFirst, hy, ih']

end Sys2Proof.Machine
end

