-- ==== Sys2Proof/Laws/Frame.lean ====
section
/-! SUPPORT. The frame of the shared operations: a view of the state that most of them leave alone, and for each
operation one lemma that says so. The view holds the waiting commands, the operating state, the Position Unit, what R40 speaks of on each
rail, the BIND in progress, the stop in progress and the outbound queue. -/

namespace Sys2Proof.Machine

/-- What R40, R47, R52 and R91 speak of on one rail. -/
structure RailView where
  state : SeqState
  lift : Bool
  link : LinkState
  presence : Bool
  shot : Bool
  sent : List (List Byte)
  entries : Nat
deriving DecidableEq, Repr

/-- The view of the state. -/
structure View where
  pending : List Instr
  device : OpState
  pos : PositionUnit
  rails : Both RailView
  binding : Option Nat
  stop : Bool
  queue : List Rec
deriving DecidableEq, Repr

/-- The view of a rail. -/
def RailBlocks.view (b : RailBlocks) : RailView :=
  { state := b.seq.state, lift := b.seq.lift, link := b.link.state, presence := b.link.presence, shot := b.shot.isSome,
    sent := b.link.sent, entries := b.trk.table.length }

/-- The view of the state. -/
def State.view (s : State) : View :=
  { pending := s.pending, device := s.device, pos := s.pos, rails := ⟨s.rails.a.view, s.rails.b.view⟩, binding := s.bus.binding,
    stop := s.plans.stop.isSome, queue := s.jrn.queue }

/-! ## Updates of one block -/

@[simp] theorem State.view_pending (s : State) : s.view.pending = s.pending := rfl

@[simp] theorem State.view_device (s : State) : s.view.device = s.device := rfl

@[simp] theorem State.view_pos (s : State) : s.view.pos = s.pos := rfl

@[simp] theorem State.view_rail (s : State) (r : Rail) : s.view.rails.get r = (s.rail r).view := by cases r <;> rfl

@[simp] theorem State.view_binding (s : State) : s.view.binding = s.bus.binding := rfl

@[simp] theorem State.view_stop (s : State) : s.view.stop = s.plans.stop.isSome := rfl

@[simp] theorem State.view_queue (s : State) : s.view.queue = s.jrn.queue := rfl

theorem State.view_modRail (s : State) (r : Rail) (f : RailBlocks → RailBlocks) :
    (s.modRail r f).view = { s.view with rails := s.view.rails.set r (f (s.rail r)).view } := by
  cases r <;> rfl

theorem State.modRail_view (s : State) (r : Rail) (f : RailBlocks → RailBlocks) (h : ∀ b, (f b).view = b.view) :
    (s.modRail r f).view = s.view := by
  cases r <;> simp [State.view, State.modRail, Both.modify, Both.set, Both.get, h]

@[simp] theorem State.modEval_view (s : State) (r : Rail) (f : Evaluator → Evaluator) : (s.modEval r f).view = s.view := by
  cases r <;> rfl

@[simp] theorem State.modAsm_view (s : State) (r : Rail) (f : Assembler → Assembler) : (s.modAsm r f).view = s.view := by
  cases r <;> rfl

@[simp] theorem State.modMrk_view (s : State) (r : Rail) (f : Marker → Marker) : (s.modMrk r f).view = s.view := by
  cases r <;> rfl

@[simp] theorem State.modTrk_view (s : State) (r : Rail) (f : Tracker → Tracker)
    (h : ∀ k, (f k).table.length = k.table.length) : (s.modTrk r f).view = s.view :=
  s.modRail_view r _ fun b => by simp [RailBlocks.view, h]

@[simp] theorem State.modSeq_view (s : State) (r : Rail) (f : Sequencer → Sequencer)
    (h : ∀ q, (f q).state = q.state ∧ (f q).lift = q.lift) : (s.modSeq r f).view = s.view :=
  s.modRail_view r _ fun b => by simp [RailBlocks.view, h]

@[simp] theorem State.modLink_view (s : State) (r : Rail) (f : Link → Link)
    (h : ∀ l, (f l).state = l.state ∧ (f l).presence = l.presence ∧ (f l).sent = l.sent) :
    (s.modLink r f).view = s.view :=
  s.modRail_view r _ fun b => by simp [RailBlocks.view, h]

@[simp] theorem State.modCoupling_view (s : State) (f : CouplingMonitor → CouplingMonitor) :
    (s.modCoupling f).view = s.view := rfl

@[simp] theorem State.modAlarm_view (s : State) (f : AlarmUnit → AlarmUnit) : (s.modAlarm f).view = s.view := rfl

@[simp] theorem State.modReq_view (s : State) (f : RequestHandler → RequestHandler) : (s.modReq f).view = s.view := rfl

@[simp] theorem State.modPlans_view (s : State) (f : PlanStore → PlanStore)
    (h : (f s.plans).stop.isSome = s.plans.stop.isSome) : (s.modPlans f).view = s.view := by
  simp [State.view, State.modPlans, h]

@[simp] theorem State.modJrn_view (s : State) (f : JournalWriter → JournalWriter) (h : (f s.jrn).queue = s.jrn.queue) :
    (s.modJrn f).view = s.view := by
  simp [State.view, State.modJrn, h]

@[simp] theorem State.modBus_view (s : State) (f : BusInterface → BusInterface)
    (h : (f s.bus).binding = s.bus.binding) : (s.modBus f).view = s.view := by
  simp [State.view, State.modBus, h]

@[simp] theorem State.count_view (s : State) (r : Rail) (f : SurveyCounters → SurveyCounters) :
    (s.count r f).view = s.view := by
  cases r <;> rfl

theorem State.foldl_view {α : Type} (f : State → α → State) (h : ∀ s x, (f s x).view = s.view) (xs : List α) (s : State) :
    (xs.foldl f s).view = s.view := by
  induction xs generalizing s with
  | nil => rfl
  | cons x xs ih => rw [List.foldl_cons, ih, h]

theorem State.bothRails_view (f : Rail → State → State) (h : ∀ r s, (f r s).view = s.view) (s : State) :
    (s.bothRails f).view = s.view := by
  rw [State.bothRails, h, h]

end Sys2Proof.Machine
end

