-- ==== Sys2Proof/Laws/FrameBlocks.lean ====
section
/-! SUPPORT. The operations that leave the view of Laws/Frame.lean alone, block by block: one lemma for each says that
it changes neither the operating state, nor the Position Unit, nor a Sequencer's state, nor a link, nor the outbound
queue. -/

namespace Sys2Proof.Machine

/-! ## Handing on -/

theorem State.setShot_view (s : State) (r : Rail) (x : Option Shot) (h : x.isSome = (s.rail r).shot.isSome) :
    (s.setShot r x).view = s.view := by
  cases r <;> simp_all [State.view, State.setShot, State.modRail, Both.modify, Both.set, Both.get, RailBlocks.view, State.rail]

@[simp] theorem State.offer_view (s : State) (who : Producer) (x : Rec) : (State.offer s who x).view = s.view := by
  unfold State.offer
  split <;> simp

@[simp] theorem State.report_view (s : State) (who : Raiser) (x : Report) : (State.report s who x).view = s.view := by
  simp [State.report]

@[simp] theorem State.raiseReport_view (s : State) (who : Raiser) (src : Source) (d : Detail) :
    (State.raiseReport s who src d).view = s.view := by
  simp [State.raiseReport]

@[simp] theorem State.issue_view (s : State) (xs : List BusAction) : (State.issue s xs).view = s.view := by
  simp [State.issue]

@[simp] theorem State.setCause_view (s : State) (c : AttnCause) : (State.setCause s c).view = s.view := by
  unfold State.setCause
  dsimp only
  (repeat' split) <;> simp

@[simp] theorem State.rewriteStatus_view (s : State) : (State.rewriteStatus s).view = s.view := by
  simp [State.rewriteStatus]

@[simp] theorem State.announce_view (s : State) : (State.announce s).view = s.view := by
  simp [State.announce]

@[simp] theorem State.announceEntry_view (s : State) (start stop : Nat) :
    (State.announceEntry s start stop).view = s.view := by
  simp [State.announceEntry]

@[simp] theorem State.issueEntry_view (s : State) (i : Nat) (w : EntryWrite) (repeated : Bool) :
    (State.issueEntry s i w repeated).view = s.view := by
  unfold State.issueEntry
  dsimp only
  (repeat' split) <;> simp

@[simp] theorem State.writeEntry_view (s : State) (i : Nat) (w : EntryWrite) :
    (State.writeEntry s i w).view = s.view := by
  unfold State.writeEntry
  split <;> simp

@[simp] theorem State.complete_view (s : State) (i : Nat) (state : ReqState) (code : ResultCode) (words : List Byte) :
    (State.complete s i state code words).view = s.view := by
  simp [State.complete]

@[simp] theorem State.answer_view (s : State) (q : Request) (state : ReqState) (code : ResultCode) (words : List Byte) :
    (State.answer s q state code words).view = s.view := by
  simp [State.answer]

@[simp] theorem State.refuse_view (s : State) (q : Request) (code : ResultCode) :
    (State.refuse s q code).view = s.view := by
  simp [State.refuse]

@[simp] theorem State.done_view (s : State) (q : Request) (words : List Byte) :
    (State.done s q words).view = s.view := by
  simp [State.done]

@[simp] theorem State.take_view (s : State) (q : Request) : (State.take s q).view = s.view := by
  simp [State.take]

/-! ## Alarm sources -/

@[simp] theorem State.modSource_view (s : State) (src : Source) (f : SourceRecord → SourceRecord) :
    (State.modSource s src f).view = s.view := by
  simp [State.modSource]

@[simp] theorem State.formed_view (before : Nat) (s : State) : (State.formed before s).view = s.view := by
  unfold State.formed
  split <;> simp

@[simp] theorem State.alarmRecord_view (s : State) (src : Source) (action : AlarmAction) (raises : Nat) (conflict : Bool) :
    (State.alarmRecord s src action raises conflict).view = s.view := by
  simp [State.alarmRecord]

@[simp] theorem State.maskRail_view (s : State) (src : Source) (d : Detail) :
    (State.maskRail s src d).view = s.view := by
  unfold State.maskRail
  split <;> simp

@[simp] theorem State.storeRaise_view (s : State) (src : Source) (d : Detail) :
    (State.storeRaise s src d).view = s.view := by
  simp [State.storeRaise]

@[simp] theorem State.pend_view (s : State) (src : Source) : (State.pend s src).view = s.view := by
  simp [State.pend]

@[simp] theorem State.countRaise_view (s : State) (src : Source) : (State.countRaise s src).view = s.view := by
  simp [State.countRaise]

@[simp] theorem State.suppressRaise_view (s : State) (src : Source) : (State.suppressRaise s src).view = s.view := by
  simp [State.suppressRaise]

@[simp] theorem State.raiseSoft_view (s : State) (src : Source) : (State.raiseSoft s src).view = s.view := by
  unfold State.raiseSoft
  split <;> simp

@[simp] theorem State.unmaskRail_view (s : State) (src : Source) (rail : Option Rail) :
    (State.unmaskRail s src rail).view = s.view := by
  unfold State.unmaskRail
  split <;> simp

@[simp] theorem State.endCondition_view (s : State) (src : Source) (rail : Option Rail) :
    (State.endCondition s src rail).view = s.view := by
  unfold State.endCondition
  dsimp only
  split
  · exact s.unmaskRail_view src rail
  · split <;> simp

theorem State.eachSource_view (s : State) (f : State → Source → State) (h : ∀ s x, (f s x).view = s.view) :
    (s.eachSource f).view = s.view :=
  State.foldl_view f h _ s

@[simp] theorem State.suppressionEnds_view (s : State) : (State.suppressionEnds s).view = s.view := by
  unfold State.suppressionEnds
  rw [State.formed_view]
  exact s.eachSource_view _ fun s x => by split <;> simp

@[simp] theorem State.clearDisabled_view (s : State) (src : Source) : (State.clearDisabled s src).view = s.view := by
  unfold State.clearDisabled
  dsimp only
  (repeat' split) <;> simp

@[simp] theorem State.raiseWaiting_view (s : State) (src : Source) : (State.raiseWaiting s src).view = s.view := by
  unfold State.raiseWaiting
  split <;> simp

@[simp] theorem State.setSoftLevels_view (s : State) (levels : List Nat) :
    (State.setSoftLevels s levels).view = s.view := by
  unfold State.setSoftLevels
  dsimp only
  rw [State.formed_view, State.eachSource_view _ _ State.raiseWaiting_view, State.eachSource_view _ _ State.clearDisabled_view]
  rfl

@[simp] theorem State.defaultLevels_view (s : State) : (State.defaultLevels s).view = s.view := by
  simp [State.defaultLevels]

/-! ## Firing -/

@[simp] theorem State.sweepEnded_view (s : State) (r : Rail) : (State.sweepEnded s r).view = s.view := by
  simp [State.sweepEnded]

@[simp] theorem State.countSweep_view (s : State) (r : Rail) : (State.countSweep s r).view = s.view := by
  simp [State.countSweep]

@[simp] theorem State.countTruncated_view (s : State) (r : Rail) : (State.countTruncated s r).view = s.view := by
  simp [State.countTruncated]

@[simp] theorem State.countSweepOf_view (s : State) (r : Rail) (x : Shot) :
    (State.countSweepOf s r x).view = s.view := by
  unfold State.countSweepOf
  split <;> simp

@[simp] theorem State.reportHeld_view (s : State) (r : Rail) : (State.reportHeld s r).view = s.view := by
  unfold State.reportHeld
  dsimp only
  split
  · rw [State.modPlans_view _ _ rfl]
    exact s.modSeq_view r _ fun q => ⟨rfl, rfl⟩
  · rfl

@[simp] theorem State.strayFrame_view (s : State) (r : Rail) : (State.strayFrame s r).view = s.view := by
  simp [State.strayFrame]

@[simp] theorem State.frontEndWarning_view (s : State) (r : Rail) (flags : BitVec 8) :
    (State.frontEndWarning s r flags).view = s.view := by
  unfold State.frontEndWarning
  split <;> simp

@[simp] theorem State.readNozzles_view (s : State) (r : Rail) : (State.readNozzles s r).view = s.view := by
  unfold State.readNozzles
  split <;> simp

@[simp] theorem State.strike_view (s : State) (strikes : List Strike) : (State.strike s strikes).view = s.view := by
  refine (State.bothRails_view _ (fun r s => s.readNozzles_view r) _).trans (s.modPlans_view _ ?_)
  generalize s.plans = p
  induction strikes generalizing p with
  | nil => rfl
  | cons k ks ih => exact (ih _).trans (by cases h : k.role <;> simp [h])

@[simp] theorem State.countUntested_view (s : State) (r : Rail) : (State.countUntested s r).view = s.view := by
  simp [State.countUntested]

@[simp] theorem State.putNotices_view (s : State) (r : Rail) (xs : List SeqNotice) :
    (State.putNotices s r xs).view = s.view := by
  simp [State.putNotices]

@[simp] theorem State.clearRailCounts_view (s : State) (r : Rail) : (State.clearRailCounts s r).view = s.view := by
  cases r <;> rfl

@[simp] theorem State.takeSurvey_view (s : State) (r : Rail) (t p : Nat) :
    (State.takeSurvey s r t p).view = s.view := by
  simp [State.takeSurvey]

/-! ## The Coupling Monitor -/

@[simp] theorem State.setElement_view (s : State) (r : Rail) (e : Nat) (x : ElementRecord) :
    (State.setElement s r e x).view = s.view := by
  simp [State.setElement]

@[simp] theorem State.recordLoss_view (s : State) (r : Rail) (e : Nat) (reason : CouplingReason) (restored : Option Nat) :
    (State.recordLoss s r e reason restored).view = s.view := by
  unfold State.recordLoss
  split <;> simp

@[simp] theorem State.reportLossEnd_view (s : State) : (State.reportLossEnd s).view = s.view := by
  unfold State.reportLossEnd
  split <;> simp

@[simp] theorem State.resetElement_view (s : State) (r : Rail) (reason : CouplingReason) (f : Nat → CouplingState) (e : Nat) :
    (State.resetElement s r reason f e).view = s.view := by
  simp [State.resetElement]

@[simp] theorem State.resetElements_view (s : State) (r : Rail) (reason : CouplingReason) (f : Nat → CouplingState) :
    (State.resetElements s r reason f).view = s.view :=
  State.foldl_view _ (fun s e => s.resetElement_view r reason f e) _ s

@[simp] theorem State.putRelease_view (s : State) (r : Rail) (xs : List ReleaseItem) :
    (State.putRelease s r xs).view = s.view := by
  simp [State.putRelease]

@[simp] theorem State.judgeResult_view (s : State) (r : Rail) (e : Nat) (present : Bool) (pc : Nat) :
    (State.judgeResult s r e present pc).view = s.view := by
  unfold State.judgeResult
  dsimp only
  (repeat' split) <;> simp

@[simp] theorem State.filterHit_view (s : State) (r : Rail) (h : Hit) : (State.filterHit s r h).view = s.view := by
  unfold State.filterHit
  split <;> simp

@[simp] theorem State.liftRail_view (s : State) (r : Rail) : (State.liftRail s r).view = s.view := by
  simp [State.liftRail]

@[simp] theorem State.releaseRail_view (s : State) (r : Rail) : (State.releaseRail s r).view = s.view :=
  State.foldl_view _ (fun s e => by split <;> simp) _ s

@[simp] theorem State.takeCarriage_view (r : Rail) (s : State) (x : CarriageNotice) :
    (State.takeCarriage r s x).view = s.view := by
  cases x <;> simp [State.takeCarriage]

@[simp] theorem State.carriageInStep_view (s : State) (r : Rail) : (State.carriageInStep s r).view = s.view := by
  unfold State.carriageInStep
  dsimp only
  split
  · rw [State.liftRail_view, State.foldl_view _ (State.takeCarriage_view r), State.modCoupling_view]
  · rw [State.releaseRail_view, State.foldl_view _ (State.takeCarriage_view r), State.modCoupling_view]

@[simp] theorem State.couplingReset_view (s : State) : (State.couplingReset s).view = s.view := by
  simp [State.couplingReset]

@[simp] theorem State.couplingEnds_view (s : State) : (State.couplingEnds s).view = s.view := by
  simp [State.couplingEnds]

/-! ## The Track Correlator -/

@[simp] theorem State.putTrack_view (s : State) (r : Rail) (i : Nat) (x : Option Track) :
    (State.putTrack s r i x).view = s.view := by
  simp [State.putTrack]

@[simp] theorem State.sendPath_view (s : State) (r : Rail) (x : PathItem) : (State.sendPath s r x).view = s.view := by
  simp [State.sendPath]

@[simp] theorem State.dropTrack_view (s : State) (r : Rail) (i : Nat) (x : Track) (reason : DropReason) (cause : Option DropCause) :
    (State.dropTrack s r i x reason cause).view = s.view := by
  simp [State.dropTrack]

@[simp] theorem State.closeTrack_view (s : State) (r : Rail) (i : Nat) (x : Track) (reason : DropReason) (cause : Option DropCause) :
    (State.closeTrack s r i x reason cause).view = s.view := by
  unfold State.closeTrack
  split <;> simp

@[simp] theorem State.joinTrack_view (s : State) (r : Rail) (i : Nat) (k : Track) (h : Hit) :
    (State.joinTrack s r i k h).view = s.view := by
  unfold State.joinTrack
  dsimp only
  split <;> simp

@[simp] theorem State.openTrack_view (s : State) (r : Rail) (h : Hit) : (State.openTrack s r h).view = s.view := by
  unfold State.openTrack
  dsimp only
  (repeat' split) <;> simp

@[simp] theorem State.takeHit_view (s : State) (r : Rail) (h : Hit) : (State.takeHit s r h).view = s.view := by
  unfold State.takeHit
  dsimp only
  (repeat' split) <;> simp

theorem State.eachTrack_view (s : State) (r : Rail) (f : State → Nat → Track → State)
    (h : ∀ s i x, (f s i x).view = s.view) : (s.eachTrack r f).view = s.view :=
  State.foldl_view _ (fun s i => by split <;> simp [h]) _ s

@[simp] theorem State.gapClose_view (s : State) (r : Rail) (t : Nat) : (State.gapClose s r t).view = s.view :=
  s.eachTrack_view r _ fun s i k => by split <;> simp

@[simp] theorem State.putTrackNotices_view (s : State) (r : Rail) (xs : List PosNotice) :
    (State.putTrackNotices s r xs).view = s.view := by
  simp [State.putTrackNotices]

@[simp] theorem State.interrupt_view (s : State) (r : Rail) : (State.interrupt s r).view = s.view := by
  simp [State.interrupt]

@[simp] theorem State.closeAll_view (s : State) (r : Rail) (flag : BitVec 8) (reason : DropReason) (cause : DropCause) :
    (State.closeAll s r flag reason cause).view = s.view :=
  s.eachTrack_view r _ fun s i k => by simp

@[simp] theorem State.forcedClose_view (s : State) (r : Rail) (flag : BitVec 8) (reason : DropReason) (cause : DropCause) (marker : Option FlushCause) :
    (State.forcedClose s r flag reason cause marker).view = s.view := by
  unfold State.forcedClose
  dsimp only
  (repeat' split) <;> simp

@[simp] theorem State.tachClose_view (s : State) (r : Rail) : (State.tachClose s r).view = s.view := by
  simp [State.tachClose]

@[simp] theorem State.putTrackOrders_view (s : State) (r : Rail) (xs : List TrackOrder) :
    (State.putTrackOrders s r xs).view = s.view := by
  simp [State.putTrackOrders]

@[simp] theorem State.flushClose_view (s : State) (r : Rail) (tag : Nat) :
    (State.flushClose s r tag).view = s.view := by
  unfold State.flushClose
  dsimp only
  (repeat' split) <;> simp

@[simp] theorem State.discardTracks_view (s : State) (r : Rail) : (State.discardTracks s r).view = s.view :=
  s.eachTrack_view r _ fun s i k => by simp

/-! ## The Indication Assembler -/

@[simp] theorem State.drawNumber_view (s : State) : (State.drawNumber s).view = s.view := rfl

@[simp] theorem State.endFinal_view (s : State) (r : Rail) (f : Finalizing) (status : MarkerStatus) (requested : Bool) :
    (State.endFinal s r f status requested).view = s.view := by
  unfold State.endFinal
  split <;> simp

@[simp] theorem State.reportFlush_view (s : State) (r : Rail) (m : FlushMark) :
    (State.reportFlush s r m).view = s.view := by
  unfold State.reportFlush
  (repeat' split) <;> simp

@[simp] theorem State.finishJob_view (s : State) (r : Rail) (after : AfterJob) :
    (State.finishJob s r after).view = s.view := by
  unfold State.finishJob
  split <;> simp

@[simp] theorem State.runJob_view (r : Rail) (after : AfterJob) (todo : List (Entry × FinalCause)) (s : State) :
    (State.runJob r after todo s).view = s.view := by
  induction todo generalizing s with
  | nil => simp [State.runJob]
  | cons x xs ih =>
    obtain ⟨e, cause⟩ := x
    simp only [State.runJob]
    split
    · simp [ih]
    · simp

@[simp] theorem State.putPath_view (s : State) (r : Rail) (xs : List PathItem) :
    (State.putPath s r xs).view = s.view := by
  simp [State.putPath]

@[simp] theorem State.arriveAlone_view (s : State) (r : Rail) (u : Entry) :
    (State.arriveAlone s r u).view = s.view := by
  unfold State.arriveAlone
  dsimp only
  (repeat' split) <;> simp

@[simp] theorem State.arrive_view (s : State) (r : Rail) (u : Entry) : (State.arrive s r u).view = s.view := by
  unfold State.arrive
  dsimp only
  split <;> simp

/-- When the assembler takes an item of the ordered path. -/
theorem State.pathOpen_iff (s : State) (r : Rail) (item : PathItem) : s.pathOpen r item = true ↔
    (s.rail r).asm.job = none ∧ (.stopBegun ∈ (s.rail r).asm.orders → s.buildsUnderPlan r item = false) := by
  simp [State.pathOpen, State.assemblerFree, imp_iff_not_or]

@[simp] theorem State.takeSummary_view (s : State) (r : Rail) (k : Track) :
    (State.takeSummary s r k).view = s.view := by
  unfold State.takeSummary
  dsimp only
  split <;> simp

@[simp] theorem State.takeMarker_view (s : State) (r : Rail) (m : FlushMark) :
    (State.takeMarker s r m).view = s.view := by
  simp [State.takeMarker]

@[simp] theorem State.putAsmNotices_view (s : State) (r : Rail) (xs : List PosNotice) :
    (State.putAsmNotices s r xs).view = s.view := by
  simp [State.putAsmNotices]

@[simp] theorem State.putAsmOrders_view (s : State) (r : Rail) (xs : List AssemblyOrder) :
    (State.putAsmOrders s r xs).view = s.view := by
  simp [State.putAsmOrders]

@[simp] theorem State.endEntries_view (s : State) (r : Rail) : (State.endEntries s r).view = s.view := by
  simp [State.endEntries]

/-! ## The Marker Controller -/

@[simp] theorem State.modNozzle_view (s : State) (r : Rail) (j : Nat) (f : Nozzle → Nozzle) :
    (State.modNozzle s r j f).view = s.view := by
  simp [State.modNozzle]

@[simp] theorem State.unmark_view (s : State) (r : Rail) (e : MarkEntry) (reason : UnmarkedReason) :
    (State.unmark s r e reason).view = s.view := by
  simp [State.unmark]

@[simp] theorem State.sprayed_view (s : State) (r : Rail) (e : MarkEntry) : (State.sprayed s r e).view = s.view := by
  simp [State.sprayed]

@[simp] theorem State.putQueue_view (s : State) (r : Rail) (xs : List MarkEntry) :
    (State.putQueue s r xs).view = s.view := by
  simp [State.putQueue]

@[simp] theorem State.passEntry_view (s : State) (r : Rail) (e : MarkEntry) : (s.passEntry r e).1.view = s.view := by
  unfold State.passEntry
  dsimp only
  (repeat' split) <;> simp

theorem State.eachMark_view (s : State) (r : Rail) (f : State → MarkEntry → State × Option MarkEntry)
    (h : ∀ s e, (f s e).1.view = s.view) : (s.eachMark r f).view = s.view := by
  have key : ∀ (xs : List MarkEntry) (acc : State × List MarkEntry),
      (xs.foldl (fun acc e => ((f acc.1 e).1, acc.2 ++ (f acc.1 e).2.toList)) acc).1.view = acc.1.view := by
    intro xs
    induction xs with
    | nil => exact fun _ => rfl
    | cons e es ih => exact fun acc => (ih _).trans (h _ _)
  unfold State.eachMark
  dsimp only
  rw [State.modMrk_view, State.putQueue_view]
  exact key _ (s, [])

@[simp] theorem State.putMarkNotices_view (s : State) (r : Rail) (xs : List PosNotice) :
    (State.putMarkNotices s r xs).view = s.view := by
  simp [State.putMarkNotices]

@[simp] theorem State.positionChanges_view (s : State) (r : Rail) (p : Nat) :
    (State.positionChanges s r p).view = s.view := by
  unfold State.positionChanges
  dsimp only
  split
  · rw [State.eachMark_view _ _ _ fun s e => s.passEntry_view r e]
    simp
  · simp

@[simp] theorem State.placeMark_view (s : State) (r : Rail) (e : MarkEntry) (queue : List MarkEntry) (sprayedBefore : Bool) :
    (State.placeMark s r e queue sprayedBefore).view = s.view := by
  unfold State.placeMark
  split <;> simp

@[simp] theorem State.answerMark_view (s : State) (r : Rail) (x : MarkerStatus) :
    (State.answerMark s r x).view = s.view := by
  simp [State.answerMark]

@[simp] theorem State.rejectMark_view (s : State) (r : Rail) (e : MarkEntry) (reason : UnmarkedReason) (x : MarkerStatus) :
    (State.rejectMark s r e reason x).view = s.view := by
  simp [State.rejectMark]

@[simp] theorem State.mergeMark_view (s : State) (r : Rail) (e : MarkEntry) (n : Int) (within : Nat) :
    (State.mergeMark s r e n within).view = s.view := by
  simp [State.mergeMark]

@[simp] theorem State.insertRequest_view (s : State) (r : Rail) (e : MarkEntry) (n : Int) :
    (State.insertRequest s r e n).view = s.view := by
  unfold State.insertRequest
  split <;> simp

@[simp] theorem State.judgeRequest_view (s : State) (r : Rail) (e : MarkEntry) :
    (State.judgeRequest s r e).view = s.view := by
  unfold State.judgeRequest
  dsimp only
  (repeat' split) <;> simp

@[simp] theorem State.purge_view (s : State) (r : Rail) (reason : UnmarkedReason) :
    (State.purge s r reason).view = s.view := by
  unfold State.purge
  dsimp only
  rw [State.modMrk_view]
  exact State.foldl_view _ (fun s e => s.unmark_view r e reason) _ s

@[simp] theorem State.dropNozzles_view (s : State) (r : Rail) : (State.dropNozzles s r).view = s.view := by
  simp [State.dropNozzles]

@[simp] theorem State.putMarkOrders_view (s : State) (r : Rail) (xs : List MarkerOrder) :
    (State.putMarkOrders s r xs).view = s.view := by
  simp [State.putMarkOrders]

@[simp] theorem State.removeUndefined_view (s : State) (r : Rail) (descs : List (Option NozzleDesc)) :
    (State.removeUndefined s r descs).view = s.view :=
  s.eachMark_view r _ fun s e => by split <;> simp

@[simp] theorem State.translateEntry_view (s : State) (r : Rail) (delta : Int) (e : MarkEntry) :
    (s.translateEntry r delta e).1.view = s.view := by
  unfold State.translateEntry
  dsimp only
  (repeat' split) <;> simp

@[simp] theorem State.rejudge_view (s : State) (r : Rail) (old : List Nozzle) (e : MarkEntry) :
    (s.rejudge r old e).1.view = s.view := by
  unfold State.rejudge
  dsimp only
  (repeat' split) <;> simp

@[simp] theorem State.remerge_view (r : Rail) (fuel : Nat) (todo kept merged : List MarkEntry) (s : State) :
    (State.remerge r fuel todo kept merged s).view = s.view := by
  induction fuel generalizing todo kept merged s with
  | zero => exact s.putQueue_view r _
  | succ n ih =>
    cases todo with
    | nil => exact s.putQueue_view r _
    | cons e es =>
      unfold State.remerge
      dsimp only
      split
      · exact ih _ _ _ _
      · rw [ih]
        split <;> simp

@[simp] theorem State.checkNozzles_view (s : State) (r : Rail) : (State.checkNozzles s r).view = s.view := by
  unfold State.checkNozzles
  dsimp only
  rw [State.remerge_view, State.eachMark_view _ _ _ fun s e => State.rejudge_view s r _ e]
  simp

@[simp] theorem State.adoptNozzles_view (s : State) (r : Rail) : (State.adoptNozzles s r).view = s.view := by
  simp [State.adoptNozzles]

@[simp] theorem State.markerTest_view (s : State) (q : Request) : (State.markerTest s q).view = s.view := by
  unfold State.markerTest
  dsimp only
  (repeat' split) <;> simp

@[simp] theorem State.markerRelease_view (s : State) (q : Request) : (State.markerRelease s q).view = s.view := by
  unfold State.markerRelease
  dsimp only
  (repeat' split) <;> simp

@[simp] theorem State.lockMarker_view (s : State) (r : Rail) : (State.lockMarker s r).view = s.view := by
  simp [State.lockMarker]

/-! ## The Plan Store -/

@[simp] theorem State.startLoad_view (s : State) (q : Request) (purpose : LoadPurpose) :
    (State.startLoad s q purpose).view = s.view := by
  simp [State.startLoad]

@[simp] theorem State.checkPlan_view (s : State) (q : Request) : (State.checkPlan s q).view = s.view := by
  unfold State.checkPlan
  (repeat' split) <;> simp

@[simp] theorem State.activatePlan_view (s : State) (q : Request) : (State.activatePlan s q).view = s.view := by
  unfold State.activatePlan
  (repeat' split) <;> simp

@[simp] theorem State.dropLoad_view (s : State) : (State.dropLoad s).view = s.view := by
  simp [State.dropLoad]

@[simp] theorem State.cancelSnapshot_view (s : State) (r : Rail) : (State.cancelSnapshot s r).view = s.view := by
  unfold State.cancelSnapshot
  split <;> simp

@[simp] theorem State.cancelSnapshots_view (s : State) : (State.cancelSnapshots s).view = s.view :=
  State.bothRails_view _ (fun r s => by simp) s

@[simp] theorem State.cancelInBound_view (s : State) : (State.cancelInBound s).view = s.view := by
  unfold State.cancelInBound
  split <;> simp

@[simp] theorem State.orderSeq_view (s : State) (o : SeqOrder) (r : Rail) : (State.orderSeq s o r).view = s.view := by
  simp [State.orderSeq]

@[simp] theorem State.setMarks_view (s : State) (r : Rail) : (State.setMarks s r).view = s.view := by
  simp [State.setMarks]

@[simp] theorem State.swapBanks_view (s : State) : (State.swapBanks s).view = s.view := by
  simp [State.swapBanks]

@[simp] theorem State.planInForce_view (s : State) : (State.planInForce s).view = s.view := by
  simp [State.planInForce]

@[simp] theorem State.takeNozzleChecks_view (r : Rail) (orders : List MarkerOrder) (s : State) :
    (State.takeNozzleChecks r orders s).view = s.view := by
  induction orders generalizing s with
  | nil => rfl
  | cons o rest ih => cases o <;> simp [State.takeNozzleChecks, ih]

@[simp] theorem State.answerRequest_view (s : State) (r : Rail) : (State.answerRequest s r).view = s.view := by
  unfold State.answerRequest
  dsimp only
  (repeat' split) <;> simp

/-! ## What a nozzle check leaves of its rail -/

/-- The assembler of a rail, and the orders to its controller. -/
def State.outsideQueue (s : State) (r : Rail) : Assembler × List MarkerOrder := ((s.rail r).asm, (s.rail r).mrk.orders)

theorem State.modMrk_outsideQueue (s : State) (r : Rail) (f : Marker → Marker) (h : (f (s.rail r).mrk).orders = (s.rail r).mrk.orders) :
    (s.modMrk r f).outsideQueue r = s.outsideQueue r := by
  simp [State.outsideQueue, State.modMrk, h]

@[simp] theorem State.modNozzle_outsideQueue (s : State) (r : Rail) (j : Nat) (f : Nozzle → Nozzle) :
    (s.modNozzle r j f).outsideQueue r = s.outsideQueue r := s.modMrk_outsideQueue r _ rfl

@[simp] theorem State.putQueue_outsideQueue (s : State) (r : Rail) (xs : List MarkEntry) :
    (s.putQueue r xs).outsideQueue r = s.outsideQueue r := s.modMrk_outsideQueue r _ rfl

@[simp] theorem State.offer_outsideQueue (s : State) (r : Rail) (who : Producer) (x : Rec) :
    (s.offer who x).outsideQueue r = s.outsideQueue r := by
  unfold State.offer
  split <;> rfl

@[simp] theorem State.unmark_outsideQueue (s : State) (r : Rail) (e : MarkEntry) (reason : UnmarkedReason) :
    (s.unmark r e reason).outsideQueue r = s.outsideQueue r := s.offer_outsideQueue r _ _

@[simp] theorem State.sprayed_outsideQueue (s : State) (r : Rail) (e : MarkEntry) :
    (s.sprayed r e).outsideQueue r = s.outsideQueue r := s.offer_outsideQueue r _ _

theorem State.eachMark_outsideQueue (s : State) (r : Rail) (f : State → MarkEntry → State × Option MarkEntry)
    (h : ∀ s e, (f s e).1.outsideQueue r = s.outsideQueue r) : (s.eachMark r f).outsideQueue r = s.outsideQueue r := by
  have key : ∀ (xs : List MarkEntry) (acc : State × List MarkEntry),
      (xs.foldl (fun acc e => ((f acc.1 e).1, acc.2 ++ (f acc.1 e).2.toList)) acc).1.outsideQueue r =
        acc.1.outsideQueue r := by
    intro xs
    induction xs with
    | nil => exact fun _ => rfl
    | cons e es ih => exact fun acc => (ih _).trans (h _ _)
  unfold State.eachMark
  rw [State.modMrk_outsideQueue _ _ _ rfl, State.putQueue_outsideQueue]
  exact key _ (s, [])

theorem State.remerge_outsideQueue (r : Rail) (fuel : Nat) (todo kept merged : List MarkEntry) (s : State) :
    (State.remerge r fuel todo kept merged s).outsideQueue r = s.outsideQueue r := by
  induction fuel generalizing todo kept merged s with
  | zero => exact s.putQueue_outsideQueue r _
  | succ n ih =>
    cases todo with
    | nil => exact s.putQueue_outsideQueue r _
    | cons e es =>
      unfold State.remerge
      dsimp only
      split
      · exact ih _ _ _ _
      · rw [ih]
        split <;> simp

/-- A nozzle check leaves the assembler of its rail and the orders behind it as they are. -/
theorem State.checkNozzles_outsideQueue (s : State) (r : Rail) : (s.checkNozzles r).outsideQueue r = s.outsideQueue r := by
  unfold State.checkNozzles
  dsimp only
  rw [State.remerge_outsideQueue, State.eachMark_outsideQueue, State.modMrk_outsideQueue _ _ _ rfl]
  · exact State.eachMark_outsideQueue _ _ _ fun s e => by split <;> simp
  · intro s e
    unfold State.rejudge
    dsimp only
    (repeat' split) <;> simp

@[simp] theorem State.takeAnswer_view (s : State) (r : Rail) : (State.takeAnswer s r).view = s.view := by
  unfold State.takeAnswer
  (repeat' split) <;> simp

@[simp] theorem State.takeReleased_view (r : Rail) (s : State) (x : ReleaseItem) :
    (State.takeReleased r s x).view = s.view := by
  cases x <;> simp [State.takeReleased]

@[simp] theorem State.takePath_view (r : Rail) (s : State) (x : PathItem) : (State.takePath r s x).view = s.view := by
  cases x <;> simp [State.takePath]

@[simp] theorem State.endTracks_view (s : State) (r : Rail) : (State.endTracks s r).view = s.view := by
  unfold State.endTracks
  dsimp only
  split <;> simp

@[simp] theorem State.endMarks_view (s : State) (r : Rail) : (State.endMarks s r).view = s.view := by
  unfold State.endMarks
  dsimp only
  split <;> simp

@[simp] theorem State.endAssembly_view (s : State) (r : Rail) : (State.endAssembly s r).view = s.view := by
  unfold State.endAssembly
  dsimp only
  split <;> simp

@[simp] theorem State.drainReleases_view (s : State) (r : Rail) : (State.drainReleases s r).view = s.view := by
  unfold State.drainReleases
  dsimp only
  rw [foldl_view _ fun s h => State.takeHit_view s r h, State.modTrk_view _ _ (fun k => { k with hits := [] }) fun _ => rfl,
    foldl_view _ fun s x => State.takeReleased_view r s x]
  simp [State.putRelease]

@[simp] theorem State.drainPath_view (s : State) (r : Rail) : (State.drainPath s r).view = s.view := by
  unfold State.drainPath
  dsimp only
  rw [foldl_view _ fun s x => State.takePath_view r s x]
  simp

@[simp] theorem State.takeEndings_view (s : State) (r : Rail) : (State.takeEndings s r).view = s.view := by
  simp [State.takeEndings]

@[simp] theorem State.takeAllEndings_view (s : State) : (State.takeAllEndings s).view = s.view := by
  unfold State.takeAllEndings
  dsimp only
  rw [State.bothRails_view _ fun r s => by simp]
  split <;> simp

@[simp] theorem State.startRail_view (s : State) (r : Rail) : (State.startRail s r).view = s.view := by
  simp [State.startRail]

@[simp] theorem State.beginSwitch_view (s : State) (index : Nat) : (State.beginSwitch s index).view = s.view := by
  unfold State.beginSwitch
  dsimp only
  rw [State.cancelSnapshots_view, State.bothRails_view _ fun r s => by simp]
  rfl

@[simp] theorem State.startReached_view (s : State) : (State.startReached s).view = s.view := by
  unfold State.startReached
  (repeat' split) <;> simp

@[simp] theorem State.testSwitch_view (s : State) : (State.testSwitch s).view = s.view := by
  unfold State.testSwitch
  (repeat' split) <;> simp

@[simp] theorem State.modProtocol_view (s : State) (f : SwitchProtocol → SwitchProtocol) :
    (State.modProtocol s f).view = s.view := by
  simp [State.modProtocol]

@[simp] theorem State.modStop_view (s : State) (f : StopInProgress → StopInProgress) :
    (State.modStop s f).view = s.view := by
  simp [State.modStop]

@[simp] theorem State.orderTrack_view (s : State) (r : Rail) (o : TrackOrder) :
    (State.orderTrack s r o).view = s.view := by
  simp [State.orderTrack]

@[simp] theorem State.orderMark_view (s : State) (r : Rail) (o : MarkerOrder) :
    (State.orderMark s r o).view = s.view := by
  simp [State.orderMark]

@[simp] theorem State.orderAsm_view (s : State) (r : Rail) (o : AssemblyOrder) :
    (State.orderAsm s r o).view = s.view := by
  simp [State.orderAsm]

@[simp] theorem State.orderCoupling_view (s : State) (o : CouplingOrder) : (State.orderCoupling s o).view = s.view := by
  simp [State.orderCoupling]

@[simp] theorem State.railHeld_view (s : State) (r : Rail) : (State.railHeld s r).view = s.view := by
  unfold State.railHeld
  (repeat' split) <;> simp

@[simp] theorem State.swapPlans_view (s : State) : (State.swapPlans s).view = s.view := by
  unfold State.swapPlans
  dsimp only
  rw [State.announce_view, State.bothRails_view _ fun r s => by simp]
  simp

@[simp] theorem State.trySwap_view (s : State) : (State.trySwap s).view = s.view := by
  unfold State.trySwap
  (repeat' split) <;> simp

@[simp] theorem State.switchFlushed_view (s : State) (r : Rail) : (State.switchFlushed s r).view = s.view := by
  unfold State.switchFlushed
  split <;> simp

@[simp] theorem State.beginStop_view (s : State) : (State.beginStop s).view = s.view := by
  unfold State.beginStop
  dsimp only
  rw [State.cancelSnapshots_view, State.bothRails_view _ fun r s => by simp]
  exact s.modStop_view _

@[simp] theorem State.cancelPending_view (s : State) : (State.cancelPending s).view = s.view := by
  unfold State.cancelPending
  dsimp only
  (repeat' split) <;> simp

@[simp] theorem State.cancelLoad_view (s : State) : (State.cancelLoad s).view = s.view := by
  unfold State.cancelLoad
  (repeat' split) <;> simp

@[simp] theorem State.freeSeq_view (s : State) (r : Rail) : (State.freeSeq s r).view = s.view := by
  simp [State.freeSeq]

@[simp] theorem State.clearStopping_view (s : State) (r : Rail) : (State.clearStopping s r).view = s.view := by
  simp [State.clearStopping]

@[simp] theorem State.emptyActive_view (s : State) : (State.emptyActive s).view = s.view := by
  simp [State.emptyActive]

@[simp] theorem State.finishSwitch_view (s : State) (x : SwitchProtocol) : (State.finishSwitch s x).view = s.view := by
  unfold State.finishSwitch
  dsimp only
  split <;> simp [State.bothRails_view]

@[simp] theorem State.resetDone_view (s : State) : (State.resetDone s).view = s.view := by
  unfold State.resetDone
  (repeat' split) <;> simp

@[simp] theorem State.endCheck_view (s : State) (l : Load) (c : List Byte) : (State.endCheck s l c).view = s.view := by
  simp [State.endCheck]

@[simp] theorem State.disownRail_view (s : State) (r : Rail) : (State.disownRail s r).view = s.view := by
  simp [State.disownRail]

@[simp] theorem State.cancelProtocol_view (s : State) : (State.cancelProtocol s).view = s.view := by
  unfold State.cancelProtocol
  dsimp only
  (repeat' split) <;> simp

@[simp] theorem State.reportEmptied_view (s : State) (r : Rail) : (State.reportEmptied s r).view = s.view := by
  simp [State.reportEmptied]

@[simp] theorem State.resumeSwitch_view (s : State) : (State.resumeSwitch s).view = s.view := by
  simp [State.resumeSwitch]

@[simp] theorem State.lockPlans_view (s : State) : (State.lockPlans s).view = s.view := by
  unfold State.lockPlans
  dsimp only
  rw [State.bothRails_view _ fun r s => by simp]
  rfl

/-! ## The Journal Writer -/

@[simp] theorem State.loseRecord_view (s : State) (x : Rec) : (State.loseRecord s x).view = s.view := by
  unfold State.loseRecord
  dsimp only
  (repeat' split) <;> simp

@[simp] theorem State.readFails_view (s : State) (x : Rec) (masks : List Byte) :
    (State.readFails s x masks).view = s.view := by
  simp [State.readFails]

@[simp] theorem State.recordWritten_view (s : State) (x : Rec) : (State.recordWritten s x).view = s.view := by
  have h : ((s.issue (s.jrn.recordAccesses x)).modJrn fun j => j.advance x.slotCount).view = s.view :=
    (State.modJrn_view _ _ rfl).trans (s.issue_view _)
  unfold State.recordWritten
  dsimp only
  split <;> simp [h]

@[simp] theorem State.stopWriter_view (s : State) : (State.stopWriter s).view = s.view :=
  s.modJrn_view _ rfl

@[simp] theorem State.resumeWriter_view (s : State) : (State.resumeWriter s).view = s.view :=
  s.modJrn_view _ (by split <;> rfl)

/-! ## The Alarm Unit -/

@[simp] theorem State.sendTachNotices_view (s : State) : (State.sendTachNotices s).view = s.view :=
  State.bothRails_view _ (fun r s => by simp) s

@[simp] theorem State.faultEffects_view (s : State) (src : Source) : (State.faultEffects s src).view = s.view := by
  unfold State.faultEffects
  split <;> simp

@[simp] theorem State.tachConflict_view (s : State) : (State.tachConflict s).view = s.view :=
  State.bothRails_view _ (fun r s => by simp) s

@[simp] theorem State.putReports_view (s : State) (xs : List (Raiser × Report)) :
    (State.putReports s xs).view = s.view := by
  simp [State.putReports]

@[simp] theorem State.dueExpiry_view (s : State) : (State.dueExpiry s).view = s.view := by
  unfold State.dueExpiry
  split <;> simp

@[simp] theorem State.suppressStart_view (s : State) (q : Request) : (State.suppressStart s q).view = s.view := by
  unfold State.suppressStart
  dsimp only
  split <;> simp

@[simp] theorem State.suppressExtend_view (s : State) (q : Request) : (State.suppressExtend s q).view = s.view := by
  unfold State.suppressExtend
  dsimp only
  split <;> simp

@[simp] theorem State.suppressEnd_view (s : State) (q : Request) : (State.suppressEnd s q).view = s.view := by
  unfold State.suppressEnd
  dsimp only
  split <;> simp

/-! ## The Position Unit -/

@[simp] theorem State.noticeTrackers_view (s : State) (x : PosNotice) : (State.noticeTrackers s x).view = s.view :=
  State.bothRails_view _ (fun r s => by simp) s

@[simp] theorem State.noticeMarkers_view (s : State) (x : PosNotice) : (State.noticeMarkers s x).view = s.view :=
  State.bothRails_view _ (fun r s => by simp) s

@[simp] theorem State.noticeAssemblers_view (s : State) (x : PosNotice) :
    (State.noticeAssemblers s x).view = s.view :=
  State.bothRails_view _ (fun r s => by simp) s

@[simp] theorem State.noticeSequencers_view (s : State) (x : SeqNotice) :
    (State.noticeSequencers s x).view = s.view :=
  State.bothRails_view _ (fun r s => by simp) s

@[simp] theorem State.sendProgress_view (s : State) (t p : Nat) : (State.sendProgress s t p).view = s.view := by
  simp [State.sendProgress]

@[simp] theorem State.sendReversal_view (s : State) (d : Dir) (p t : Nat) :
    (State.sendReversal s d p t).view = s.view := by
  simp [State.sendReversal]

@[simp] theorem State.sendPreset_view (s : State) (oldP newP : Nat) (delta : Int) :
    (State.sendPreset s oldP newP delta).view = s.view := by
  simp [State.sendPreset]

@[simp] theorem State.raisePosition_view (s : State) (src : Source) (d : Detail) :
    (State.raisePosition s src d).view = s.view := by
  simp [State.raisePosition]

@[simp] theorem State.endPosition_view (s : State) (src : Source) : (State.endPosition s src).view = s.view := by
  simp [State.endPosition]

/-! ## The Request Handler -/

@[simp] theorem State.endScan_view (s : State) : (State.endScan s).view = s.view := by
  simp [State.endScan]

@[simp] theorem State.repeatWrites_view (s : State) : (State.repeatWrites s).view = s.view :=
  State.foldl_view _ (fun s i => by split <;> simp) _ s

@[simp] theorem State.scanTable_view (s : State) (table : Option (List Byte)) :
    (State.scanTable s table).view = s.view := by
  unfold State.scanTable
  dsimp only
  (repeat' split) <;> simp

@[simp] theorem State.flushRequest_view (s : State) (q : Request) : (State.flushRequest s q).view = s.view := by
  unfold State.flushRequest
  (repeat' split) <;> try exact s.refuse_view _ _
  exact (State.bothRails_view _ (fun r s => by simp) _).trans (by simp)

@[simp] theorem State.flushReported_view (s : State) (r : Rail) (tag : Nat) :
    (State.flushReported s r tag).view = s.view := by
  unfold State.flushReported
  dsimp only
  (repeat' split) <;> simp

@[simp] theorem State.snapshotRequest_view (s : State) (q : Request) : (State.snapshotRequest s q).view = s.view := by
  unfold State.snapshotRequest
  dsimp only
  split
  · simp
  · split
    · simp
    · split
      · simp
      · split
        · simp
        · split
          · simp
          · exact (State.setShot_view _ _ _ (by simp)).trans (by simp)

@[simp] theorem State.endSnapshot_view (s : State) (r : Rail) (x : Snapshot) (state : ReqState) (code : ResultCode) (words : List Byte) :
    (State.endSnapshot s r x state code words).view = s.view := by
  simp [State.endSnapshot]

@[simp] theorem State.sensitivityRequest_view (s : State) (q : Request) :
    (State.sensitivityRequest s q).view = s.view := by
  unfold State.sensitivityRequest
  dsimp only
  (repeat' split) <;> simp

@[simp] theorem State.moveMessage_view (s : State) (w : IssuedWrite) (stop : Nat) :
    (State.moveMessage s w stop).view = s.view := by
  unfold State.moveMessage
  dsimp only
  split <;> simp

@[simp] theorem State.withdrawCause_view (s : State) (w : IssuedWrite) : (State.withdrawCause s w).view = s.view := by
  simp [State.withdrawCause]

@[simp] theorem State.unannounce_view (s : State) (w : IssuedWrite) : (State.unannounce s w).view = s.view := by
  unfold State.unannounce
  dsimp only
  (repeat' split) <;> simp

@[simp] theorem State.entryFails_view (s : State) (i : Nat) (w : IssuedWrite) (landed : Nat) :
    (State.entryFails s i w landed).view = s.view := by
  unfold State.entryFails
  dsimp only
  split <;> simp

@[simp] theorem State.statusFails_view (s : State) (back start landed : Nat) :
    (State.statusFails s back start landed).view = s.view := by
  simp [State.statusFails]

/-! ## The Bus Interface -/

@[simp] theorem State.writeEnables_view (s : State) (v : AttnBits) : (State.writeEnables s v).view = s.view := by
  simp [State.writeEnables]

@[simp] theorem State.writeAttention_view (s : State) (v : Word) : (State.writeAttention s v).view = s.view := by
  simp [State.writeAttention]

@[simp] theorem State.bindFails_view (s : State) (e : BindError) : (State.bindFails s e).view = s.view := by
  simp [State.bindFails]

end Sys2Proof.Machine
end

