-- ==== Sys2Proof/Laws/FrameRails.lean ====
section
/-! SUPPORT. What the operations of the Sweep Sequencers, the Link Controllers and the outbound queue, and the changes
of the operating state, do to the view of Laws/Frame.lean: for each one lemma that says once everything it does to
it. -/

namespace Sys2Proof.Machine

/-- A view with one rail changed. -/
def View.modRail (v : View) (r : Rail) (f : RailView → RailView) : View := { v with rails := v.rails.modify r f }

/-- The state of a Sequencer once it has left OFF, with no shot in flight (R41). -/
def RailView.idleState (v : RailView) : SeqState := if v.lift then .lifted else if v.link = .down then .linkDown else .waiting

theorem State.modRail_viewBy (s : State) (r : Rail) (f : RailBlocks → RailBlocks) (g : RailView → RailView)
    (h : (f (s.rail r)).view = g (s.rail r).view) : (s.modRail r f).view = s.view.modRail r g := by
  cases r <;> simp_all [State.view, View.modRail, State.modRail, Both.modify, Both.set, Both.get, State.rail]

@[simp] theorem View.modRail_modRail (v : View) (r : Rail) (f g : RailView → RailView) :
    (v.modRail r f).modRail r g = v.modRail r fun x => g (f x) := by
  cases r <;> rfl

@[simp] theorem View.modRail_id (v : View) (r : Rail) : (v.modRail r fun x => x) = v := by
  cases r <;> rfl

/-! ## Shots (R47, R48, R50) -/

/-- A fired shot puts its Sequencer in SHOT and sends one frame; without a shot of that index nothing happens. -/
theorem State.fireShot_view (s : State) (r : Rail) (i : Nat) :
    (s.fireShot r i).view = s.view ∨
      ∃ frame, (s.fireShot r i).view =
        s.view.modRail r fun v => { v with state := .shot, shot := true, sent := v.sent ++ [frame] } := by
  unfold State.fireShot
  split
  · exact .inl rfl
  · exact .inr ⟨_, s.modRail_viewBy r _ _ rfl⟩

/-- An abandoned shot is no longer in flight. -/
theorem State.abandonShot_view (s : State) (r : Rail) :
    (s.abandonShot r).view = s.view.modRail r fun v => { v with shot := false } := by
  unfold State.abandonShot
  split
  · rename_i h
    cases r <;> simp_all [State.view, View.modRail, RailBlocks.view, State.rail, Both.modify, Both.set, Both.get]
  · simp only [State.countSweepOf_view, State.count_view]
    exact s.modRail_viewBy r _ _ rfl

/-- A judged shot is no longer in flight. -/
theorem State.judgeShot_view (s : State) (r : Rail) (x : Shot) (whole : Firing → Bool) :
    (s.judgeShot r x whole).view = s.view.modRail r fun v => { v with shot := false } := by
  unfold State.judgeShot
  dsimp only
  split <;> simp only [State.count_view, State.modReq_view] <;> exact s.modRail_viewBy r _ _ rfl

/-- A shot that is in the shot list is fired. -/
theorem State.fireShot_fires (s : State) (r : Rail) (i : Nat) (h : i < (Plan.shots s.plan r).length) :
    ∃ frame, (s.fireShot r i).view =
      s.view.modRail r fun v => { v with state := .shot, shot := true, sent := v.sent ++ [frame] } := by
  unfold State.fireShot
  rw [List.getElem?_eq_getElem h]
  exact ⟨_, s.modRail_viewBy r _ _ rfl⟩

/-- After a shot the next one is fired by a Sequencer still in SHOT, or the Sequencer leaves SHOT for WAITING. -/
theorem State.afterShot_view (s : State) (r : Rail) (x : Shot) :
    (s.afterShot r x).view = (s.view.modRail r fun v => { v with state := if v.state = .shot then .waiting else v.state }) ∨
      ((s.rail r).seq.state = .shot ∧ (s.rail r).seq.held = false ∧ ∃ frame, (s.afterShot r x).view =
        s.view.modRail r fun v => { v with state := .shot, shot := true, sent := v.sent ++ [frame] }) := by
  unfold State.afterShot
  dsimp only
  split
  · rename_i h
    exact .inr ⟨h.2.1, h.2.2.1, s.fireShot_fires r _ h.2.2.2⟩
  · refine .inl ?_
    simp only [State.reportHeld_view, State.countSweepOf_view]
    exact s.modRail_viewBy r _ _ rfl

/-! ## Links (R41, R57 to R59) -/

theorem State.linkGoesDown_view (s : State) (r : Rail) :
    (s.linkGoesDown r).view = s.view.modRail r fun v => { v with link := .down } := by
  cases r <;> rfl

theorem State.seqLinkDown_view (s : State) (r : Rail) :
    (s.seqLinkDown r).view =
      s.view.modRail r fun v => { v with state := if v.state = .waiting ∨ v.state = .shot then .linkDown else v.state } :=
  s.modRail_viewBy r _ _ rfl

theorem State.holdLink_view (s : State) (r : Rail) :
    (s.holdLink r).view = s.view.modRail r fun v => { v with link := .down, presence := false } := by
  unfold State.holdLink
  dsimp only
  split
  · exact (State.report_view _ _ _).trans (s.modRail_viewBy r _ _ rfl)
  · exact s.modRail_viewBy r _ _ rfl

/-- A rail taken off: its Sequencer is OFF, no shot is in flight, and its link is held DOWN. -/
theorem State.railOff_view (s : State) (r : Rail) :
    (s.railOff r).view =
      s.view.modRail r fun v => { v with state := .off, shot := false, link := .down, presence := false } := by
  have h : ∀ u : State, (u.modSeq r fun q => { q with state := .off }).view = u.view.modRail r fun v => { v with state := .off } :=
    fun u => u.modRail_viewBy r _ _ rfl
  simp only [State.railOff, State.reportHeld_view, State.holdLink_view, h, State.abandonShot_view, View.modRail_modRail]

/-- A rail let on: its presence timer runs, and its Sequencer takes the state its LIFT level and link call for. -/
theorem State.railOn_view (s : State) (r : Rail) :
    (s.railOn r).view = s.view.modRail r fun v => { v with state := v.idleState, presence := true } := by
  cases r <;> rfl

theorem State.frameCounts_view (s : State) (r : Rail) :
    (s.frameCounts r).view = s.view.modRail r fun v => { v with presence := true } :=
  s.modRail_viewBy r _ _ rfl

/-- A link that comes UP lets a Sequencer in LINK_DOWN go on to WAITING. -/
theorem State.linkComesUp_view (s : State) (r : Rail) :
    (s.linkComesUp r).view =
      s.view.modRail r fun v => { v with link := .up, state := if v.state = .linkDown then .waiting else v.state } := by
  unfold State.linkComesUp
  dsimp only
  split <;> cases r <;> rfl

/-! ## The operating state (R30, R36, R153, R156, R157) -/

theorem State.view_setDevice (s : State) (d : OpState) : { s with device := d }.view = { s.view with device := d } := rfl

/-- Both rails off. -/
def View.railsOff (v : View) : View :=
  let f : RailView → RailView := fun x => { x with state := .off, shot := false, link := .down, presence := false }
  { v with rails := ⟨f v.rails.a, f v.rails.b⟩ }

/-- Both rails let on. -/
def View.railsOn (v : View) : View :=
  let f : RailView → RailView := fun x => { x with state := x.idleState, presence := true }
  { v with rails := ⟨f v.rails.a, f v.rails.b⟩ }

theorem State.railsOn_view (s : State) : s.railsOn.view = s.view.railsOn := by
  unfold State.railsOn
  rw [State.bothRails_view _ fun r s => s.carriageInStep_view r]
  simp only [State.bothRails, State.railOn_view]
  rfl

theorem State.enterFaulted_view (s : State) : s.enterFaulted.view = { s.view with device := .faulted }.railsOff := by
  simp only [State.enterFaulted, State.bothRails, State.railOff_view]
  rfl

theorem State.lockDevice_view (s : State) (higher raised : Source) :
    (s.lockDevice higher raised).view = { s.view with device := .locked }.railsOff := by
  simp only [State.lockDevice, State.modReq_view, State.lockPlans_view, State.bothRails, State.lockMarker_view,
    State.railOff_view]
  rfl

theorem State.activateFromBound_view (s : State) (a : PendingActivation) :
    (s.activateFromBound a).view = { s.view with device := .active }.railsOn := by
  simp only [State.activateFromBound, State.announce_view, State.complete_view, State.railsOn_view, State.view_setDevice,
    State.couplingReset_view]
  rw [State.bothRails_view _ fun r s => s.startRail_view r]
  simp

/-- A stop completed: both rails are off, no stop is in progress, and the device is BOUND unless it is FAULTED. -/
theorem State.finishStop_view (s : State) (i : Nat) :
    (s.finishStop i).view =
      { s.view with device := if s.device = OpState.faulted then .faulted else .bound, stop := false }.railsOff := by
  have h : ∀ u : State, u.leaveActive.view = { u.view with device := if u.device = OpState.faulted then .faulted else .bound } := by
    intro u
    unfold State.leaveActive
    split <;> rename_i h <;> simp [State.view, State.modAlarm, h]
  have d : ∀ u v : State, u.view = v.view → u.device = v.device := fun u v e => congrArg View.device e
  simp only [State.finishStop, State.announce_view, State.cancelInBound_view, State.complete_view, h]
  generalize hu : (s.emptyActive.orderCoupling CouplingOrder.planEnded).bothRails _ = u
  have hv : u.view = s.view.railsOff := by
    rw [← hu]
    simp only [State.bothRails, State.railOff_view, State.freeSeq_view, State.dropNozzles_view, State.clearStopping_view,
      State.orderCoupling_view, State.emptyActive_view]
    rfl
  have hd : u.device = s.device := congrArg View.device hv
  have e : (u.modPlans fun p => { p with stop := none }).view = { u.view with stop := false } := rfl
  rw [e, hv]
  simp [View.railsOff, hd]

theorem State.endStop_view (s : State) : s.endStop.view = { s.view with stop := false } := by
  unfold State.endStop
  split
  · rename_i h
    simp [State.view, h]
  · rw [State.complete_view]
    rfl

theorem State.emptyAfterFault_view (s : State) : s.emptyAfterFault.view = { s.view with stop := false } := by
  simp only [State.emptyAfterFault, State.emptyActive_view]
  rw [State.bothRails_view _ fun r s => s.reportEmptied_view r]
  rw [State.orderCoupling_view, State.modCoupling_view, State.modPlans_view _ _ rfl, State.endStop_view,
    State.cancelPending_view, State.cancelProtocol_view]

/-! ## The outbound queue (R172) -/

/-- A record taken by the arbiter is appended to a queue with room; a full one keeps its length. -/
theorem State.placeRecord_view (s : State) (x : Rec) :
    ∃ queue, (s.placeRecord x).view = { s.view with queue := queue } ∧
      queue.length ≤ max Config.queueRecords s.jrn.queue.length := by
  have same : ∀ u : State, u.view = s.view → ∃ queue, u.view = { s.view with queue := queue } ∧
      queue.length ≤ max Config.queueRecords s.jrn.queue.length :=
    fun u h => ⟨s.jrn.queue, h.trans rfl, le_max_right _ _⟩
  unfold State.placeRecord
  split
  · rename_i h
    exact ⟨s.jrn.queue ++ [x], rfl, by rw [List.length_append, List.length_singleton]; omega⟩
  · split
    · exact same _ (s.loseRecord_view x)
    · split
      · exact same _ (s.loseRecord_view x)
      · split
        · exact same _ (s.loseRecord_view x)
        · rename_i i _ _ old h
          have hi : i < s.jrn.queue.length := (List.getElem?_eq_some_iff.mp h).1
          have e : ∀ u : State, (u.enqueue x).view = { u.view with queue := u.view.queue ++ [x] } := fun _ => rfl
          refine ⟨s.jrn.queue.eraseIdx i ++ [x], ?_, ?_⟩
          · rw [e, State.loseRecord_view]
            rfl
          · rw [List.length_append, List.length_eraseIdx_of_lt hi]
            simp only [List.length_singleton]
            omega

theorem State.shedHead_view (s : State) (x : Rec) :
    (s.shedHead x).view = { s.view with queue := s.jrn.queue.tail } := by
  rw [State.shedHead, State.loseRecord_view]
  rfl

/-- A room check leaves the queue as it is, or sheds its head. -/
theorem State.roomCheck_view (s : State) (x : Rec) (masks : List Byte) :
    (s.roomCheck x masks).view = s.view ∨ (s.roomCheck x masks).view = { s.view with queue := s.jrn.queue.tail } := by
  unfold State.roomCheck
  dsimp only
  split
  · exact .inl rfl
  · split
    · exact .inl rfl
    · exact .inr (State.shedHead_view _ x)

end Sys2Proof.Machine
end

