-- ==== Sys2Proof/Laws/FrameDevice.lean ====
section
/-! SUPPORT. How raises, acknowledgements and loads change the operating state: for each operation the ways in which
it can change the view of Laws/Frame.lean. -/

namespace Sys2Proof.Machine

/-! ## Faults (R153, R157) -/

/-- The device has entered FAULTED from ACTIVE or BOUND, or LOCKED from FAULTED, with both rails off. -/
def View.faultedFrom (v w : View) : Prop :=
  ((v.device = .active ∨ v.device = .bound) ∧ w = { v with device := .faulted }.railsOff) ∨
    (v.device = .faulted ∧ w = { v with device := .locked }.railsOff)

/-- A fault made PENDING leaves the view as it is, or takes the device out of normal operation. -/
theorem State.faultPends_view (s : State) (src : Source) :
    (s.faultPends src).view = s.view ∨ s.view.faultedFrom (s.faultPends src).view := by
  have h : (((s.pend src).formed s.alarm.alarmLevel).setCause .alarm).view = s.view := by simp
  have hd := congrArg View.device h
  unfold State.faultPends
  dsimp only
  revert h hd
  generalize ((s.pend src).formed s.alarm.alarmLevel).setCause .alarm = u
  intro h hd
  simp only [State.view_device] at hd
  split
  · rename_i e
    refine .inr (.inl ⟨.inl (by simpa [hd] using e), ?_⟩)
    simp [State.enterFaulted_view, h]
  · rename_i e
    refine .inr (.inl ⟨.inr (by simpa [hd] using e), ?_⟩)
    simp [State.enterFaulted_view, h]
  · rename_i e
    split
    · exact .inl (by simp [h])
    · refine .inr (.inr ⟨by simpa [hd] using e, ?_⟩)
      have ht : (if src = .tachFault then u.tachConflict else u).view = s.view := by split <;> simp [h]
      simp [State.lockDevice_view, ht]
  · exact .inl (by simp [h])
  · exact .inl h

/-- A raise taken leaves the view as it is, or takes the device out of normal operation. -/
theorem State.takeRaise_view (s : State) (src : Source) (d : Detail) :
    (s.takeRaise src d).view = s.view ∨ s.view.faultedFrom (s.takeRaise src d).view := by
  have h : (s.storeRaise src d).view = s.view := by simp
  unfold State.takeRaise
  dsimp only
  revert h
  generalize s.storeRaise src d = u
  intro h
  rw [← h]
  split
  · exact u.faultPends_view src
  · exact .inl (by simp)

/-! ## The return from FAULTED (R156) -/

/-- The device has returned to BOUND, or to ACTIVE with both rails let on: at once, or by an activation that follows the
return to BOUND. -/
def View.returned (v w : View) : Prop :=
  w = { v with device := .bound } ∨ w = { v with device := .active }.railsOn

theorem State.returnTo_view (s : State) (state : OpState) (h : state = .active ∨ state = .bound) :
    s.view.returned (s.returnTo state).view := by
  unfold State.returnTo
  dsimp only
  generalize hu : State.resumeWriter _ = u
  have hv : u.view = { s.view with device := state } := by
    rw [← hu, State.resumeWriter_view, State.modAlarm_view, State.view_setDevice]
  split
  · exact .inr (by simp [State.railsOn_view, *])
  · rename_i hn
    have hb : state = .bound := h.resolve_left hn
    unfold State.resumeActivation
    have hc : u.cancelSnapshots.announce.view = { s.view with device := .bound } := by simp [hv, hb]
    split
    · exact .inl hc
    · split
      · exact .inl (by rw [State.cancelPending_view, hc])
      · split
        · exact .inr (by rw [State.activateFromBound_view, hc])
        · exact .inl hc

/-- An acknowledgement's return leaves the view as it is, or the device leaves FAULTED, with any stop at its end or
going on. -/
theorem State.leaveFaulted_view (s : State) :
    s.leaveFaulted.view = s.view ∨
      (s.device = .faulted ∧
        ({ s.view with stop := false }.returned s.leaveFaulted.view ∨ s.view.returned s.leaveFaulted.view)) := by
  unfold State.leaveFaulted
  split
  · exact .inl rfl
  · rename_i h
    have hd : s.device = .faulted := by
      by_contra c
      exact h (.inl c)
    split
    · refine .inr ⟨hd, .inl ?_⟩
      rw [← State.emptyAfterFault_view]
      exact s.emptyAfterFault.returnTo_view .bound (.inr rfl)
    · refine .inr ⟨hd, .inr (s.returnTo_view _ ?_)⟩
      unfold AlarmUnit.returnState
      split
      · exact .inl rfl
      · exact .inr rfl

theorem State.acknowledge_view (srcs : List Source) (acc : State × Nat) :
    (srcs.foldl State.acknowledge acc).1.view = acc.1.view := by
  induction srcs generalizing acc with
  | nil => rfl
  | cons x xs ih =>
    rw [List.foldl_cons, ih]
    unfold State.acknowledge
    dsimp only
    split <;> simp

/-- ACK_ALARM changes the view only by the return from FAULTED. -/
theorem State.ackAlarm_view (s : State) (q : Request) :
    (s.ackAlarm q).view = s.view ∨ ∃ u : State, u.view = s.view ∧ (s.ackAlarm q).view = u.leaveFaulted.view := by
  unfold State.ackAlarm
  split
  · exact .inl (s.refuse_view q _)
  · refine .inr ⟨_, ?_, rfl⟩
    rw [State.answer_view, State.acknowledge_view]

/-! ## Stops and loads (R28, R30, R35, R36) -/

theorem State.railPurged_view (s : State) (r : Rail) :
    (s.railPurged r).view = s.view ∨
      (s.device ≠ .locked ∧ s.plans.stop.isSome = true ∧ (s.railPurged r).view =
        { s.view with device := if s.device = OpState.faulted then .faulted else .bound, stop := false }.railsOff) := by
  unfold State.railPurged
  split
  · exact .inl rfl
  · rename_i x hx
    dsimp only
    split
    · rename_i h
      refine .inr ⟨h.2.2, by simp [hx], ?_⟩
      rw [State.finishStop_view, State.modStop_view]
      rfl
    · exact .inl (by simp)

/-- STOP puts a stop in progress in ACTIVE, and otherwise leaves the view as it is. -/
theorem State.stopRequest_view (s : State) (q : Request) :
    (s.stopRequest q).view = s.view ∨ (s.device = .active ∧ (s.stopRequest q).view = { s.view with stop := true }) := by
  unfold State.stopRequest
  split
  · exact .inl (s.refuse_view q _)
  · rename_i hd
    split
    · exact .inl (s.refuse_view q _)
    · refine .inr ⟨by simpa using hd, ?_⟩
      have h : ∀ x : StopInProgress,
          ((s.take q).modPlans fun p => { p with stop := some x }).view = { s.view with stop := true } := by
        intro x
        have e : ∀ u : State, (u.modPlans fun p => { p with stop := some x }).view = { u.view with stop := true } :=
          fun _ => rfl
        rw [e, State.take_view]
      dsimp only
      split <;> simp [h]

/-- The end of a load leaves the view as it is, or makes a BOUND device ACTIVE. -/
theorem State.endActivationLoad_view (s : State) (l : Load) (c : List Byte) (fromActive : Bool) (mode : SwitchMode)
    (position : Nat) :
    (s.endActivationLoad l c fromActive mode position).view = s.view ∨
      (s.device = .bound ∧
        (s.endActivationLoad l c fromActive mode position).view = { s.view with device := .active }.railsOn) := by
  unfold State.endActivationLoad
  dsimp only
  split
  · exact .inl (by simp)
  · split
    · exact .inl (by simp)
    · unfold State.makePending
      dsimp only
      generalize hu : State.modPlans s _ = u
      have h : u.view = s.view := by rw [← hu]; exact State.modPlans_view _ _ rfl
      split
      · exact .inl (by simp [h])
      · split
        · rename_i hb
          exact .inr ⟨(congrArg View.device h).symm.trans hb, by rw [State.activateFromBound_view, h]⟩
        · exact .inl h

end Sys2Proof.Machine
end

