-- ==== Sys2Proof/Laws/FramePosition.lean ====
section
/-! SUPPORT. What the operations of the Position Unit do to the view of Laws/Frame.lean: each changes the Position
Unit alone, keeps it in its ranges, and never lowers T. -/

namespace Sys2Proof.Machine

/-- The ranges that hold between the carries of a count too: all of them but the remainder's. -/
def PositionUnit.inStride (u : PositionUnit) : Prop :=
  u.p ≤ Config.maxU32 ∧ u.e ≤ Config.maxU32 ∧ u.t ≤ Config.maxU32 ∧ u.score ≤ 255 ∧
    ∀ a, u.armed = some a → a.value ≤ Config.maxU32

/-- The Position Unit alone has changed: it stays within its ranges and its T has not fallen. -/
def State.moves (s t : State) : Prop :=
  t.view = { s.view with pos := t.pos } ∧ (s.pos.inStride → t.pos.inStride) ∧ s.pos.t ≤ t.pos.t

/-- As `moves`, with the remainder left where it was. -/
def State.movesWhole (s t : State) : Prop := s.moves t ∧ t.pos.rem = s.pos.rem

theorem State.moves.trans {s t u : State} (h : s.moves t) (k : t.moves u) : s.moves u :=
  ⟨by rw [k.1, h.1], fun i => k.2.1 (h.2.1 i), le_trans h.2.2 k.2.2⟩

theorem State.movesWhole.trans {s t u : State} (h : s.movesWhole t) (k : t.movesWhole u) : s.movesWhole u :=
  ⟨h.1.trans k.1, k.2.trans h.2⟩

theorem State.movesWhole_of_view {s t : State} (h : t.view = s.view) : s.movesWhole t := by
  have e : t.pos = s.pos := congrArg View.pos h
  exact ⟨⟨by rw [h, e]; rfl, fun i => by rw [e]; exact i, by rw [e]⟩, by rw [e]⟩

theorem State.movesWhole.refl (s : State) : s.movesWhole s := movesWhole_of_view rfl

theorem State.modPos_moves (s : State) (f : PositionUnit → PositionUnit)
    (h : (s.pos.inStride → (f s.pos).inStride) ∧ s.pos.t ≤ (f s.pos).t ∧ (f s.pos).rem = s.pos.rem) :
    s.movesWhole (s.modPos f) :=
  ⟨⟨rfl, h.1, h.2.1⟩, h.2.2⟩

/-! ## Conditions, direction, progress and reversal -/

theorem State.clearLimit_moves (s : State) : s.movesWhole s.clearLimit := by
  unfold State.clearLimit
  split
  · exact (s.modPos_moves _ ⟨id, le_rfl, rfl⟩).trans (movesWhole_of_view (State.endPosition_view _ _))
  · exact .refl s

theorem State.declare_moves (s : State) (d : Dir) : s.movesWhole (s.declare d) :=
  (s.modPos_moves (fun u => { u with dir := d, e := u.p }) ⟨fun h => ⟨h.1, h.1, h.2.2⟩, le_rfl, rfl⟩).trans
    (movesWhole_of_view (State.noticeMarkers_view _ _))

theorem State.testDeclaration_moves (s : State) : s.movesWhole s.testDeclaration := by
  unfold State.testDeclaration
  split
  · exact s.declare_moves _
  · split
    · exact s.declare_moves _
    · exact .refl s

theorem State.testReversal_moves (s : State) : s.movesWhole s.testReversal := by
  unfold State.testReversal
  split
  · exact (s.modPos_moves (fun u => { u with dir := s.pos.dir.flip, e := u.p })
      ⟨fun h => ⟨h.1, h.1, h.2.2⟩, le_rfl, rfl⟩).trans (movesWhole_of_view (State.sendReversal_view _ _ _ _))
  · exact .refl s

theorem State.progress_moves (s : State) : s.movesWhole s.progress := by
  have h : s.movesWhole (s.modPos fun u => { u with e := u.p }) :=
    s.modPos_moves _ ⟨fun h => ⟨h.1, h.1, h.2.2⟩, le_rfl, rfl⟩
  unfold State.progress
  dsimp only
  split
  · rename_i lt
    refine (h.trans (State.modPos_moves _ (fun u => { u with t := u.t + 1 }) ⟨fun i => ?_, Nat.le_succ _, rfl⟩)).trans
      (movesWhole_of_view (State.sendProgress_view _ _ _))
    exact ⟨i.1, i.2.1, lt, i.2.2.2⟩
  · exact h

theorem State.afterMove_moves (s : State) : s.movesWhole s.afterMove := by
  unfold State.afterMove
  split
  · exact s.progress_moves
  · exact s.testReversal_moves

/-! ## Counts and carries -/

theorem State.clampedCarry_moves (s : State) : s.movesWhole s.clampedCarry := by
  unfold State.clampedCarry
  split
  · exact .refl s
  · exact (s.modPos_moves _ ⟨id, le_rfl, rfl⟩).trans (movesWhole_of_view (State.raisePosition_view _ _ _))

theorem State.moveP_moves (s : State) (p : Nat) (hp : s.pos.inStride → p ≤ Config.maxU32) : s.movesWhole (s.moveP p) :=
  ((s.modPos_moves (fun u => { u with p := p }) ⟨fun h => ⟨hp h, h.2⟩, le_rfl, rfl⟩).trans
    (movesWhole_of_view (State.noticeMarkers_view _ _))).trans (State.clearLimit_moves _)

theorem State.addN_moves (s : State) (up : Bool) : s.movesWhole (s.addN up) := by
  unfold State.addN
  split
  · exact s.modPos_moves _ ⟨id, le_rfl, rfl⟩
  · exact .refl s

/-- The second part of a carry: P clamped at a limit, or moved by one. -/
theorem State.carryP_moves (s : State) (up : Bool) (clamped : Bool)
    (hc : clamped = if up then s.pos.p == Config.maxU32 else s.pos.p == 0) :
    s.movesWhole (if clamped then s.clampedCarry else s.moveP (if up then s.pos.p + 1 else s.pos.p - 1)) := by
  cases clamped
  · refine s.moveP_moves _ fun i => ?_
    have hp := i.1
    cases up
    · simp only [Bool.false_eq_true, if_false]
      omega
    · simp only [if_true, Bool.false_eq, beq_eq_false_iff_ne] at hc ⊢
      omega
  · exact s.clampedCarry_moves

theorem State.addN_p (s : State) (up : Bool) : (s.addN up).pos.p = s.pos.p := by
  unfold State.addN
  split <;> rfl

theorem State.carry_moves (s : State) (up : Bool) : s.movesWhole (s.carry up) := by
  have h := s.addN_moves up
  have e := s.addN_p up
  unfold State.carry
  dsimp only
  generalize hc : (if up = true then s.pos.p == Config.maxU32 else s.pos.p == 0) = clamped
  have k := (s.addN up).carryP_moves up clamped (e ▸ hc.symm)
  revert k
  generalize (if clamped = true then (s.addN up).clampedCarry
    else (s.addN up).moveP (if up = true then (s.addN up).pos.p + 1 else (s.addN up).pos.p - 1)) = v
  intro k
  cases clamped <;> simp only [Bool.false_eq_true, if_false, if_true]
  · split
    · exact (h.trans k).trans v.testDeclaration_moves
    · exact (h.trans k).trans v.afterMove_moves
  · split
    · exact (h.trans k).trans v.testDeclaration_moves
    · exact h.trans k

/-- Carries move the remainder by one millimetre each. -/
theorem State.carries_moves (up : Bool) (n : Nat) (s : State) :
    s.moves (State.carries up n s) ∧
      (State.carries up n s).pos.rem = if up then s.pos.rem - n * Config.unitsPerMm else s.pos.rem + n * Config.unitsPerMm := by
  induction n generalizing s with
  | zero => exact ⟨(State.movesWhole.refl s).1, by simp [State.carries]⟩
  | succ n ih =>
    have a : s.moves (s.modPos fun u =>
        { u with rem := if up then u.rem - Config.unitsPerMm else u.rem + Config.unitsPerMm }) := ⟨rfl, id, le_rfl⟩
    have b := State.carry_moves (s.modPos fun u =>
        { u with rem := if up then u.rem - Config.unitsPerMm else u.rem + Config.unitsPerMm }) up
    have c := ih (State.carry (s.modPos fun u =>
        { u with rem := if up then u.rem - Config.unitsPerMm else u.rem + Config.unitsPerMm }) up)
    refine ⟨(a.trans b.1).trans c.1, ?_⟩
    rw [State.carries, c.2, b.2]
    cases up <;> simp <;> ring

theorem carryCount_range (rem : Int) (up : Bool) (h : if up then 0 ≤ rem else rem < Config.unitsPerMm) :
    0 ≤ (if up then rem - carryCount rem up * Config.unitsPerMm else rem + carryCount rem up * Config.unitsPerMm) ∧
      (if up then rem - carryCount rem up * Config.unitsPerMm else rem + carryCount rem up * Config.unitsPerMm) <
        Config.unitsPerMm := by
  have e : rem.fdiv Config.unitsPerMm = rem / Config.unitsPerMm := Int.fdiv_eq_ediv_of_nonneg _ (by decide)
  simp only [carryCount, e]
  simp only [Config.unitsPerMm] at *
  cases up
  · simp only [Bool.false_eq_true, if_false] at *
    have : rem / 256000 ≤ 0 := by omega
    rw [Int.toNat_of_nonneg (by omega)]
    omega
  · simp only [if_true] at *
    rw [Int.toNat_of_nonneg (by omega)]
    omega

theorem State.drainScore_moves (s : State) : s.movesWhole s.drainScore := by
  have h : s.movesWhole (s.modPos fun u => { u with score := u.score - 1 }) :=
    s.modPos_moves _ ⟨fun h => ⟨h.1, h.2.1, h.2.2.1, le_trans (Nat.sub_le _ _) h.2.2.2.1, h.2.2.2.2⟩, le_rfl, rfl⟩
  unfold State.drainScore
  dsimp only
  split
  · refine h.trans ((State.modPos_moves _ (fun u => { u with degraded := false, fault := false })
      ⟨id, le_rfl, rfl⟩).trans (movesWhole_of_view ?_))
    split <;> split <;> simp
  · exact h

/-- A count keeps the Position Unit within its ranges, the remainder included. -/
theorem State.countTach_moves (s : State) (up : Bool) :
    s.moves (s.countTach up) ∧ (0 ≤ s.pos.rem → s.pos.rem < Config.unitsPerMm →
      0 ≤ (s.countTach up).pos.rem ∧ (s.countTach up).pos.rem < Config.unitsPerMm) := by
  have a := s.drainScore_moves
  unfold State.countTach
  dsimp only
  generalize hu : s.drainScore.modPos _ = u
  have b : s.drainScore.moves u := by rw [← hu]; exact ⟨rfl, id, le_rfl⟩
  have c := State.carries_moves up (carryCount u.pos.rem up) u
  have e : u.pos.rem = if up then s.pos.rem + s.drainScore.pos.settings.q else s.pos.rem - s.drainScore.pos.settings.q := by
    rw [← hu, ← a.2]
    rfl
  refine ⟨(a.1.trans b).trans c.1, fun lo hi => ?_⟩
  rw [c.2]
  refine carryCount_range _ _ ?_
  rw [e]
  cases up
  · simp only [Bool.false_eq_true, if_false]
    omega
  · simp only [if_true]
    omega

/-! ## Changes of the pair, presets, marks and qualification -/

/-- As `moves`, for the whole of the ranges. -/
def State.movesInRange (s t : State) : Prop :=
  t.view = { s.view with pos := t.pos } ∧ (s.pos.inRange → t.pos.inRange) ∧ s.pos.t ≤ t.pos.t

theorem State.movesInRange.trans {s t u : State} (h : s.movesInRange t) (k : t.movesInRange u) : s.movesInRange u :=
  ⟨by rw [k.1, h.1], fun i => k.2.1 (h.2.1 i), le_trans h.2.2 k.2.2⟩

theorem State.movesWhole.inRange {s t : State} (h : s.movesWhole t) : s.movesInRange t :=
  ⟨h.1.1, fun i => ⟨h.2 ▸ i.1, h.2 ▸ i.2.1, h.1.2.1 i.2.2⟩, h.1.2.2⟩

theorem State.illegalChange_moves (s : State) : s.movesWhole s.illegalChange := by
  unfold State.illegalChange
  dsimp only
  generalize hu : s.modPos _ = u
  have a : s.movesWhole u := by
    rw [← hu]
    exact s.modPos_moves _ ⟨fun h => ⟨h.1, h.2.1, h.2.2.1, Nat.min_le_left _ _, h.2.2.2.2⟩, le_rfl, rfl⟩
  have b : u.movesWhole (if 16 ≤ u.pos.score ∧ u.pos.degraded = false then
      (u.modPos fun u => { u with degraded := true }).raisePosition .tachDegraded (.score u.pos.score) else u) := by
    split
    · exact (u.modPos_moves _ ⟨id, le_rfl, rfl⟩).trans (movesWhole_of_view (State.raisePosition_view _ _ _))
    · exact .refl u
  revert b
  generalize (if 16 ≤ u.pos.score ∧ u.pos.degraded = false then
      (u.modPos fun u => { u with degraded := true }).raisePosition .tachDegraded (.score u.pos.score) else u) = v
  intro b
  split
  · exact (a.trans b).trans ((v.modPos_moves _ ⟨id, le_rfl, rfl⟩).trans
      (movesWhole_of_view (State.raisePosition_view _ _ _)))
  · exact a.trans b

theorem State.pairChange_moves (s : State) (a b a' b' : Bool) : s.movesInRange (s.pairChange a b a' b') := by
  unfold State.pairChange
  split
  · exact (State.movesWhole.refl s).inRange
  · split
    · exact s.illegalChange_moves.inRange
    · dsimp only
      split
      · have k := s.countTach_moves (legalSense (a != a') a' b')
        exact ⟨k.1.1, fun i => ⟨(k.2 i.1 i.2.1).1, (k.2 i.1 i.2.1).2, k.1.2.1 i.2.2⟩, k.1.2.2⟩
      · exact (State.movesWhole.refl s).inRange

theorem clampPos_le (x : Int) : clampPos x ≤ Config.maxU32 := by
  simp only [clampPos, Config.maxU32]
  omega

theorem State.applyPreset_moves (s : State) (v : Nat) (hv : s.pos.inStride → v ≤ Config.maxU32) : s.movesWhole (s.applyPreset v) := by
  unfold State.applyPreset
  dsimp only
  refine ((s.modPos_moves _ ⟨fun h => ⟨hv h, clampPos_le _, h.2.2⟩, le_rfl, rfl⟩).trans
    (State.clearLimit_moves _)).trans (movesWhole_of_view (State.sendPreset_view _ _ _ _))

theorem State.markEdge_moves (s : State) : s.movesInRange s.markEdge := by
  unfold State.markEdge
  split
  · exact (State.movesWhole.refl s).inRange
  · split
    · exact (movesWhole_of_view (s.offer_view _ _)).inRange
    · rename_i a h
      dsimp only
      refine (((s.applyPreset_moves a.value fun i => i.2.2.2.2 a h).trans
        (State.modPos_moves _ (fun u => { u with armed := none }) ⟨fun k => ?_, le_rfl, rfl⟩)).trans
        (movesWhole_of_view ?_)).inRange
      · exact ⟨k.1, k.2.1, k.2.2.1, k.2.2.2.1, by simp⟩
      · simp

theorem State.markChange_moves (s : State) (level : Bool) : s.movesInRange (s.markChange level) := by
  unfold State.markChange
  dsimp only
  split <;> split <;> first | exact s.markEdge_moves | exact (State.movesWhole.refl s).inRange

theorem State.acceptDue_moves (s : State) (markFirst : Bool) : s.movesInRange (s.acceptDue markFirst) := by
  unfold State.acceptDue
  dsimp only
  generalize hu : s.modPos _ = u
  have a : s.movesInRange u := by
    rw [← hu]
    exact (s.modPos_moves _ ⟨id, le_rfl, rfl⟩).inRange
  have edge : ∀ v : State, v.movesInRange
      (if s.pos.markIn.due s.pos.settings.filterTime then v.markChange v.pos.markIn.qualified else v) := by
    intro v
    split
    · exact v.markChange_moves _
    · exact (State.movesWhole.refl v).inRange
  split
  · exact (a.trans (edge _)).trans (State.pairChange_moves _ _ _ _ _)
  · exact (a.trans (State.pairChange_moves _ _ _ _ _)).trans (edge _)

theorem State.tick_moves (s : State) : s.movesInRange s.tick :=
  (s.modPos_moves _ ⟨id, le_rfl, rfl⟩).inRange.trans (State.acceptDue_moves _ _)

theorem State.loadSettings_moves (s : State) (x : PositionSettings) : s.movesInRange (s.loadSettings x) := by
  have h : s.movesInRange (s.modPos fun u => { u with settings := x }) := (s.modPos_moves _ ⟨id, le_rfl, rfl⟩).inRange
  unfold State.loadSettings
  dsimp only
  split
  · exact (h.trans (State.acceptDue_moves _ _)).trans (State.testDeclaration_moves _).inRange
  · exact (h.trans (State.acceptDue_moves _ _)).trans (State.testReversal_moves _).inRange

theorem u32At_le (c : List Byte) (i : Nat) : u32At c i ≤ Config.maxU32 := by
  have h : ∀ j, byteAt c j < 256 := fun j => (c.getD j 0).isLt
  have a := h i
  have b := h (i + 1)
  have d := h (i + 2)
  have e := h (i + 2 + 1)
  simp only [u32At, u16At, Config.maxU32]
  omega

theorem State.setPositionNow_moves (s : State) (q : Request) : s.movesWhole (s.setPositionNow q) := by
  unfold State.setPositionNow
  split
  · exact movesWhole_of_view (s.refuse_view _ _)
  · split
    · exact movesWhole_of_view (s.refuse_view _ _)
    · exact (s.applyPreset_moves _ fun _ => u32At_le _ _).trans (movesWhole_of_view (State.done_view _ _ _))

theorem State.setPositionAtMark_moves (s : State) (q : Request) : s.movesWhole (s.setPositionAtMark q) := by
  unfold State.setPositionAtMark
  split
  · exact movesWhole_of_view (s.refuse_view _ _)
  · refine (movesWhole_of_view (s.take_view q)).trans (State.modPos_moves _ _ ⟨fun h => ?_, le_rfl, rfl⟩)
    refine ⟨h.1, h.2.1, h.2.2.1, h.2.2.2.1, ?_⟩
    intro a e
    cases e
    exact u32At_le _ _

end Sys2Proof.Machine
end

