-- ==== Sys2Proof/Tests/Slice0.lean ====
section
/-! SUPPORT. Tests: the spec's worked figures, one ill-formed command for each check of `Instr.wellFormed`, and for every
statement with hypotheses a witness that concrete states and operands meet them, clause by clause. -/

namespace Sys2Proof.Tests

open Sys2Proof Sys2Proof.Machine

/-! ## The spec's worked figures -/

/-- R51: the CRC of the nine characters 1 to 9. -/
theorem test_crc : crc [0x31, 0x32, 0x33, 0x34, 0x35, 0x36, 0x37, 0x38, 0x39] = 0x29B1 := by decide +kernel

/-- R73: the four figures, as products with S of one. -/
theorem test_along_term : alongTerm 42493 32768 = 42 ∧ alongTerm 42500 32768 = 43 ∧ alongTerm 42500 (-32768) = -43 ∧
    alongTerm 42499 (-32768) = -42 := by decide

/-- R65: the two figures. -/
theorem test_effective_threshold : effectiveThreshold 40 (-64) = 1 ∧ effectiveThreshold 200 64 = 254 := by decide

/-- R61: a 16-bit count stays at 65,535. -/
theorem test_counts_saturate : bump16 65534 = 65535 ∧ bump16 65535 = 65535 := by decide

/-- R160, R161: CONTROL keeps the enables in bits 8 to 11 and the command in bits 0 to 3. -/
theorem test_control_fields : enablesOf 0x502 = ⟨true, false, true, false⟩ ∧ commandField 0x502 = 2 := by decide

/-- R180: little-endian fields. -/
theorem test_fields : u32At [0x78, 0x56, 0x34, 0x12] 0 = 0x12345678 ∧ le16 0x1234 = [0x34, 0x12] ∧
    i16At [0xFF, 0xFF] 0 = -1 := by decide

/-! ## Well-formedness: one command that each check refuses -/

theorem test_wf_refuses_sample : (Instr.sampleFrame .A []).wellFormed = false := by decide +kernel

theorem test_wf_refuses_end : (Instr.endFrame .A [3]).wellFormed = false := by decide +kernel

theorem test_wf_refuses_idle : (Instr.idleFrame .B [4, 0, 0, 0]).wellFormed = false := by decide +kernel

theorem test_wf_refuses_bad : (Instr.badFrame .A (withCrc [4, 0])).wellFormed = false := by decide +kernel

theorem test_wf_refuses_strike : (Instr.sweepStep .A [⟨.active, 16384, 0⟩]).wellFormed = false := by decide

theorem test_wf_refuses_pulse : (Instr.pulseTimerExpiry .A 4).wellFormed = false := by decide

theorem test_wf_refuses_test : (Instr.testTimerExpiry .B 4).wellFormed = false := by decide

theorem test_wf_refuses_load : (Instr.planLoadComplete (List.replicate 16385 0)).wellFormed = false := by
  decide +kernel

theorem test_wf_refuses_scan : (Instr.scanTimerExpiry (some [])).wellFormed = false := by decide

theorem test_wf_refuses_entry_index : (Instr.entryWriteError 8 0).wellFormed = false := by decide

theorem test_wf_refuses_entry_count : (Instr.entryWriteError 0 4).wellFormed = false := by decide

theorem test_wf_refuses_status : (Instr.statusWriteError ⟨0, 3⟩).wellFormed = false := by decide

theorem test_wf_refuses_journal : (Instr.journalWriteError 8).wellFormed = false := by decide

theorem test_wf_refuses_bind : (Instr.bind 2).wellFormed = false := by decide

theorem test_wf_refuses_block : (Instr.bindComplete (some [])).wellFormed = false := by decide

theorem test_wf_refuses_reset : (Instr.reset 1).wellFormed = false := by decide

theorem test_wf_refuses_none : (Instr.controlNone 2).wellFormed = false := by decide

theorem test_wf_refuses_register : (Instr.registerWrite 0x0C 0).wellFormed = false := by decide

/-! ## A plan and small states -/

/-- The descriptor of each element of the plan. -/
def planElement : List Byte := [0, 0, 0, 0] ++ le16 0 ++ le16 10 ++ le16 1500 ++ le16 30000 ++ le16 10000 ++ [0, 0]

/-- The descriptor of each group of the plan: Nc 2, Nl 3, Nr 2, G 100 and Lmax 100. -/
def planGroup : List Byte := [20, 10, 2, 3, 2, 0] ++ le16 100 ++ le16 100 ++ [0, 0]

/-- What stands before the plan's elements: a survey every 500 mm, and no default nozzle on either rail. -/
def planHead : List Byte :=
  let rail : List Byte := [5, 1, 255, 10] ++ le16 1720 ++ le16 100 ++ [10, 20] ++ le16 500 ++ le32 0
  le16 1 ++ [0, 0] ++ le32 784 ++ le32 77 ++ ([1, 2, 1, 1] ++ le16 500 ++ [0, 0] ++ (List.replicate 12 4 ++ (rail ++ rail)))

/-- What stands behind its groups: nozzle 0 of rail A alone, a class rule for rail A that asks for it, two shots on rail A
and one on rail B. -/
def planTail : List Byte :=
  let rule : List Byte := le16 0 ++ le16 0 ++ le16 0 ++ [1, 0] ++ le16 0 ++ le16 10485 ++ le32 1 ++ le32 1000 ++
    [0, 7, 3, 0] ++ le16 5 ++ le16 10 ++ le32 0
  let shot (channel : Nat) : List Byte := le16 256 ++ [1, 0] ++ [0] ++ le8 channel ++ [1, 0] ++ [0, 0, 40, 0] ++ le16 20 ++ le16 200
  [1, 0, 50, 30] ++ le16 300 ++ [0, 0] ++ (List.replicate 56 0 ++ (rule ++ (shot 0 ++ (shot 1 ++ shot 0))))

/-- A plan of 784 bytes. -/
def plan : List Byte :=
  planHead ++ ((List.replicate 24 planElement).flatten ++ ((List.replicate 16 planGroup).flatten ++ planTail))

/-- R21: the plan has no fault. -/
theorem test_plan_validates : plan.length = 784 ∧ validate plan 784 = (.none, 0) := by decide +kernel

/-- BOUND, as after a BIND with no consumer. -/
def bound : State := { State.reset with device := .bound }

/-- ACTIVE under a plan whose bytes are `c`, both links UP and both Sequencers WAITING. -/
def active (c : List Byte) : State :=
  let rail (b : RailBlocks) : RailBlocks :=
    { b with seq := { b.seq with state := .waiting }, link := { b.link with state := .up, presence := true } }
  { State.reset with
    device := .active
    rails := ⟨rail State.reset.rails.a, rail State.reset.rails.b⟩
    plans := { State.reset.plans with
      active := { state := .valid, contents := c, planId := 77, codes := ⟨some (Plan.checkCode c .A), some (Plan.checkCode c .B)⟩ } } }

/-- ACTIVE under the plan. -/
def ready : State := active plan

/-- The device in a state of operation, all else as after a reset. -/
def inState (d : OpState) : State := { State.reset with device := d }

/-- A scan with one request of a kind and its parameters left to take. -/
def asked (s : State) (kind : Nat) (params : List Byte) : State :=
  { s with req := { s.req with scan := [{ index := 0, kind := kind, tag := 9, params := params }] } }

/-- A shot of rail A with one firing of channel 0 that expects one frame. -/
def shot (last : Bool) : Shot :=
  { index := 0, last := last, listen := 64, seq := 0, pc := 0, offset := 0, railHeight := 1720, endAllowance := 10, sense := 1,
    firings := [{ element := 0, channel := 0, desc := Plan.element plan .A 0, frames := 1, received := [], damagedSeen := false,
                  gates := [], copying := false, copied := [] }] }

/-- Rail A with a shot in flight. -/
def firing (last : Bool) : State := ready.modRail .A fun b =>
  { b with shot := some (shot last), seq := { b.seq with state := .shot }, link := { b.link with endTimer := some 864 } }

/-- The states the invariants speak of hold of the reset state and of the device at work. -/
theorem test_ready_in_step : State.reset.inStep ∧ ready.inStep ∧ (firing false).inStep := by
  refine ⟨?_, ?_, ?_⟩ <;>
    refine ⟨fun r => by cases r <;> (refine ⟨?_, ?_, ?_⟩ <;> first | decide | (show _ ≠ _; decide) | (show _ ∧ _; decide)), ?_, ?_⟩ <;>
      decide

/-! ## Witnesses: the step, the queue, the resets and the invariants -/

/-- O1: no command waits; a hold time of 3 falls short of a filter time of 5 within 100 ns, and meets one of 4. -/
theorem witness_empty_queue :
    (let u (f : Nat) : State := State.reset.modPos fun x =>
       { x with tachA := ⟨true, false, some 3⟩, settings := { x.settings with filterTime := f } }
     (∀ f, (u f).pending = [] ∧ (u f).pos.settings.filterTime = f ∧ (u f).pos.tachA.hold = some 3 ∧
       (u f).pos.tachB.hold = none ∧ (u f).pos.markIn.hold = none) ∧ 3 + 1 < 5 ∧ 3 + 1 = 4) :=
  ⟨fun _ => ⟨rfl, rfl, rfl, rfl, rfl⟩, by decide, by decide⟩

/-- O4: a value whose command field is RESET, with enables set beside it. -/
theorem witness_reset_value : commandField 2 = 2 ∧ commandField 0xF02 = 2 := by decide

/-- O6, O9 to O11: states that meet the invariants, and a step. -/
theorem witness_invariants : ready.inStep ∧ State.reset.pos.inRange ∧ State.reset.bounded ∧
    ∃ t, step State.reset = .next t := by
  obtain ⟨-, h, -⟩ := test_ready_in_step
  refine ⟨h, ?_, ⟨by decide, fun r => by cases r <;> decide⟩, ⟨_, rfl⟩⟩
  refine ⟨by decide, by decide, by decide, by decide, by decide, by decide, ?_⟩
  intro a h
  cases h

/-- A progress event at the next mark, with the sweep step at the front of the queue. -/
def marked : State :=
  { ready.modSeq .A fun q => { q with notices := [.progress 0 0 false false] } with pending := [.sweepStep .A []] }

/-- What a step leaves on rail A's link. -/
def sentBy (s : State) : List (List Byte) :=
  match step s with
  | .next t => (t.rail .A).link.sent
  | .fault _ => []
  | .refused _ => []

/-- O7: a step that sends a FIRE frame, from a state in step. -/
theorem witness_fire : marked.inStep ∧ (sentBy marked).length = 1 ∧ (marked.rail .A).link.sent = [] := by
  refine ⟨⟨fun r => by cases r <;> (refine ⟨?_, ?_, ?_⟩ <;> first | decide | (show _ ∧ _; decide)), ?_, ?_⟩, ?_, ?_⟩
  · decide
  · decide
  · decide +kernel
  · decide

/-- LOCKED. -/
def locked : State := inState .locked

/-- O8: a device that is LOCKED, in step, and a command that is no reset. -/
theorem witness_locked : locked.inStep ∧ locked.device = .locked ∧ (∃ t, exec .stop locked = .next t) ∧ ¬ isReset .stop := by
  refine ⟨⟨fun r => by cases r <;> (refine ⟨?_, ?_, ?_⟩ <;> first | decide | (show _ ≠ _; decide)), ?_, ?_⟩, rfl, ⟨_, rfl⟩, ?_⟩
  · decide
  · decide
  · rintro (⟨p, h⟩ | ⟨v, -, h | h | h | h⟩) <;> cases h

/-- O10: a command that is no hardware reset. -/
theorem witness_travel : (∃ t, exec .stop State.reset = .next t) ∧ ∀ pins, Instr.stop ≠ .hardwareReset pins :=
  ⟨⟨_, rfl⟩, fun _ h => by cases h⟩

/-! ## Witnesses: position and motion -/

/-- The reset state with its Position Unit changed. -/
def withPos (f : PositionUnit → PositionUnit) : State := State.reset.modPos f

/-- O12: a filter time of 1 with a timer not yet due, and a filter time of 0 with every timer stopped. -/
theorem witness_raw_change :
    (let s := withPos fun u => { u with tachA := ⟨true, false, some 0⟩, settings := { u.settings with filterTime := 1 } }
     0 < s.pos.settings.filterTime ∧ ∀ x ∈ [s.pos.tachA, s.pos.tachB, s.pos.markIn], ∀ n, x.hold = some n →
       n < s.pos.settings.filterTime) ∧
    (let s := State.reset
     s.pos.settings.filterTime = 0 ∧ s.pos.tachA.hold = none ∧ s.pos.tachB.hold = none ∧ s.pos.markIn.hold = none ∧
       false = s.pos.markIn.qualified ∧ true ≠ s.pos.markIn.qualified ∧ true ≠ s.pos.tachA.qualified ∧
       false = s.pos.tachB.qualified) := by
  refine ⟨⟨by decide, ?_⟩, by decide⟩
  intro x hx n hn
  simp only [List.mem_cons, List.not_mem_nil, or_false] at hx
  rcases hx with rfl | rfl | rfl <;> revert hn <;> simp [withPos, State.modPos, State.reset, State.hardware,
    PositionUnit.hardware, InputLine.settled, PositionSettings.hardware]
  omega

/-- O13: the timers of two lines run out together while the third's runs on; and no timer runs. -/
theorem witness_hold_expiries :
    (let u := (withPos fun u =>
       { u with tachA := ⟨true, false, some 3⟩, tachB := ⟨true, false, some 1⟩, markIn := ⟨true, false, some 3⟩,
                settings := { u.settings with filterTime := 5 } }).pos
     let lines := [u.tachA, u.tachB, u.markIn]
     (lines.all fun x => x.hold.all fun n => decide (2 ≤ u.settings.filterTime - n)) = true ∧
       (lines.map fun x => x.hold.any fun n => u.settings.filterTime - n == 2) = [true, false, true]) ∧
    (State.reset.pos.tachA.hold = none ∧ State.reset.pos.tachB.hold = none ∧ State.reset.pos.markIn.hold = none) := by decide

/-- O13: the timer of one line alone runs. -/
theorem witness_hold_expiry :
    (let u := (withPos fun u => { u with tachA := ⟨true, false, some 3⟩ }).pos
     u.markIn.hold = none ∧ u.tachA.hold = some 3 ∧ u.tachB.hold = none ∧ u.tachA.raw ≠ u.tachA.qualified) ∧
    (let u := (withPos fun u => { u with tachB := ⟨true, false, some 3⟩ }).pos
     u.markIn.hold = none ∧ u.tachB.hold = some 3 ∧ u.tachA.hold = none ∧ u.tachB.raw ≠ u.tachB.qualified) := by decide

/-- O14: a count of 1 unit up from the greatest remainder but one, and down to 0; counts of 600,000 units that make two
carries up and three down; and one carry from the edge of the range on either side. -/
theorem witness_count :
    (withPos fun u => { u with rem := 255998, settings := { u.settings with q := 1 } }).pos.rem + 1 = 255999 ∧
    ((0 : Int) ≤ 255999 ∧ (255999 : Int) < 256000 ∧ (0 : Int) ≤ 1 - 1 ∧ (1 : Int) - 1 < 256000) ∧
    ((0 : Int) ≤ 100000 + 600000 - 256000 * (2 : Nat) ∧ (100000 : Int) + 600000 - 256000 * (2 : Nat) < 256000) ∧
    ((0 : Int) ≤ 50000 - 600000 + 256000 * (3 : Nat) ∧ (50000 : Int) - 600000 + 256000 * (3 : Nat) < 256000) ∧
    ((0 : Int) ≤ 256000 - 256000 * (1 : Nat) ∧ (0 : Int) ≤ -1 + 256000 * (1 : Nat) ∧ (-1 : Int) + 256000 * (1 : Nat) < 256000) := by
  decide

/-- O15: N one short of Rv, at Rv and at -Rv; a carry at either limit with the flag clear and set, and one that leaves a
limit; and carries one beyond E, with T at its top and below, and 9 and 10 against the direction. -/
theorem witness_carry :
    State.reset.pos.settings.rv = 10 ∧ State.reset.pos.dir = .unknown ∧
    (let n (x : Int) := (withPos fun u => { u with n := x }).pos.n
     ((10 : Int) ≤ n 9 + 1) ∧ (n 8 + 1 < 10 ∧ (-10 : Int) < n 8 + 1) ∧ (n (-9) - 1 < 10 ∧ n (-9) - 1 ≤ -10)) ∧
    (∀ b, let u := (withPos fun u => { u with dir := .increasing, p := 4294967295, limit := b }).pos
      u.dir ≠ .unknown ∧ u.p = 4294967295 ∧ u.limit = b) ∧
    (let u := (withPos fun u => { u with dir := .decreasing, limit := true }).pos
     u.dir ≠ .unknown ∧ u.p = 0 ∧ u.limit = true ∧ u.p + 1 ≠ 0 ∧ u.p + 1 ≠ 4294967295) ∧
    (∀ t, let u := (withPos fun u => { u with dir := .increasing, p := 20, e := 20, t := t }).pos
      0 < ((u.p + 1 : Nat) : Int) - u.e ∧ u.t = t) ∧
    (let u := (withPos fun u => { u with dir := .increasing, p := 20, e := 28 }).pos
     ((u.p - 1 : Nat) : Int) - u.e = -9 ∧ -(((u.p - 1 : Nat) : Int) - u.e) < 10) ∧
    (let u := (withPos fun u => { u with dir := .decreasing, p := 20, e := 11 }).pos
     (u.e : Int) - (u.p + 1 : Nat) = -10 ∧ 10 ≤ -((u.e : Int) - (u.p + 1 : Nat))) := by
  refine ⟨by decide, by decide, by decide, fun b => ⟨nofun, rfl, rfl⟩, by decide, fun t => ⟨?_, rfl⟩, by decide,
    by decide⟩
  show (0 : Int) < ((20 + 1 : Nat) : Int) - 20
  decide

/-- O16: SET_POSITION in its forms, with no preset armed and with one. -/
theorem witness_set_position :
    (∀ form ∈ [(0 : Byte), 1, 2], ∃ q rest, (asked bound 5 [form, 0, 0, 0, 1]).req.scan = q :: rest ∧ q.kind = 5 ∧
      byteAt q.params 0 = form.toNat) ∧
    bound.device.scans = true ∧ bound.pos.armed = none ∧
    (bound.modPos fun u => { u with armed := some { value := 5, index := 3 } }).pos.armed.isSome = true := by
  refine ⟨?_, by decide, by decide, by decide⟩
  intro form h
  refine ⟨_, _, rfl, rfl, ?_⟩
  simp [byteAt]

/-- O17: a mark edge that falls due, with no preset armed and with one. -/
theorem witness_mark :
    (let s := bound.modPos fun u => { u with markIn := ⟨true, false, some 0⟩ }
     s.device ≠ .unbound ∧ s.pos.tachA.hold = none ∧ s.pos.tachB.hold = none ∧ s.pos.markIn.hold = some 0 ∧
       s.pos.markIn.raw = decide (s.pos.settings.markEdge = .rising) ∧ s.pos.armed = none) ∧
    (let s := bound.modPos fun u => { u with markIn := ⟨true, false, some 0⟩, armed := some { value := 5, index := 3 } }
     s.device ≠ .unbound ∧ s.pos.markIn.hold = some 0 ∧ s.pos.markIn.raw = decide (s.pos.settings.markEdge = .rising) ∧
       s.pos.armed = some { value := 5, index := 3 }) := by decide

/-! ## Witnesses: firing and the link -/

/-- O18: an IDLE frame with no flag and one with a flag pass the checks; a frame of one byte fails them. -/
theorem witness_frames :
    readFrame (withCrc [4, 0]) = some (.idle 0) ∧ readFrame (withCrc [4, 0xF1]) = some (.idle 1) ∧
      frameGood [4] = false ∧ ready.device = .active ∧ bound.device ≠ .active ∧
      Instr.idleFrame ∈ [Instr.sampleFrame, .endFrame, .idleFrame, .badFrame] := by
  refine ⟨by decide +kernel, by decide +kernel, by decide, by decide, by decide, ?_⟩
  simp

/-- A SAMPLE frame of channel 0, index 0, with 64 samples of 5. -/
def sampleBytes : List Byte := withCrc ([2, 0, 0, 0, 0, 0] ++ List.replicate 64 5)

/-- The same SAMPLE frame of channel 4. -/
def sampleBytes4 : List Byte := withCrc ([2, 0, 4, 0, 0, 0] ++ List.replicate 64 5)

/-- An END frame with one frame on channel 0. -/
def endBytes : List Byte := withCrc [3, 0, 0, 0, 1, 0, 0, 0, 0, 0, 0, 0]

/-- O18: frames of the three types pass the checks, and one whose last byte differs does not. -/
theorem witness_frame_types :
    (frameGood sampleBytes = true ∧ sampleBytes.getD 0 0 = 2) ∧ (frameGood endBytes = true ∧ endBytes.getD 0 0 = 3) ∧
      (frameGood (withCrc [4, 0]) = true ∧ (withCrc [4, 0]).getD 0 0 = 4) ∧ frameGood (endBytes.set 13 0) = false := by
  exact ⟨⟨by decide +kernel, by decide⟩, ⟨by decide +kernel, by decide⟩, ⟨by decide +kernel, by decide⟩, by decide +kernel⟩

/-- O19: a SAMPLE frame meets its firing, one of another sequence number, and no shot; and a firing that an upset has left
on channel 4 takes none. -/
theorem witness_sample :
    readFrame sampleBytes = some (.sample 0 0 0 false (List.replicate 64 5)) ∧ (firing true).device = .active ∧
      (∃ x, ((firing true).rail .A).shot = some x ∧ x.seq = 0 ∧ x.firings.any (fun f => f.channel == 0 && decide (0 < f.frames) &&
        !f.received.contains 0) = true) ∧
      (∃ x : Shot, (((firing true).modRail .A fun b => { b with shot := some { shot true with seq := 7 } }).rail .A).shot = some x ∧
        x.seq ≠ 0) ∧ (ready.rail .A).shot = none ∧
      readFrame sampleBytes4 = some (.sample 0 4 0 false (List.replicate 64 5)) ∧
      (let upset : Shot := { shot true with firings := (shot true).firings.map fun f => { f with channel := 4 } }
       upset.seq = 0 ∧ upset.firings.any (fun f => f.channel == 4 && decide (4 ≤ 3) && decide (0 < f.frames) &&
         !f.received.contains 0) = false) := by
  refine ⟨by decide +kernel, by decide, ⟨_, rfl, by decide, by decide⟩, ⟨_, rfl, by decide⟩, by decide, by decide +kernel, by decide,
    by decide⟩

/-- O20, O21: the END frame of the last shot of a list, of a shot with another behind it, of one that is not the last and
has none behind it, held, and with no shot. -/
theorem witness_end :
    readFrame endBytes = some (.finish 0 0 [1, 0, 0, 0]) ∧ (firing true).device = .active ∧
      (∀ b, ∃ x, ((firing b).rail .A).shot = some x ∧ x.seq = 0 ∧ x.last = b ∧ x.index = 0) ∧
      ((firing false).rail .A).seq.state = .shot ∧ ((firing false).rail .A).seq.held = false ∧
      (Plan.shots (firing false).plan .A)[0 + 1]?.isSome = true ∧ (Plan.shots (firing false).plan .A)[1 + 1]? = none ∧
      ({ shot false with index := 1 } : Shot).last = false ∧
      (((firing false).modSeq .A fun q => { q with held := true }).rail .A).seq.held = true := by
  refine ⟨by decide +kernel, by decide, fun b => ⟨_, rfl, rfl, rfl, rfl⟩, by decide, by decide, by decide +kernel, by decide +kernel,
    rfl, by decide⟩

/-- O21: the END timer runs out as the first missing END and as the fourth. -/
theorem witness_end_timer :
    ((firing true).rail .A).link.endTimer = some 864 ∧ ((firing true).rail .A).shot = some (shot true) ∧
      ((firing true).rail .A).seq.state = .shot ∧ ((firing true).rail .A).link.missing + 1 < 4 ∧
      (((firing true).modLink .A fun l => { l with missing := 3 }).rail .A).link.missing + 1 = 4 := by decide

/-- O22: an expiry with the link UP and DOWN, and eight good frames on a DOWN link. -/
theorem witness_link :
    (ready.rail .A).link.presence = true ∧ (ready.rail .A).link.state = .up ∧
      (let l := ((ready.modLink .B fun l => { l with state := .down, good := 8 }).rail .B).link
       l.presence = true ∧ l.state = .down ∧ l.good = 8) := by decide

/-- O23: the states in which LIFT changes. -/
theorem witness_lift :
    ((State.reset.rail .A).seq.lift = !true ∧ (State.reset.rail .A).seq.state = .off) ∧
      ((ready.rail .A).seq.lift = false ∧ (ready.rail .A).seq.state = .waiting ∧ (ready.rail .A).shot = none) ∧
      (((firing false).rail .A).seq.lift = false ∧ ((firing false).rail .A).seq.state = .shot ∧
        ((firing false).rail .A).shot = some (shot false)) ∧
      (let q := ((ready.modSeq .A fun q => { q with lift := true, state := .lifted }).rail .A).seq
       q.lift = true ∧ q.state = .lifted) := by decide

/-- ACTIVE with a progress event at T for rail A, whose next mark is 5. -/
def atMark (t : Nat) (f : Sequencer → Sequencer) : State :=
  ready.modSeq .A fun q => f { q with nextMark := 5, notices := [.progress t 0 false false] }

/-- O24: a shot of one firing, and an offset in a place beyond it. -/
theorem witness_fire_frame :
    (shot true).firings.length ≤ 4 ∧ (∃ f, (shot true).firings[0]? = some f) ∧ 6 + 4 * (shot true).firings.length ≤ 10 ∧
      10 < 22 := by
  exact ⟨by decide, ⟨_, rfl⟩, by decide, by decide⟩

/-- O24: an event with no plan in force. -/
theorem witness_sweep_no_plan :
    (let s := bound.modSeq .A fun q => { q with notices := [.progress 7 7 false false] }
     (s.rail .A).seq.notices = .progress 7 7 false false :: [] ∧ s.inForce = false) := by decide

/-- O24: below the mark, and at it in each state of the Sequencer; the check passes, and fails after an upset. -/
theorem witness_sweep_step :
    (∀ t, ((atMark t id).rail .A).seq.notices = .progress t 0 false false :: []) ∧ (atMark 4 id).inForce = true ∧
      4 < ((atMark 4 id).rail .A).seq.nextMark ∧ ((atMark 5 id).rail .A).seq.nextMark ≤ 5 ∧
      ((atMark 5 id).rail .A).seq.state = .waiting ∧ ((atMark 5 id).rail .A).seq.held = false ∧
      ((atMark 5 fun q => { q with state := .linkDown }).rail .A).seq.state = .linkDown ∧
      ((atMark 5 fun q => { q with held := true }).rail .A).seq.held = true ∧
      ((atMark 5 fun q => { q with state := .shot }).rail .A).seq.state = .shot ∧
      (atMark 5 id).checkPasses .A = true ∧ ((atMark 5 id).strike [⟨.active, 64, 1⟩]).checkPasses .A = false ∧
      (Plan.shots (atMark 5 id).plan .A)[0]?.isSome = true := by
  refine ⟨fun t => rfl, by decide, by decide, by decide, by decide, by decide, by decide, by decide, by decide, ?_, ?_, ?_⟩ <;>
    decide +kernel

/-- O25: a survey mark before its sweep step, an event below its mark, one with no plan in force, and an interval of 0. -/
theorem witness_survey_order :
    (∀ t, (let s := ready.modSeq .A fun q => { q with surveyMark := 500, notices := [.progress t 3 false false] }
           (s.rail .A).seq.notices = .progress t 3 false false :: [] ∧ s.inForce = true ∧ (s.rail .A).seq.surveyMark = 500)) ∧
      499 < 500 ∧ 500 ≤ 500 ∧ bound.inForce = false ∧ Plan.surveyInterval [] = 0 ∧ (active []).inForce = true := by
  refine ⟨fun t => ⟨rfl, rfl, rfl⟩, by decide, by decide, by decide, by decide, by decide⟩

/-- O25: a survey mark at its T, and a reversal notice. -/
theorem witness_survey :
    (let s := ready.modSeq .A fun q => { q with surveyMark := 500, notices := [.progress 500 3 true false] }
     (s.rail .A).seq.notices = [.progress 500 3 true false] ∧ s.inForce = true ∧ Plan.surveyInterval s.plan = 500 ∧
       (s.rail .A).seq.surveyMark ≤ 500) ∧
    ((ready.modSeq .A fun q => { q with notices := [.reversal .increasing 7 3] }).rail .A).seq.notices =
      [.reversal .increasing 7 3] := by
  refine ⟨⟨by decide, by decide, by decide +kernel, by decide⟩, by decide⟩

/-- O26: a hold order and a release order. -/
theorem witness_hold :
    ((ready.modSeq .A fun q => { q with orders := [.hold] }).rail .A).seq.orders = [.hold] ∧
      ((ready.modSeq .B fun q => { q with orders := [.release] }).rail .B).seq.orders = [.release] := by decide

/-! ## Witnesses: evaluation and coupling -/

/-- A FLAW gate over the ticks 20 to 219. -/
def gate : GateAcc :=
  { role := .flaw, mode := .peak, threshold := 254, start := 20, length := 200, peak := 0, peakTick := none, firstCross := none,
    present := false }

/-- O27: a sample of 255 at the first tick of the gate and at the last. -/
theorem witness_threshold :
    gate.role = .flaw ∧ gate.threshold ≤ 254 ∧ gate.peak ≤ 255 ∧ ([255] : List Byte)[0]? = some 255 ∧ gate.start ≤ 20 + 0 ∧
      219 + 0 < gate.start + gate.length ∧ 219 + 0 < 256 := by decide

/-- O28: what a FLAW gate has gathered of a sample of 253 and then one of 254, which is its threshold, and of 253 alone; and a
COUPLING gate of one sample above its threshold. -/
theorem witness_gathered :
    (let g : GateAcc := { gate with peak := 254, peakTick := some 21, firstCross := some 21 }
     let seen := [(20, 253), (21, 254)]
     g.role = .flaw ∧ 1 ≤ g.threshold ∧ g.threshold ≤ g.peak ∧ ((21, g.peak) ∈ seen ∧
       ∀ k ∈ seen, k.2 < g.peak ∨ (k.2 = g.peak ∧ 21 ≤ k.1)) ∧ ((21, 254) ∈ seen ∧ ∀ k ∈ seen, g.threshold ≤ k.2 → 21 ≤ k.1)) ∧
    (let g : GateAcc := { gate with peak := 253, peakTick := some 20 }
     let seen := [(20, 253)]
     g.peak < g.threshold ∧ ((20, g.peak) ∈ seen ∧ ∀ k ∈ seen, k.2 < g.peak ∨ (k.2 = g.peak ∧ 20 ≤ k.1)) ∧
       g.firstCross = none ∧ ∀ k ∈ seen, k.2 < g.threshold) ∧
    (let g : GateAcc := { gate with role := .coupling, present := true }
     g.role ≠ .flaw ∧ (g.present = true ↔ ∃ k ∈ [(20, 255)], g.threshold ≤ k.2)) := by decide

/-- O29: an along-rail term above 0 and below, each half way between two millimetres. -/
theorem witness_along_term :
    (let um := ((42500 : Int) * 32768).tdiv 32768; 0 ≤ um ∧ |um - 1000 * alongTerm 42500 32768| = 500) ∧
    (let um := ((42500 : Int) * -32768).tdiv 32768; um < 0 ∧ |um - 1000 * alongTerm 42500 (-32768)| = 500) := by decide

/-- An element of delay 10 with a sound path of 1 µm a tick and a depth factor of one. -/
def element : ElementDesc :=
  { group := 0, mount := 0, delay := 10, path := 65535, depthFactor := 32767, alongFactor := 0, gain := 0, energy := 0 }

/-- O30: a detection before the delay, one on the rail, and one beyond its height. -/
theorem witness_projection :
    9 < element.delay ∧
      (element.delay ≤ 10 ∧ (10 - element.delay) * element.path / 1024 * element.depthFactor / 32768 / 100 ≤ (shot true).railHeight) ∧
      (element.delay ≤ 16382 ∧
        (shot true).railHeight < (16382 - element.delay) * element.path / 1024 * element.depthFactor / 32768 / 100) ∧
      element.path ≤ 65535 ∧ element.depthFactor ≤ 32767 := by decide

/-- A COUPLING result of element 0 of rail A whose record is `x`. -/
def resulted (x : ElementRecord) (present : Bool) : State :=
  { ready.modEval .A (fun v => { v with release := [.result 0 present 0 100] }) with
    coupling := { ready.coupling with elements := ⟨[x], []⟩ } }

/-- O31: the group's counts are Nl 3 and Nr 2, and the element stands in each of the states below and at its count. -/
theorem witness_coupling :
    (∀ x b, ((resulted x b).rail .A).eval.release = [.result 0 b 0 100] ∧ (resulted x b).coupling.element .A 0 = x ∧
      (resulted x b).inForce = true) ∧
      Plan.lossCount plan .A 0 = 3 ∧ Plan.restoreCount plan .A 0 = 2 ∧ (Plan.element plan .A 0).group = 0 ∧
      (0 + 1 < 3 ∧ 3 ≤ 2 + 1) ∧ (0 + 1 < 2 ∧ 2 ≤ 1 + 1) ∧ State.reset.inForce = false ∧
      Plan.lossCount [] .A 0 ≤ 1 := by
  refine ⟨fun x b => ⟨rfl, rfl, rfl⟩, ?_, ?_, ?_, ?_, ?_, ?_, ?_⟩ <;> decide +kernel

/-- A hit of element 0 of group 0. -/
def hit : Hit :=
  { element := 0, group := 0, kind := .reflector, x := 100, d := some 50, amplitude := 60, saturated := false, edge := false }

/-- O32: a hit of a LOST element, of one that is not, and a shot-released marker, of a rail held with no shot and not. -/
theorem witness_release :
    (let s := resulted { ElementRecord.fresh .lost with lostAt := some 3 } true
     let s := s.modEval .A fun v => { v with release := [.hit hit] }
     (s.rail .A).eval.release = [.hit hit] ∧ (s.coupling.element .A hit.element).state = .lost) ∧
    (let s := ready.modEval .A fun v => { v with release := [.hit hit] }
     (s.rail .A).eval.release = [.hit hit] ∧ (s.coupling.element .A hit.element).state ≠ .lost) ∧
    ((ready.modEval .A fun v => { v with release := [.released 4] }).rail .A).eval.release = [.released 4] ∧
    (let b := ((ready.modEval .A fun v => { v with release := [.released 4] }).modSeq .A fun q => { q with held := true }).rail .A
     b.eval.release = .released 4 :: [] ∧ b.seq.held = true ∧ b.seq.heldReported = false ∧ b.shot = none) := by decide

/-- O33, O34: a lift, a release, a reset and an ended notice, with twelve elements a rail. -/
theorem witness_carriage :
    (ready.coupling.elements.get .A).length = 12 ∧ (ready.coupling.elements.get .B).length = 12 ∧
      (∀ n, (ready.modCoupling fun m => { m with carriage := ⟨[n], []⟩ }).coupling.carriage.get .A = [n]) ∧
      ∀ n, (ready.modCoupling fun m => { m with orders := [n] }).coupling.orders = [n] :=
  ⟨by decide, by decide, fun _ => rfl, fun _ => rfl⟩

/-- O34: a result and a hit left on a release path with no plan in force. -/
theorem witness_leftovers :
    (let s := bound.modEval .A fun v => { v with release := [.result 0 true 0 100, .hit hit, .released 4] }
     s.inForce = false ∧ (s.rail .A).seq.held = false ∧ (s.rail .A).eval.release.length = 3) ∧
    ∀ e, (bound.coupling.element .A e).state ≠ .lost := by
  refine ⟨by decide, fun e => ?_⟩
  by_cases h : e < 12
  · interval_cases e <;> decide
  · rw [CouplingMonitor.element, List.getD_eq_default _ _ (by show 12 ≤ e; omega)]
    decide

/-! ## Witnesses: tracks -/

/-- A track in a state, of group 0, that the hit above can join. -/
def track (st : TrackState) : Track :=
  { state := st, group := 0, kind := .reflector, xMin := 90, xMax := 95, dMin := some 50, dMax := some 50, dRef := some 50,
    peak := 60, peakX := 90, saturated := false, hitCount := 1, elementMask := 1, tFirst := 0, tLast := 0, flags := 0 }

/-- Rail A with a hit to take and a table of tracks. -/
def hitting (table : List (Option Track)) (h : Hit) : State := ready.modTrk .A fun k => { k with table := table, hits := [h] }

/-- The table with one track. -/
def oneTrack : List (Option Track) := some (track .tentative) :: List.replicate 47 none

theorem oneTrack_at (j : Nat) (m : Track) (h : oneTrack[j]? = some (some m)) : j = 0 ∧ m = track .tentative := by
  rcases j with - | j
  · simpa [oneTrack, eq_comm] using h
  · simp only [oneTrack, List.getElem?_cons_succ, List.getElem?_replicate] at h
    split at h <;> simp at h

/-- O35: the hit joins the one candidate. -/
theorem witness_hit_joins :
    ((hitting oneTrack hit).rail .A).trk.hits = [hit] ∧ (hitting oneTrack hit).inForce = true ∧
      (let candidate (i : Nat) (k : Track) : Prop := oneTrack[i]? = some (some k) ∧ k.group = hit.group ∧ k.kind = hit.kind ∧
         k.dx hit.x ≤ Plan.windowX plan .A hit.group ∧ k.dd hit ≤ Plan.windowD plan .A hit.group
       candidate 0 (track .tentative) ∧ ∀ j m, candidate j m → j = 0) ∧
      95 - 90 + 1 ≤ Plan.maxLength plan .A 0 ∧ Plan.maxLength plan .A 0 = 100 ∧ Plan.confirm plan .A 0 = 2 := by
  refine ⟨rfl, rfl, ⟨⟨rfl, rfl, rfl, ?_, ?_⟩, fun j m h => (oneTrack_at j m h.1).1⟩, ?_, ?_, ?_⟩ <;> decide +kernel

/-- O35: a hit of another group finds no candidate: the first FREE entry is 1, and a full table has none FREE, with its first
track the oldest TENTATIVE one or with all CONFIRMED. -/
theorem witness_hit_opens :
    (∀ (j : Nat) (m : Track), oneTrack[j]? = some (some m) → m.group ≠ 1) ∧ oneTrack[1]? = some none ∧ (∀ j : Nat, j < 1 → oneTrack[j]? ≠ some none) ∧
      (∀ (st : TrackState) (i : Nat), (List.replicate 48 (some (track st)))[i]? ≠ some none) ∧
      (∀ (j : Nat) m, (List.replicate 48 (some (track .tentative)))[j]? = some (some m) → j ≠ 0 →
        (track .tentative).tLast = m.tLast ∧ 0 < j) ∧
      ∀ (i : Nat) k, (List.replicate 48 (some (track .confirmed)))[i]? = some (some k) → k.state = .confirmed := by
  refine ⟨?_, by decide, ?_, ?_, ?_, ?_⟩
  · intro j m h
    rw [(oneTrack_at j m h).2]
    decide
  · intro j h
    interval_cases j
    decide
  · intro st i h
    rw [List.getElem?_replicate] at h
    split at h <;> simp at h
  · intro j m h hj
    rw [List.getElem?_replicate] at h
    split at h <;> simp at h
    subst h
    exact ⟨rfl, Nat.pos_of_ne_zero hj⟩
  · intro i k h
    rw [List.getElem?_replicate] at h
    split at h <;> simp at h
    subst h
    rfl

/-- O36, O37: what the correlator's paths can hold, with a table of 48 entries. -/
theorem witness_track_notices :
    ((hitting oneTrack hit).rail .A).trk.table.length = 48 ∧ (hitting oneTrack hit).inForce = true ∧ bound.inForce = false ∧
      (∀ n, ((ready.modTrk .A fun k => { k with notices := [n] }).rail .A).trk.notices = [n]) ∧
      (∀ n, ((ready.modTrk .A fun k => { k with orders := [n] }).rail .A).trk.orders = [n] ∧
        ((ready.modTrk .A fun k => { k with orders := [n] }).rail .A).trk.hits = []) ∧
      ((hitting oneTrack hit).rail .A).trk.hits ≠ [] ∧ ((ready.modTrk .A fun k => { k with flushOrders := [9] }).rail .A).trk.flushOrders = [9] ∧
      (let k := ((ready.modTrk .A fun k => { k with liftNotices := 1, interruptNotices := 1, tachNotices := 1 }).rail .A).trk
       k.liftNotices = 0 + 1 ∧ k.interruptNotices = 0 + 1 ∧ k.tachNotices = 0 + 1) :=
  ⟨by decide, by decide, by decide, fun _ => rfl, fun _ => ⟨rfl, rfl⟩, by decide, by decide, by decide⟩

/-! ## Witnesses: assembly -/

/-- An entry of rail A's list from 0 to 10 mm. -/
def entry : Entry :=
  { xMin := 0, xMax := 10, dMin := some 50, dMax := some 60, peak := 60, groups := 1, contributors := [], total := 1, tJoin := 0,
    flags := 0 }

/-- The classification of an entry with no nozzle. -/
def plain : Classification := { cls := 255, rule := none, severity := 1, nozzle := none, lead := 0, trail := 0 }

/-- A finalization of an entry whose mark interval is lo to hi for nozzle 0, with its answer. -/
def finalizing (lo hi : Nat) (answer : Option MarkerStatus) : Finalizing :=
  { entry := entry, cause := .horizon, number := 1, planId := 77, cls := { plain with nozzle := some 0 }, t := 0, p := 0,
    dir := .increasing, xStart := lo, xEnd := hi, answer := answer }

/-- A mark request in hand. -/
def job (lo hi : Nat) (answer : Option MarkerStatus) : Job := { current := finalizing lo hi answer, todo := [], after := .nothing }

/-- O38: rule 0 of the plan holds on rail A and no rule holds on rail B; with a declared direction the mark is requested. -/
theorem witness_classes :
    (Plan.rules plan)[0]?.any (fun q => q.holds entry .A) = true ∧ ((Plan.rules plan).all fun q => !q.holds entry .B) = true ∧
      (classify plan .A entry).nozzle = some 0 ∧ (classify plan .B entry).nozzle = none ∧ (ready.rail .A).asm.stopping = false ∧
      entry.flags &&& 0x10 = 0 ∧ (ready.alarm.source .tachFault).state ≠ .pending ∧
      (ready.modPos fun u => { u with dir := .decreasing }).pos.dir ≠ .unknown := by
  refine ⟨?_, ?_, ?_, ?_, by decide, by decide, by decide, by decide⟩ <;> decide +kernel

/-- O38: the fields of rule 0 that the conditions test, against the entry's on rail A: every one at its bound or open. -/
theorem witness_class_rule :
    ((Plan.rules plan)[0]?.map fun q => (q.filter, q.required, q.anyOf, q.excluded)) = some (.a, 0, 0, 0) ∧
    ((Plan.rules plan)[0]?.map fun q => [q.depthMin, q.depthMax, q.lengthMin, q.lengthMax, q.minPeak]) =
      some [0, 10485, 1, 1000, 0] ∧
    entry.dMin = some 50 ∧ entry.dMax = some 60 ∧ entry.xMax - entry.xMin + 1 = 11 ∧ RailFilter.a ≠ .both ∧
      RailFilter.a ≠ .b := by
  refine ⟨by decide +kernel, by decide +kernel, by decide, by decide, by decide, by decide, by decide⟩

/-- A track summary on the path to an assembler whose list holds `list`. -/
def summarised (s : State) (list : List Entry) : State :=
  (s.modTrk .A fun k => { k with path := [.summary (track .confirmed)] }).modAsm .A fun a => { a with list := list }

/-- O39: a list of one entry, near enough to the track's 90 to 95 mm to overlap it, and far from it. -/
theorem witness_summary :
    (∀ list, ((summarised ready list).rail .A).trk.path = [.summary (track .confirmed)] ∧
      ((summarised ready list).rail .A).asm.job = none ∧ ((summarised ready list).rail .A).asm.list = list ∧
      ((summarised ready list).rail .A).asm.orders = []) ∧
      (summarised ready []).inForce = true ∧ ([{ entry with xMax := 80 }] : List Entry).length ≤ 16 ∧
      ([{ entry with xMax := 80 }] : List Entry).Pairwise (fun u v => u.xMin ≤ v.xMin ∧
        u.overlaps v (Plan.marginA plan .A) (Plan.marginD plan .A) = false) ∧
      ((track .confirmed).entry 0 0).overlaps { entry with xMax := 80 } (Plan.marginA plan .A) (Plan.marginD plan .A) = true ∧
      ((track .confirmed).entry 0 0).overlaps { entry with xMax := 79 } (Plan.marginA plan .A) (Plan.marginD plan .A) = false := by
  refine ⟨fun list => ⟨rfl, rfl, rfl, rfl⟩, by decide, by decide, by simp, ?_, ?_⟩ <;> decide +kernel

/-- An entry of one contributor of an arrival number and a peak. -/
def arrived (n : Nat) (peak : Nat) : Entry :=
  { entry with contributors := [(track .confirmed).contributor n |> fun c => { c with peak := peak }], peak := peak }

/-- O39: entries that merge with nine contributors between them, of two peaks, so that one is truncated; a chain of entries of
which the last is met through the first alone; and a list shorter than its fuel. -/
theorem witness_merging :
    (let met := (List.range 8).map fun n => arrived (n + 1) (60 + n % 2)
     let all := (arrived 0 60 :: met).flatMap Entry.contributors
     met ≠ [] ∧ (∀ e ∈ arrived 0 60 :: met, e.contributors.Pairwise fun c d => c.arrival < d.arrival) ∧
       (all.map Contributor.arrival).Nodup ∧ 8 < all.length) ∧
    (let near := { entry with xMin := 11, xMax := 20 }
     let far := { entry with xMin := 25, xMax := 30 }
     entry.overlaps near 10 20 = true ∧ entry.overlaps far 10 20 = false ∧ (entry.merge near).overlaps far 10 20 = true) ∧
    ([entry, entry] : List Entry).length < 3 := by
  refine ⟨by decide, ?_, by decide⟩
  decide +kernel

/-- O40: a job with its answer and without one; a track that overlaps none of a full list, whose first entry is the earliest;
a marker, a notice and the two orders. -/
theorem witness_assembly :
    (∀ a, ((ready.modAsm .A fun x => { x with job := some (job 0 10 a) }).rail .A).asm.job = some (job 0 10 a) ∧
      (job 0 10 a).current.answer = a) ∧
    (summarised bound []).inForce = false ∧ (summarised ready []).inForce = true ∧
    (∀ v ∈ List.replicate 16 entry,
      ((track .confirmed).entry 0 0).overlaps v (Plan.marginA plan .A) (Plan.marginD plan .A) = false) ∧
    (∀ (j : Nat) w, (List.replicate 16 entry)[j]? = some w → j ≠ 0 → entry.tJoin = w.tJoin ∧ entry.xMin = w.xMin ∧ 0 < j) ∧
    (List.replicate 16 entry)[0]? = some entry ∧
    ((ready.modTrk .A fun k => { k with path := [.marker ⟨.flush, 9⟩] }).rail .A).trk.path = [.marker ⟨.flush, 9⟩] ∧
    (∀ n, ((ready.modAsm .A fun a => { a with notices := [n] }).rail .A).asm.notices = [n]) ∧
    (∀ n, ((ready.modAsm .A fun a => { a with orders := [n] }).rail .A).asm.orders = [n]) ∧
    .stopBegun ∈ ((ready.modAsm .A fun a => { a with orders := [.stopBegun] }).rail .A).asm.orders ∧
    .stopBegun ∉ ((summarised ready []).rail .A).asm.orders := by
  refine ⟨fun a => ⟨rfl, rfl⟩, by decide, by decide, ?_, ?_, by decide, by decide, fun _ => rfl, fun _ => rfl, by decide, by decide⟩
  · intro v h
    rw [(List.mem_replicate.mp h).2]
    decide +kernel
  · intro j w h hj
    rw [List.getElem?_replicate] at h
    split at h <;> simp at h
    subst h
    exact ⟨rfl, rfl, Nat.pos_of_ne_zero hj⟩

/-- A stop-begun notice sent and not yet taken. -/
def noticed (s : State) : State := s.modAsm .A fun a => { a with orders := [.stopBegun] }

/-- What rail A's assembler shows behind a command: the items left on the path and the entries of the list. -/
def assembled (c : Instr) (s : State) : Option (Nat × Nat) :=
  match exec c s with
  | .next t => some ((t.rail .A).trk.path.length, (t.rail .A).asm.list.length)
  | _ => none

/-- R114, R130: ahead of the stop-begun notice a summary is inserted in an empty list and merges in a full one, while one
that the full list has no room for waits. -/
theorem test_summary_beside_a_stop_notice :
    assembled (.trackSummary .A) (noticed (summarised ready [])) = some (0, 1) ∧
      assembled (.trackSummary .A) (noticed (summarised ready (List.replicate 16 { entry with xMax := 80 }))) = some (0, 1) ∧
      assembled (.trackSummary .A) (noticed (summarised ready (List.replicate 16 entry))) = some (1, 16) := by
  refine ⟨?_, ?_, ?_⟩ <;> decide +kernel

/-- R121, R130: a flush marker goes ahead of the notice where it finds no entry, and waits where it finds one. -/
theorem test_marker_beside_a_stop_notice :
    let marked (list : List Entry) := noticed ((summarised ready list).modTrk .A fun k => { k with path := [.marker ⟨.flush, 9⟩] })
    assembled (.flushMarker .A) (marked []) = some (0, 0) ∧ assembled (.flushMarker .A) (marked [entry]) = some (1, 1) := by
  refine ⟨?_, ?_⟩ <;> decide +kernel

/-! ## Witnesses: markers -/

/-- A spray nozzle 300 mm ahead with a merge distance of 30 mm. -/
def sprayer : NozzleDesc := { mode := .spray, pulseLength := 50, mergeDistance := 30, offset := 300 }

/-- A queue entry of nozzle 0. -/
def mark (lo hi : Nat) : MarkEntry :=
  { nozzle := 0, xStart := lo, xEnd := hi, origins := [1], originTotal := 1, state := .pending, broken := false }

/-- The nozzles of a rail with the sprayer standing at 300 for P of 0. -/
def nozzles : List Nozzle := { Nozzle.cleared with desc := some sprayer, position := some 300 } :: List.replicate 3 .cleared

/-- Rail A's controller going up at P of 0 with a queue, and a mark request of its assembler. -/
def marking (queue : List MarkEntry) (lo hi : Nat) : State :=
  (ready.modMrk .A fun m => { m with queue := queue, dir := .increasing, nozzles := nozzles }).modAsm .A fun a =>
    { a with job := some (job lo hi none) }

/-- O41: a request passed at 299, one inside at 300, and one ahead; entries of the queue at the merge distance of 30 and at
31; and a queue of one entry, SPRAYING or not. -/
theorem witness_mark_request :
    (∀ queue lo hi, ((marking queue lo hi).rail .A).asm.job = some (job lo hi none) ∧ (job lo hi none).current.answer = none ∧
      (marking queue lo hi).device ≠ .locked ∧ ((((marking queue lo hi).rail .A).mrk.nozzle 0).position = some 300) ∧
      (((marking queue lo hi).rail .A).mrk.nozzle 0).desc = some sprayer ∧ ((marking queue lo hi).rail .A).mrk.queue = queue) ∧
    (∀ st : MarkState, ({ mark 300 310 with state := st } : MarkEntry).nozzle = 0 ∧ intervalDistance 340 350 300 310 ≤ 30 ∧
      340 ≤ 350 ∧ (if st = .spraying then [(300, 310)] else ([] : List (Nat × Nat))).length ≤ 1) ∧
    decide ((299 : Int) < 300) = true ∧ decide ((300 : Int) < 300) = false ∧
    (intervalDistance 300 310 340 350 ≤ 30 ∧ ¬ intervalDistance 300 310 341 350 ≤ 30) ∧
    (∀ v ∈ List.replicate 32 (mark 400 410), ¬ intervalDistance 300 310 v.xStart v.xEnd ≤ 30) ∧
    32 ≤ (List.replicate 32 (mark 400 410)).length ∧ ({ marking [] 0 0 with device := .locked } : State).device = .locked := by
  refine ⟨fun q lo hi => ⟨rfl, rfl, by simp [marking, State.modAsm, State.modMrk, State.modRail, ready, active], rfl, rfl, rfl⟩,
    fun st => by cases st <;> decide, by decide, by decide, by decide, ?_, by decide, by decide⟩
  intro v h
  rw [(List.mem_replicate.mp h).2]
  decide

/-- A NOZZLE_CHECK that waits on rail A. -/
def unchecked (s : State) : State := s.modMrk .A fun m => { m with orders := [.nozzleCheck] }

/-- O41: a controller with a check waiting and one without, and a nozzle without a position. -/
theorem witness_waiting_check :
    ((unchecked (marking [] 400 410)).rail .A).mrk.orders = [.nozzleCheck] ∧ (unchecked (marking [] 400 410)).device ≠ .locked ∧
      (∀ queue lo hi, ((marking queue lo hi).rail .A).mrk.orders.head? = none) ∧
      (((marking [] 400 410).rail .A).mrk.nozzle 1).position = none :=
  ⟨rfl, by decide, fun _ _ _ => rfl, rfl⟩

/-- R29, R137: a request for a nozzle that the controller has not yet read is judged by the plan in force. -/
theorem test_request_reads_the_new_plan :
    (match exec (.markRequest .A) (unchecked ((marking [] 400 410).modMrk .A fun m => { m with nozzles := List.replicate 4 .cleared })) with
      | .next t => (t.rail .A).mrk.queue.map (fun e => (e.nozzle, e.xStart, e.xEnd)) = [(0, 400, 410)] ∧
          (t.rail .A).mrk.orders = []
      | _ => False) := by
  exact ⟨by decide +kernel, by decide +kernel⟩

/-- R141, part 1: the output of a removed entry's nozzle is cleared, also where the controller reads it as not defined. -/
theorem test_check_clears_outputs_of_removed_entries :
    (match exec (.nozzleCheck .A) (unchecked ((active []).modMrk .A fun m =>
        { m with queue := [mark 400 410], nozzles := List.replicate 4 { Nozzle.cleared with drive := true, latched := true, pulse := some 5 } })) with
      | .next t => (t.rail .A).mrk.queue = [] ∧ ((t.rail .A).mrk.nozzles.map fun z => (z.drive, z.latched, z.pulse)) =
          (false, false, none) :: List.replicate 3 (true, true, some 5)
      | _ => False) := by
  exact ⟨by decide +kernel, by decide +kernel⟩

/-- O42 to O44: what a controller's paths can hold, in force and not. -/
theorem witness_marker_paths :
    (∀ n, ((ready.modMrk .A fun m => { m with notices := [n] }).rail .A).mrk.notices = [n]) ∧
      (∀ n, ((ready.modMrk .A fun m => { m with orders := [n] }).rail .A).mrk.orders = [n]) ∧
      ((ready.modMrk .A fun m => { m with tachNotices := 1 }).rail .A).mrk.tachNotices = 0 + 1 ∧ ready.inForce = true ∧
      bound.inForce = false := ⟨fun _ => rfl, fun _ => rfl, by decide, by decide, by decide⟩

/-- A stop in progress of request 2 whose rails have reported held, flush done and purged as given. -/
def stopping (held flushed purged : Both Bool) : StopInProgress :=
  { index := 2, begun := true, step := 1, held := held, flushed := flushed, purged := purged }

/-- O43, O50: a stop with the purge of the other rail still to come, and done. -/
theorem witness_stop_purge :
    (∀ b, (let s := (ready.modPlans fun p => { p with stop := some (stopping ⟨true, true⟩ ⟨true, true⟩ ⟨false, b⟩) }).modMrk .A
             fun m => { m with orders := [.stopPurge] }
           (s.rail .A).mrk.orders = [.stopPurge] ∧ s.plans.stop = some (stopping ⟨true, true⟩ ⟨true, true⟩ ⟨false, b⟩) ∧
             ∀ other, other ≠ Rail.A → (stopping ⟨true, true⟩ ⟨true, true⟩ ⟨false, b⟩).purged.get other = b)) ∧
      ready.device ≠ .locked := by
  refine ⟨fun b => ⟨rfl, rfl, fun other h => ?_⟩, by decide⟩
  cases other
  · exact absurd rfl h
  · rfl

/-- O44: a plan that defines no nozzle on rail A, and one that defines nozzle 0 alone; queues of rail A that the plan in force
passes through untouched, at 31 mm from each other, and that it merges, at the merge distance of 30 mm; and one with an
entry of a nozzle that the plan does not define. -/
theorem witness_nozzle_check :
    (∀ j, j < 4 → Plan.nozzle [] .A j = none) ∧ (active []).inForce = true ∧ Plan.nozzle plan .A 0 = some sprayer ∧
    Plan.nozzle plan .A 1 = none ∧ intervalDistance 300 310 341 350 = 31 ∧ intervalDistance 300 310 340 350 = 30 ∧
    (∀ v ∈ [mark 300 310, mark 340 350, { mark 1 2 with nozzle := 1 }], v.xStart ≤ v.xEnd) ∧
    (∀ queue, ((marking queue 0 0).rail .A).mrk.queue = queue ∧ ((marking queue 0 0).rail .A).mrk.nozzles.length = 4) ∧
    (let m := ((marking [mark 300 310, mark 341 350] 0 0).rail .A).mrk
     (∀ j, j < 4 → (m.nozzle j).desc = Plan.nozzle plan .A j) ∧ m.sense = Plan.sense plan ∧
       (∀ z ∈ m.nozzles, z.position = z.desc.map fun d => (m.p : Int) + m.sense * d.offset) ∧
       ∀ e ∈ m.queue, (m.nozzle e.nozzle).desc.isSome = true) := by
  refine ⟨by decide, by decide, ?_, ?_, by decide, by decide, by decide, fun _ => ⟨rfl, rfl⟩, ?_, ?_, by decide, by decide⟩
  all_goals decide +kernel

/-- O42, O44: a nozzle with two SPRAYING entries, of which a position of 315 ends the first alone. -/
theorem witness_two_sprays :
    (let queue := [{ mark 300 310 with state := .spraying }, { mark 300 330 with state := .spraying }]
     let ends (e : MarkEntry) : Bool := e.state == .spraying && decide ((e.xEnd : Int) < 315)
     (queue.filter ends).length = 1 ∧ ((queue.filter fun e => !ends e).any fun e => e.nozzle == 0 && e.state == .spraying) = true) ∧
    ready.inForce = true := by decide

/-- O45: a pulse timer of a pulse nozzle, a test in hand, and the forms of a MARKER request. -/
theorem witness_outputs :
    (let s := ready.modMrk .A fun m => { m with nozzles := [{ Nozzle.cleared with
       desc := some { sprayer with mode := .pulse }, pulse := some 50, test := some ⟨1, 2000⟩ }] }
     ∃ z, (s.rail .A).mrk.nozzles[0]? = some z ∧ z.pulse = some 50 ∧ z.test = some ⟨1, 2000⟩ ∧
       ∀ d, z.desc = some d → d.mode = .pulse) ∧
    (∀ params, (asked bound 9 params).req.scan = [{ index := 0, kind := 9, tag := 9, params := params }]) ∧
    (let p : List Byte := [0, 3, 0, 0] ++ le16 2000
     railOfCode (byteAt p 0) = some .A ∧ byteAt p 1 < 4 ∧ byteAt p 2 = 0 ∧ 1 ≤ u16At p 4 ∧ u16At p 4 ≤ 2000) ∧
    u16At ([0, 3, 0, 0] ++ le16 2001) 4 = 2001 ∧ Plan.nozzle plan .A 3 = none ∧ (Plan.nozzle plan .A 0).isSome = true ∧
    ((ready.rail .A).mrk.nozzle 3).test = none ∧ byteAt [1, 3, 1] 2 = 1 ∧ 1 < byteAt [0, 0, 2] 2 := by
  refine ⟨⟨_, rfl, rfl, rfl, ?_⟩, fun _ => rfl, by decide, by decide, ?_, ?_, by decide, by decide, by decide⟩
  · intro d h
    simp at h
    rw [← h]
  · decide +kernel
  · decide +kernel

/-- O45: a pulse timer that runs on a nozzle of another mode, one that does not run, and the four nozzles of a rail. -/
theorem witness_pulse :
    (let s := ready.modMrk .A fun m => { m with nozzles := [{ Nozzle.cleared with desc := some sprayer, pulse := some 50 }] }
     ∃ z, (s.rail .A).mrk.nozzles[0]? = some z ∧ z.pulse = some 50 ∧ z.desc = some sprayer ∧ sprayer.mode ≠ .pulse) ∧
    (∃ z, (ready.rail .A).mrk.nozzles[3]? = some z ∧ z.pulse = none) ∧ 3 < 4 := by
  exact ⟨⟨_, rfl, rfl, rfl, by decide⟩, ⟨_, rfl, rfl⟩, by decide⟩

/-! ## Witnesses: plan storage -/

/-- CHECK_PLAN's and ACTIVATE_PLAN's parameters: a plan of a length at address 0, IMMEDIATE. -/
def planParams (length mode : Nat) : List Byte := le32 0 ++ le32 0 ++ le32 length ++ le8 mode ++ [0, 0, 0] ++ le32 40

/-- O46: the shortest and the longest plan that are read and the lengths beside them, with STANDBY empty and not. -/
theorem witness_plan_requests :
    (∀ s k p, (asked s k p).req.scan = [{ index := 0, kind := k, tag := 9, params := p }] ∧ (asked s k p).device = s.device) ∧
      u32At (planParams 31 0) 8 = 31 ∧ u32At (planParams 32 0) 8 = 32 ∧ u32At (planParams 16384 1) 8 = 16384 ∧
      u32At (planParams 16385 0) 8 = 16385 ∧ byteAt (planParams 32 1) 12 = 1 ∧ byteAt (planParams 32 2) 12 = 2 ∧
      bound.device.scans = true ∧ (inState .faulted).device.scans = true ∧ bound.plans.standby.state = .empty ∧
      bound.plans.stop = none ∧
      (bound.modPlans fun p => { p with standby := { p.standby with state := .pending } }).plans.standby.state ≠ .empty ∧
      (bound.modPlans fun p => { p with stop := some (stopping ⟨false, false⟩ ⟨false, false⟩ ⟨false, false⟩) }).plans.stop.isSome := by
  refine ⟨fun s k p => ⟨rfl, rfl⟩, ?_⟩
  decide

/-- A byte of one of several equal blocks in a row. -/
theorem byteAt_block (head block tail : List Byte) (n i k b w : Nat) (hb : head.length = b) (hw : block.length = w)
    (hi : i < n) (hk : k < w) :
    byteAt (head ++ ((List.replicate n block).flatten ++ tail)) (b + w * i + k) = byteAt block k := by
  subst hb hw
  unfold byteAt
  rw [List.getD_append_right _ _ _ _ (by omega), show head.length + block.length * i + k - head.length = block.length * i + k by omega]
  congr 1
  clear head
  induction i generalizing n with
  | zero =>
    obtain ⟨n, rfl⟩ := Nat.exists_eq_succ_of_ne_zero (by omega : n ≠ 0)
    rw [List.replicate_succ, List.flatten_cons, List.append_assoc, Nat.mul_zero, Nat.zero_add, List.getD_append _ _ _ _ hk]
  | succ i ih =>
    obtain ⟨n, rfl⟩ := Nat.exists_eq_succ_of_ne_zero (by omega : n ≠ 0)
    rw [List.replicate_succ, List.flatten_cons, List.append_assoc, List.getD_append_right _ _ _ _ (by rw [Nat.mul_succ]; omega),
      show block.length * (i + 1) + k - block.length = block.length * i + k by rw [Nat.mul_succ]; omega]
    exact ih n (by omega)

theorem plan_element (i k : Nat) (hi : i < 24) (hk : k < 16) : byteAt plan (64 + 16 * i + k) = byteAt planElement k :=
  byteAt_block _ _ _ 24 i k 64 16 (by decide) (by decide) hi hk

theorem plan_group (i k : Nat) (hi : i < 16) (hk : k < 12) : byteAt plan (448 + 12 * i + k) = byteAt planGroup k := by
  rw [plan, ← List.append_assoc]
  exact byteAt_block _ _ _ 16 i k 448 12 (by decide +kernel) (by decide) hi hk

/-- No field of the plan lies outside its range. -/
theorem plan_in_range (o : Nat) : ¬ Plan.outOfRange plan o := by
  intro h
  rcases h with h | h | h | ⟨i, hi, -, h⟩ | ⟨b, hb, h⟩ | ⟨i, hi, h⟩ | ⟨i, hi, h⟩ | ⟨i, hi, h⟩ | ⟨j, hj, h⟩ | ⟨s, hs, h⟩
  · exact absurd h.2 (by decide +kernel)
  · exact absurd h.2 (by decide +kernel)
  · exact absurd h.2 (by decide +kernel)
  · revert h; revert i; decide +kernel
  · replace h := h.imp And.right (Or.imp And.right (Or.imp And.right (Or.imp And.right (Or.imp And.right (Or.imp And.right (Or.imp And.right And.right))))))
    revert h; revert b; decide +kernel
  · simp only [u16At, i16At, Nat.add_assoc (64 + 16 * i)] at h
    have e := fun k => plan_element i k hi
    simp (discharger := decide) only [e] at h
    revert h
    simp (decide := true)
  · simp only [u16At, Nat.add_assoc (448 + 12 * i)] at h
    have e := fun k => plan_group i k hi
    simp (discharger := decide) only [e] at h
    revert h
    simp (decide := true)
  · replace h := h.imp And.right (Or.imp (And.imp id (Or.imp And.right (Or.imp And.right And.right))) And.right)
    revert h; revert i; decide +kernel
  · replace h := h.imp And.right (Or.imp And.right (Or.imp And.right (Or.imp And.right (Or.imp And.right (Or.imp And.right (Or.imp And.right (Or.imp And.right (Or.imp And.right (Or.imp And.right (Or.imp And.right And.right))))))))))
    revert h; revert j; decide +kernel
  · have hS : ∀ s ∈ Plan.shots plan .A ++ Plan.shots plan .B, (256 ≤ u16At plan s.offset ∧ u16At plan s.offset ≤ 16383) ∧
      byteAt plan (s.offset + 3) ≤ 0 ∧ ∀ f ∈ s.firings, byteAt plan f.offset ≤ 11 ∧ byteAt plan (f.offset + 1) ≤ 3 ∧
        byteAt plan (f.offset + 3) ≤ 0 := by decide +kernel
    have hG : ∀ s ∈ Plan.shots plan .A ++ Plan.shots plan .B, ∀ f ∈ s.firings, ∀ g ∈ f.gates, byteAt plan g.offset ≤ 2 ∧
      byteAt plan (g.offset + 1) ≤ 1 ∧ (1 ≤ byteAt plan (g.offset + 2) ∧ byteAt plan (g.offset + 2) ≤ 254) ∧
      byteAt plan (g.offset + 3) ≤ 0 ∧ u16At plan (g.offset + 4) ≤ 16382 ∧
      (1 ≤ u16At plan (g.offset + 6) ∧ u16At plan (g.offset + 6) ≤ 16383) := by decide +kernel
    obtain ⟨a, b, c⟩ := hS s hs
    rcases h with ⟨-, h⟩ | ⟨-, h⟩ | ⟨f, hf, h⟩
    · exact h a
    · exact h ⟨Nat.zero_le _, b⟩
    · obtain ⟨c, d, e⟩ := c f hf
      rcases h with ⟨-, h⟩ | ⟨-, h⟩ | ⟨-, h⟩ | ⟨g, hg, h⟩
      · exact h ⟨Nat.zero_le _, c⟩
      · exact h ⟨Nat.zero_le _, d⟩
      · exact h ⟨Nat.zero_le _, e⟩
      · obtain ⟨p, q, x, y, z, w⟩ := hG s hs f hf g hg
        rcases h with ⟨-, h⟩ | ⟨-, -, h⟩ | ⟨-, h⟩ | ⟨-, h⟩ | ⟨-, h⟩ | ⟨-, h⟩
        · exact h ⟨Nat.zero_le _, p⟩
        · exact h ⟨Nat.zero_le _, q⟩
        · exact h x
        · exact h ⟨Nat.zero_le _, y⟩
        · exact h ⟨Nat.zero_le _, z⟩
        · exact h w

/-- No check behind BAD_LAYOUT finds a fault in the plan. -/
theorem plan_no_fault (code : PlanFaultCode) (o : Nat) : ¬ Plan.faultAt plan code o := by
  cases code
  · exact id
  · exact id
  · exact plan_in_range o
  · rintro ⟨i, hi, rfl, h⟩
    rw [show 64 + 16 * i = 64 + 16 * i + 0 from rfl, plan_element i 0 hi (by decide)] at h
    revert h
    decide
  · rintro ⟨s, hs, k, hk, g, hg, -, f, hf, h⟩
    have : ∀ s ∈ Plan.shots plan .A ++ Plan.shots plan .B, s.firings.length = 1 := by decide +kernel
    rw [this s hs, Nat.lt_one_iff] at hk
    simp [hk] at hf
  · rintro ⟨s, hs, f, hf, g, hg, -, h⟩
    have : ∀ s ∈ Plan.shots plan .A ++ Plan.shots plan .B, ∀ f ∈ s.firings, ∀ g ∈ f.gates, g.start + g.length ≤ s.listen := by
      decide +kernel
    exact absurd (this s hs f hf g hg) (by omega)
  · rintro ⟨s, hs, f, hf, -, h⟩
    have : ∀ s ∈ Plan.shots plan .A ++ Plan.shots plan .B, ∀ f ∈ s.firings, ∀ g ∈ f.gates, g.role = .flaw := by decide +kernel
    have n (role : GateRole) (hr : role ≠ .flaw) : (f.gates.filter fun g => g.role == role).length = 0 := by
      rw [List.length_eq_zero_iff, List.filter_eq_nil_iff]
      intro g hg
      simpa [this s hs f hf g hg] using hr.symm
    simp only [n .coupling (by decide), n .backwall (by decide)] at h
    omega
  · rintro ⟨rfl | rfl, h⟩ <;> revert h <;> decide +kernel
  · rintro ⟨r, e, he, rfl, h, -⟩
    have hb : 12 * Rail.idx (if r then .B else .A) + e < 24 := by cases r <;> simp [Rail.idx] <;> omega
    simp only [u16At, Nat.add_assoc (64 + 16 * _), plan_element _ 10 hb (by decide), plan_element _ 11 hb (by decide)] at h
    revert h
    decide
  · rintro ⟨j, hj, rfl, h⟩
    revert h; revert j; decide +kernel
  · rintro (⟨rfl, h, -⟩ | ⟨rfl, h, -⟩ | ⟨j, hj, rfl, h⟩)
    · exact h (by decide +kernel)
    · exact h (by decide +kernel)
    · replace h := h.imp (And.imp id And.right) (And.imp id And.right)
      revert h; revert j; decide +kernel

/-- O47: the plan has no fault. One of another version fails the first test; one with five firings in its first shot, one
cut off before that count, one cut within its last gate, and one a byte too long fail the later ones; and one with a
reserved byte of its header set is out of range there and nowhere before. -/
theorem witness_validation :
    (let tests (c : List Byte) (len : Nat) : List Bool := [u16At c 0 == 1, u32At c 4 == len, decide (byteAt c 13 ≤ 8),
       decide (byteAt c 14 ≤ 8), decide (byteAt c 15 ≤ 16)]
     tests plan 784 = List.replicate 5 true ∧ tests (plan.set 2 1) 784 = List.replicate 5 true ∧
       (tests (plan.set 0 2) 784)[0]? = some false) ∧
    (∀ c ∈ [plan, plan.set 2 1], Plan.size c = 784 ∧ ∀ p ∈ Plan.countPlaces c, ¬ (776 ≤ p ∨ byteAt c p = 0 ∨ 4 < byteAt c p)) ∧
    (Plan.countPlaces (plan.set 738 5))[0]? = some 738 ∧ byteAt (plan.set 738 5) 738 = 5 ∧
    (Plan.countPlaces (plan.take 738))[0]? = some 738 ∧ Plan.lastPart (plan.take 738) 738 736 ∧ Plan.lastPart plan 783 776 ∧
    Plan.faultAt (plan.set 2 1) .range 2 ∧ (∀ o, Plan.faultAt (plan.set 2 1) .range o → 2 ≤ o) ∧
    ∀ code o, ¬ Plan.faultAt plan code o := by
  refine ⟨?_, ?_, ?_, ?_, ?_, ⟨?_, by decide, ?_⟩, ⟨?_, by decide, ?_⟩, .inl ⟨rfl, ?_⟩, ?_, plan_no_fault⟩
  on_goal 11 =>
    have hs : ∀ s ∈ Plan.shots (plan.set 2 1) .A ++ Plan.shots (plan.set 2 1) .B, 2 ≤ s.offset ∧ ∀ f ∈ s.firings, 2 ≤ f.offset ∧
      ∀ g ∈ f.gates, 2 ≤ g.offset := by decide +kernel
    intro o h
    rcases h with h | h | h | ⟨i, hi, h⟩ | ⟨b, hb, h⟩ | ⟨i, hi, h⟩ | ⟨i, hi, h⟩ | ⟨i, hi, h⟩ | ⟨j, hj, h⟩ | ⟨s, h, h'⟩
    · omega
    · omega
    · omega
    · omega
    · have : 32 ≤ b := by clear h; revert b; decide
      omega
    · omega
    · omega
    · omega
    · omega
    · obtain ⟨a, c⟩ := hs s h
      rcases h' with h | h | ⟨f, hf, h⟩
      · omega
      · omega
      · obtain ⟨c, d⟩ := c f hf
        rcases h with h | h | h | ⟨g, hg, h⟩
        · omega
        · omega
        · omega
        · have := d g hg
          omega
  all_goals decide +kernel

/-- A load of the plan's 784 bytes. -/
def loading (s : State) (purpose : LoadPurpose) : State :=
  s.modPlans fun p => { p with load := some { purpose := purpose, index := 0, address := 0, length := 784 } }

/-- O48: the plan's bytes have no fault and others have; the device BOUND and ACTIVE, and a position passed and not. -/
theorem witness_loads :
    (∀ s x, (loading s x).plans.load = some { purpose := x, index := 0, address := 0, length := 784 }) ∧
      fitBytes 784 plan = plan ∧ (validate (fitBytes 784 plan) 784).1 = .none ∧ (validate (fitBytes 784 []) 784).1 ≠ .none ∧
      (loading bound .check).device = .bound ∧ (loading ready .check).device = .active ∧
      (let s := ready.modPos fun u => { u with dir := .increasing, p := 40 }
       (s.pos.dir = .increasing ∧ 40 ≤ s.pos.p) ∧ ¬ (s.pos.dir = .increasing ∧ 41 ≤ s.pos.p ∨ s.pos.dir = .decreasing ∧ s.pos.p ≤ 41)) ∧
      ready.plans.protocol = none ∧ ready.req.snapshot = ⟨none, none⟩ ∧ ready.alarm.sources.length = 15 := by
  have h : fitBytes 784 plan = plan := by decide +kernel
  refine ⟨fun s x => rfl, h, ?_, ?_, by decide, by decide, by decide, by decide, by decide, by decide⟩
  · rw [h, test_plan_validates.2]
  · decide +kernel

/-- O48: an activation from BOUND with nothing left of an earlier plan, one with a result and an ending left, and a snapshot in
flight as a switch begins. -/
theorem witness_activation :
    (∀ r, bound.coupling.carriage.get r = [] ∧ (bound.coupling.elements.get r).length = 12) ∧
    (.planEnded ∉ bound.coupling.orders ∧ ∀ r, (bound.rail r).eval.release = [] ∧ (bound.rail r).trk.hits = [] ∧
      (bound.rail r).trk.path = [] ∧ (bound.rail r).asm.job = none ∧ .planEnded ∉ (bound.rail r).trk.orders ∧
      .planEnded ∉ (bound.rail r).mrk.orders ∧ .planEnded ∉ (bound.rail r).asm.orders) ∧
    (∀ r, let t := ((bound.modEval .A fun v => { v with release := [.result 0 true 0 100] }).modCoupling fun m =>
        { m with orders := [.planEnded] }).takeAllEndings
      t.coupling.carriage.get r = [] ∧ (t.coupling.elements.get r).length = 12 ∧ (t.rail r).eval.release = []) ∧
    (∀ x, (ready.modReq fun q => { q with snapshot := ⟨some x, none⟩ }).req.snapshot.get .A = some x) := by
  refine ⟨?_, ⟨by decide, ?_⟩, ?_, fun _ => rfl⟩ <;> intro r <;> cases r <;> decide +kernel

/-- A pending activation at position 40, and a switch at a step. -/
def switching (s : State) (f : PlanStore → PlanStore) : State := s.modPlans fun p =>
  f { p with pendingActivation := some { index := 1, fromActive := true, mode := .atPosition, position := 40, reached := false } }

/-- A switch protocol of request 1. -/
def protocol (step : Nat) (held flushed : Both Bool) : SwitchProtocol :=
  { index := 1, step := step, held := held, flushed := flushed, swapT := 0 }

/-- O49: a step report before the position and at it, and the reports of each step of a switch. -/
theorem witness_switch :
    (let s := switching ready fun p => { p with stepReports := ⟨1, 0⟩ }
     s.plans.stepReports.get .A = 0 + 1 ∧ s.plans.pendingActivation.isSome = true ∧ s.plans.protocol = none ∧
       s.device = .active ∧ s.req.snapshot = ⟨none, none⟩ ∧
       ¬ (s.pos.dir = .increasing ∧ 40 ≤ s.pos.p ∨ s.pos.dir = .decreasing ∧ s.pos.p ≤ 40)) ∧
    (let s := (switching ready id).modPos fun u => { u with dir := .decreasing, p := 40 }
     s.pos.dir = .decreasing ∧ s.pos.p ≤ 40) ∧
    (let s := switching ready fun p => { p with protocol := some (protocol 1 ⟨false, false⟩ ⟨false, false⟩), heldReports := ⟨1, 0⟩ }
     s.plans.protocol = some (protocol 1 ⟨false, false⟩ ⟨false, false⟩) ∧ s.device ≠ .locked ∧
       s.plans.heldReports.get .A = 0 + 1) ∧
    (let s := switching ready fun p => { p with protocol := some (protocol 3 ⟨true, true⟩ ⟨false, true⟩), switchDone := ⟨1, 0⟩ }
     s.plans.protocol = some (protocol 3 ⟨true, true⟩ ⟨false, true⟩) ∧ s.plans.switchDone.get .A = 0 + 1 ∧ s.device = .active) ∧
    (let s := ready.modPlans fun p => { p with protocol := some (protocol 6 ⟨true, true⟩ ⟨true, true⟩), resetDone := 1 }
     s.plans.protocol = some (protocol 6 ⟨true, true⟩ ⟨true, true⟩) ∧ s.plans.resetDone = 0 + 1 ∧ s.plans.stop = none ∧
       s.plans.pendingActivation = none ∧ 4 ≤ 6) := by decide

/-- O49: the reset done behind which a STOP waits, and behind which a further switch is reached. -/
theorem witness_switch_behind :
    (let s := ready.modPlans fun p =>
       { p with protocol := some (protocol 6 ⟨true, true⟩ ⟨true, true⟩), resetDone := 1
                stop := some { stopping ⟨false, false⟩ ⟨false, false⟩ ⟨false, false⟩ with begun := false } }
     s.plans.protocol = some (protocol 6 ⟨true, true⟩ ⟨true, true⟩) ∧ s.device ≠ .locked ∧ s.plans.resetDone = 0 + 1 ∧
       s.plans.stop = some { stopping ⟨false, false⟩ ⟨false, false⟩ ⟨false, false⟩ with begun := false }) ∧
    (let a : PendingActivation := { index := 2, fromActive := true, mode := .immediate, position := 0, reached := true }
     let s := ready.modPlans fun p =>
       { p with protocol := some (protocol 6 ⟨true, true⟩ ⟨true, true⟩), resetDone := 1, pendingActivation := some a }
     s.plans.pendingActivation = some a ∧ s.plans.stop = none ∧ a.fromActive = true ∧ a.reached = true ∧ s.device = .active) ∧
    (inState .faulted).device = .faulted := by decide

/-- O50: STOP outside ACTIVE, with a stop, a switch or an activation in hand and with none; and the reports of its steps. -/
theorem witness_stop :
    ((asked ready 3 []).req.scan.map Request.kind = [3] ∧ ready.device.scans = true ∧ bound.device ≠ .active) ∧
    (ready.plans.stop = none ∧ ready.plans.load = none ∧ ready.req.snapshot = ⟨none, none⟩ ∧ ready.plans.protocol = none ∧
      ready.plans.pendingActivation = none) ∧
    (let s := switching ready fun p => { p with protocol := some (protocol 3 ⟨true, true⟩ ⟨false, true⟩) }
     s.plans.protocol = some (protocol 3 ⟨true, true⟩ ⟨false, true⟩) ∧ 3 < 4) ∧
    ((switching ready id).plans.protocol = none ∧ ((switching ready id).plans.pendingActivation.map PendingActivation.fromActive) = some true) ∧
    (let s := ready.modPlans fun p =>
       { p with stop := some (stopping ⟨false, false⟩ ⟨false, false⟩ ⟨false, false⟩), heldReports := ⟨1, 0⟩, stopDone := ⟨1, 0⟩ }
     s.plans.stop = some (stopping ⟨false, false⟩ ⟨false, false⟩ ⟨false, false⟩) ∧ s.device ≠ .locked ∧
       s.plans.heldReports.get .A = 0 + 1 ∧ s.plans.protocol = none ∧ s.plans.stopDone.get .A = 0 + 1 ∧
       (stopping ⟨false, false⟩ ⟨false, false⟩ ⟨false, false⟩).held.get .A = false) ∧ ready.alarm.sources.length = 15 ∧
    (stopping ⟨true, true⟩ ⟨true, true⟩ ⟨false, true⟩).index < 8 ∧ ready.req.issued.length = 8 ∧
    (∀ x, (loading ready x).plans.load.map Load.purpose = some x) := by
  refine ⟨by decide, by decide, by decide, by decide, by decide, by decide, by decide, by decide, fun _ => rfl⟩

/-! ## Witnesses: requests -/

/-- O51: a scan from BOUND of a table of 512 bytes, an unknown kind, and SENSITIVITY at its bounds and beside them. -/
theorem witness_scan :
    (let s := bound.modReq fun q => { q with scanTimer := true }
     s.device.scans = true ∧ s.req.scanTimer = true ∧ s.req.pendingWrites = List.replicate 8 none) ∧
    (∀ w : EntryWrite, let s := bound.modReq fun q => { q with scanTimer := true, pendingWrites := q.pendingWrites.set 3 (some w) }
      s.device.scans = true ∧ s.req.scanTimer = true ∧ s.req.pendingWrites.getD 3 none = some w) ∧
    State.reset.device.scans = false ∧ (List.replicate 512 (1 : Byte)).length = 512 ∧ byteAt (List.replicate 512 1) 448 = 1 ∧
    (asked bound 11 []).req.scan.map Request.kind = [11] ∧ bound.device.scans = true ∧
    (i8At [0, 64] 1 = 64 ∧ i8At [0, 65] 1 = 65 ∧ i8At [1, 192] 1 = -64 ∧ i8At [1, 191] 1 = -65) ∧
    railOfCode (byteAt [1, 64] 0) = some .B := by
  refine ⟨by decide, fun w => ⟨rfl, rfl, rfl⟩, by decide, by decide +kernel, by decide +kernel, by decide, by decide, by decide,
    by decide⟩

/-- A FLUSH in hand with tag 9, whose rail B has reported as given. -/
def flushing (b : Bool) : FlushInHand := { index := 0, tag := 9, counts := ⟨(0, 0), (0, 0)⟩, done := ⟨false, b⟩ }

/-- O52: FLUSH in ACTIVE and outside, with another in hand; and the first report and the second, with its tag and another. -/
theorem witness_flush :
    (asked ready 4 []).req.scan.map Request.kind = [4] ∧ ready.device = .active ∧ ready.req.flush = none ∧ bound.device ≠ .active ∧
    (∀ b, (let s := ready.modReq fun q => { q with flush := some (flushing b), flushDone := ⟨[9], [8]⟩ }
           s.req.flush = some (flushing b) ∧ s.req.flushDone.get .A = [9] ∧ s.req.flushDone.get .B = [8] ∧ (flushing b).tag = 9 ∧
             ∀ o, o ≠ Rail.A → (flushing b).done.get o = b)) := by
  refine ⟨by decide, by decide, by decide, by decide, fun b => ⟨rfl, rfl, rfl, rfl, fun o h => ?_⟩⟩
  cases o
  · exact absurd rfl h
  · rfl

/-- SNAPSHOT of an element of rail A into one byte at 64. -/
def snapshotParams (element : Nat) : List Byte := [0] ++ le8 element ++ [0, 0] ++ le32 1 ++ le32 64 ++ le32 0

/-- A snapshot of element 0. -/
def snap (sweeps : Nat) (c : Option Capture) : Snapshot :=
  { index := 0, element := 0, destination := 64, capacity := 1, sweeps := sweeps, capture := c }

/-- O53: SNAPSHOT of a fired element and of one that is not, and a snapshot with its capture, at 15 sweeps and at 16. -/
theorem witness_snapshot :
    (let p := snapshotParams 11
     railOfCode (byteAt p 0) = some .A ∧ byteAt p 1 = 11 ∧ u64At p 8 % 64 = 0 ∧ 0 < u32At p 4) ∧
    byteAt (snapshotParams 12) 1 = 12 ∧ Plan.fired plan .A 0 = true ∧ Plan.fired plan .A 11 = false ∧
    ready.req.snapshot.get .A = none ∧ ready.device.scans = true ∧
    ∀ x, (ready.modReq fun q => { q with snapshot := ⟨some x, none⟩ }).req.snapshot.get .A = some x := by
  refine ⟨by decide, by decide, ?_, ?_, by decide, by decide, fun x => rfl⟩ <;> decide +kernel

theorem witness_snapshot_ends : (snap 15 none).capture = none ∧ (snap 15 none).sweeps < 16 ∧ 16 ≤ (snap 16 none).sweeps ∧
    (snap 3 (some { samples := [1, 2], pc := 0, seq := 0 })).capture.isSome = true := by decide

/-- A device in LOCKED with the samples of a capture being written. -/
def lockedWriting : State :=
  locked.modReq fun q => { q with snapshot := ⟨some (snap 3 (some { samples := [1, 2], pc := 0, seq := 0 })), none⟩ }

/-- R146, R157, R166, R168: in LOCKED a failed write of samples raises CONTEXT_FAULT, a completed one stands at the
destination, and the completion of either is kept. -/
theorem test_snapshot_write_in_locked :
    (match exec (.snapshotWriteError .A) lockedWriting with
      | .next t => t.alarm.reports.drop lockedWriting.alarm.reports.length =
          [(.requestHandler, .raise .contextFault (.block .requestHandler))] ∧ t.req.holds 0 = true
      | _ => False) ∧
    (match exec (.snapshotWriteComplete .A) lockedWriting with
      | .next t => t.bus.trace.drop lockedWriting.bus.trace.length = [.write 64 [1]] ∧ t.req.holds 0 = true
      | _ => False) := by
  refine ⟨?_, ?_⟩ <;> exact ⟨by decide +kernel, by decide +kernel⟩

/-- An entry write of DONE issued at the start of the trace. -/
def issued : IssuedWrite := { write := { state := .done, code := .ok, words := [], tag := 0 }, start := 0, count := 4 }

/-- A trace that holds the four accesses of the issued write, with what follows, and the completions that REQUEST stands
for. -/
def written (behind : List BusAction) (announced : List (Nat × Nat)) : State :=
  (bound.modReq fun q => { q with issued := [some issued], announced := announced, statusIssued := [9] }).modBus fun b =>
    { b with trace := List.replicate 4 .void ++ behind }

/-- O54: an entry write issued, the REQUEST cause standing for nothing, for another write, for it alone and for it first and
another behind it, with its message sent and not; and a rewrite of the status area issued. -/
theorem witness_writes :
    (∀ xs ns, (written xs ns).req.issued.getD 0 none = some issued ∧ (written xs ns).req.announced = ns ∧
      (written xs ns).bus.trace[0 + 4]? = xs[0]? ∧ (written xs ns).req.statusIssued[0]? = some 9 ∧
      (written xs ns).req.statusIssued[1]? = none) ∧
    (bound.req.issued.getD 0 none = none ∧ issued.start = 0 ∧ issued.count = 4) ∧
    (∀ x ∈ ([(4, 8)] : List (Nat × Nat)).head?, x.1 ≠ 0) ∧
    (∀ x ∈ ([(0, 4), (5, 9)] : List (Nat × Nat)).head?, x.1 = 0) ∧
    ([(0, 4)] : List (Nat × Nat)).filter (fun x => x.1 != 0) = [] ∧
    ([(0, 4), (5, 9)] : List (Nat × Nat)).filter (fun x => x.1 != 0) = [(5, 9)] ∧
    ([.message .request] : List BusAction)[0]? = some (.message .request) ∧ ([] : List BusAction)[0]? ≠ some (.message .request) ∧
    (ReqState.done = .done ∨ ReqState.done = .refused) ∧ locked.device = .locked ∧ bound.device ≠ .locked := by
  refine ⟨fun xs ns => ⟨rfl, rfl, ?_, rfl, rfl⟩, by decide, ?_, ?_, by decide, by decide, by decide, by decide, .inl rfl, by decide,
    by decide⟩
  · cases xs <;> rfl
  · simp
  · simp

/-- O54: in LOCKED a completion kept beside the write issued before it. -/
theorem witness_kept :
    (∀ w : EntryWrite, let s := ({ written [] [] with device := .locked } : State).modReq fun q =>
       { q with pendingWrites := q.pendingWrites.set 0 (some w) }
     s.req.issued.getD 0 none = some issued ∧ s.req.pendingWrites.getD 0 none = some w) := fun _ => ⟨rfl, rfl⟩

/-- O54: the lengths that the parts of the status area rest on. -/
theorem witness_status : (∀ r, (State.reset.coupling.elements.get r).length = 12) ∧ State.reset.alarm.sources.length = 15 ∧
    State.reset.jrn.gap.counts.length = 8 := by
  refine ⟨fun r => by cases r <;> decide, by decide, by decide⟩

/-! ## Witnesses: alarms -/

/-- A state with one report on its way, the sources changed. -/
def reported (s : State) (x : Report) (f : AlarmUnit → AlarmUnit) : State :=
  s.modAlarm fun a => f { a with reports := [(.positionUnit, x)] }

/-- O55: a raise and an end of LINK_DOWN, with a rail left in the mask and none. -/
theorem witness_link_down :
    (∀ x, (reported bound x id).alarm.reports = [] ++ (.positionUnit, x) :: []) ∧
    (∃ r, Detail.rail .A = .rail r ∧ (⟨true, false⟩ : Both Bool) = bound.alarm.linkMask.set r true) ∧
    (⟨true, true⟩ : Both Bool).set .A false ≠ ⟨false, false⟩ ∧ (⟨true, false⟩ : Both Bool).set .A false = ⟨false, false⟩ ∧
    Source.linkDown.isFault = false ∧ bound.alarm.sources.length = 15 :=
  ⟨fun _ => rfl, ⟨.A, rfl, rfl⟩, by decide, by decide, by decide, by decide⟩

/-- O55: a raise in each of its cases, and the end of a condition acknowledged and not. -/
theorem witness_raise :
    (∀ s x f, (∀ a, (f a).reports = a.reports) → (reported s x f).alarm.reports = [] ++ (.positionUnit, x) :: []) ∧
    Source.tachDegraded ≠ .linkDown ∧ Source.tachDegraded.isFault = false ∧ State.reset.device = .unbound ∧
    bound.device ≠ .unbound ∧ bound.alarm.sources.length = 15 ∧
    ((bound.alarm.source .tachDegraded).level = 4 ∧ (bound.alarm.source .tachDegraded).state ≠ .pending ∧
      bound.alarm.suppression = 0) ∧
    (let a := (bound.modAlarm fun a => { a with suppression := 1 }).alarm
     (a.source .tachDegraded).level ≤ 6 ∧ 0 < a.suppression) ∧
    (let a := bound.alarm.modSource .tachDegraded fun x => { x with level := 7, state := .pending }
     6 < (a.source .tachDegraded).level ∧ (a.source .tachDegraded).state = .pending) ∧
    (let a := bound.alarm.modSource .tachDegraded fun x => { x with level := 0 }
     (a.source .tachDegraded).level = 0 ∧ (a.source .tachDegraded).state ≠ .pending) ∧
    ((bound.alarm.modSource .tachDegraded fun x => { x with state := .acknowledged }).source .tachDegraded).state =
      .acknowledged := by
  refine ⟨fun s x f h => ?_, by decide⟩
  simp [reported, State.modAlarm, h]

/-- O55: new levels that disable a source PENDING and enable a condition that waits. -/
theorem witness_levels :
    (let s := bound.modAlarm fun a => (a.modSource .overspeed fun x => { x with state := .pending }).modSource .tachDegraded
       fun x => { x with level := 0, present := true, detail := some (.score 20) }
     let levels := (List.replicate 12 4).set Source.overspeed.id 0
     s.alarm.sources.length = 15 ∧ s.alarm.suppression = 0 ∧ s.device ≠ .unbound ∧
       (levels.getD Source.overspeed.id 0 = 0 ∧ (s.alarm.source .overspeed).state ≠ .idle) ∧
       Source.tachDegraded.isCondition = true ∧ (s.alarm.source .tachDegraded).state = .idle ∧
       (s.alarm.source .tachDegraded).present = true ∧ levels.getD Source.tachDegraded.id 0 = 4) := by decide

/-- O55: no source PENDING, and two PENDING at one level, the lower id at the top. -/
theorem witness_top_source :
    bound.alarm.sources.length = 15 ∧ bound.alarm.alarmLevel = 0 ∧ (∀ src ∈ Source.all, (bound.alarm.source src).state ≠ .pending) ∧
      (let a := (bound.alarm.modSource .overspeed fun x => { x with state := .pending }).modSource .linkDown fun x =>
         { x with state := .pending }
       a.sources.length = 15 ∧ 0 < a.alarmLevel ∧ a.topSource = some 1) := by decide

/-- Some faults PENDING. -/
def faulted (s : State) (xs : List Source) : State :=
  s.modAlarm fun a => xs.foldl (fun a x => a.modSource x fun y => { y with state := .pending }) a

/-- O56: a PLAN_FAULT raised in ACTIVE, in FAULTED under no higher fault, and in FAULTED with TACH_FAULT PENDING. -/
theorem witness_fault :
    (∀ s d, (reported s (.raise .planFault d) id).alarm.reports = [] ++ (.positionUnit, .raise .planFault d) :: []) ∧
    Source.planFault.isFault = true ∧ ready.alarm.sources.length = 15 ∧ (ready.alarm.source .planFault).state ≠ .pending ∧
    (∀ h, ¬ (Source.planFault.id < Source.id h ∧ ((inState .faulted).alarm.source h).state = .pending)) ∧
    (let s := faulted (inState .faulted) [.tachFault]
     s.device = .faulted ∧ (Source.planFault.id < Source.tachFault.id ∧ (s.alarm.source .tachFault).state = .pending) ∧
       (s.alarm.source .planFault).state ≠ .pending ∧
       ∀ g, (Source.planFault.id < Source.id g ∧ (s.alarm.source g).state = .pending) → Source.id g ≤ Source.tachFault.id) := by
  refine ⟨fun _ _ => rfl, by decide, by decide, by decide, ?_, by decide, by decide, by decide, ?_⟩
  · intro h
    cases h <;> decide
  · intro g
    cases g <;> decide

/-- O56: a fault raised in LOCKED, and a TACH_FAULT raised in FAULTED with CONTEXT_FAULT PENDING. -/
theorem witness_conflict :
    (locked.device = .locked ∧ locked.alarm.sources.length = 15 ∧ (locked.alarm.source .planFault).state ≠ .pending) ∧
    (let s := faulted (inState .faulted) [.contextFault]
     s.device = .faulted ∧ (Source.tachFault.id < Source.contextFault.id ∧ (s.alarm.source .contextFault).state = .pending) ∧
       (s.alarm.source .tachFault).state ≠ .pending ∧ Source.tachFault.isFault = true ∧
       (∀ r, (s.rail r).trk.table.length = 48) ∧
       ∀ g, (Source.tachFault.id < Source.id g ∧ (s.alarm.source g).state = .pending) → Source.id g ≤ Source.contextFault.id) := by
  refine ⟨by decide, by decide, by decide, by decide, by decide, ?_, ?_⟩
  · intro r
    cases r <;> decide
  · intro g
    cases g <;> decide

/-- O57: an acknowledgement that stays, of the last fault, and of TACH_FAULT still present. -/
theorem witness_ack :
    (∀ s p, (asked s 6 p).req.scan.map Request.kind = [6] ∧ (asked s 6 p).alarm = s.alarm) ∧ byteAt [14] 0 = 14 ∧
    Source.all[14]? = some .contextFault ∧ Source.all[15]? = none ∧ (14 < byteAt [15] 0 ∧ byteAt [15] 0 ≠ 255) ∧
    (let s := faulted bound [.overspeed, .tachDegraded]
     s.device ≠ .faulted ∧ s.alarm.sources.length = 15 ∧ (s.alarm.source .overspeed).state = .pending ∧
       Source.overspeed.isCondition = false ∧ (s.alarm.source .positionLimit).state ≠ .pending ∧
       (s.alarm.source .tachDegraded).present = false) ∧
    (let s := faulted (inState .faulted) [.planFault]
     s.device = .faulted ∧ (s.alarm.source .planFault).state = .pending ∧ s.plans.pendingActivation = none ∧
       Source.planFault.isCondition = false ∧
       ∀ f, f ≠ Source.planFault → Source.isFault f = true → (s.alarm.source f).state ≠ .pending) ∧
    (let s := (faulted (inState .faulted) [.tachFault]).modAlarm fun a => a.modSource .tachFault fun x => { x with present := true }
     (s.alarm.source .tachFault).state = .pending ∧ (s.alarm.source .tachFault).present = true) ∧
    (let s := (faulted bound [.tachDegraded]).modAlarm fun a => a.modSource .tachDegraded fun x => { x with present := true }
     (s.alarm.source .tachDegraded).state = .pending ∧ (s.alarm.source .tachDegraded).present = true ∧
       Source.tachDegraded.isCondition = true) := by
  refine ⟨fun s p => ⟨rfl, rfl⟩, by decide, by decide, by decide, by decide, by decide, ⟨by decide, by decide, by decide, by decide, ?_⟩,
    by decide, by decide⟩
  intro f
  cases f <;> decide

/-- O57: an acknowledgement of all: in FAULTED one that leaves TACH_FAULT, still present, and one that takes every fault. -/
theorem witness_ack_all :
    byteAt [255] 0 = 255 ∧ (∀ p s, (asked s 6 p).req.issued = s.req.issued) ∧ bound.req.issued.length = 8 ∧ (0 : Nat) < 8 ∧
    (let s := (faulted (inState .faulted) [.tachFault]).modAlarm fun a => a.modSource .tachFault fun x => { x with present := true }
     s.device = .faulted ∧ Source.tachFault.isFault = true ∧ (s.alarm.source .tachFault).state = .pending ∧
       (s.alarm.source .tachFault).present = true ∧ Source.tachFault.isCondition = true) ∧
    (let s := faulted (inState .faulted) [.planFault, .contextFault]
     s.device = .faulted ∧ s.plans.pendingActivation = none ∧ s.plans.protocol = none ∧ s.plans.stop = none ∧
       s.req.snapshot = ⟨none, none⟩ ∧ ∀ f, Source.isFault f = true → (s.alarm.source f).state = .pending →
         Source.isCondition f = false ∨ f ≠ Source.tachFault) := by
  refine ⟨by decide, fun _ _ => rfl, by decide, by decide, by decide, ⟨by decide, by decide, by decide, by decide, by decide, ?_⟩⟩
  intro f
  cases f <;> decide

/-- O57: SUPPRESS in its actions, a progress event behind another raiser's report and one behind a raise of its own, and an
expiry due. -/
theorem witness_suppress :
    (asked bound 7 [0, 0, 1, 0]).req.scan.map Request.kind = [7] ∧ (byteAt [0, 0, 1, 0] 0 = 0 ∧ 0 < u16At [0, 0, 1, 0] 2) ∧
      u16At [0, 0, 0, 0] 2 = 0 ∧ 2 < byteAt [3] 0 ∧ bound.alarm.expiryDue = false ∧ bound.alarm.suppression = 0 ∧
      (let other : Raiser × Report := (.planStore, .raise .planFault (.rail .A))
       let a := (bound.modAlarm fun a => { a with suppression := 1, reports := [other, (.positionUnit, .progress 5 5)] }).alarm
       a.suppression = 1 ∧ a.reports = [other] ++ (.positionUnit, .progress 5 5) :: [] ∧ ∀ y ∈ [other], y.1 ≠ .positionUnit) ∧
      (let first : Report := .raise .tachFault (.position 0)
       ([(.positionUnit, first), (.positionUnit, .progress 5 5)] : List (Raiser × Report)) =
         [] ++ (.positionUnit, first) :: [(.positionUnit, .progress 5 5)]) ∧
      (let s := bound.modAlarm fun a => { a with expiryDue := true }
       s.alarm.expiryDue = true ∧ s.alarm.suppression = 0 ∧ s.device ≠ .unbound ∧ s.alarm.sources.length = 15) := by decide

/-! ## Witnesses: the journal and the registers -/

/-- A ROUTINE record. -/
def routine : Rec := .coupling
  { rail := .A, element := 0, group := 0, reason := .lifted, lostAt := 0, restoredAt := none, untested := none, endP := some 0 }

/-- An ESSENTIAL record. -/
def essential : Rec := .marker
  { rail := .A, nozzle := 0, reason := none, broken := false, xStart := 0, xEnd := 0, origins := [1], originTotal := 1, p := 0,
    t := 0, dir := .unknown }

/-- A queue of records with one presented by the Position Unit. -/
def presenting (queue : List Rec) (x : Rec) : State :=
  bound.modJrn fun j => { j with queue := queue, presented := [(.positionUnit, x)] }

/-- O58: a GAP being written, of which a loss gathers behind. -/
theorem witness_offer_late : ∃ g, (bound.modJrn fun j => { j with phase := .writingGap ⟨[], 0, 0, 0⟩ }).jrn.phase = .writingGap g :=
  ⟨_, rfl⟩

/-- O58: room in the queue, a full queue of ROUTINE records, whose last can be displaced, and a full one of ESSENTIAL ones. -/
theorem witness_offer :
    (∀ q x, (presenting q x).jrn.presented = [] ++ (.positionUnit, x) :: [] ∧ (presenting q x).jrn.phase = .idle ∧
      (presenting q x).jrn.queue = q) ∧
    (∀ p ∈ Producer.order.takeWhile (fun p => p != .positionUnit), ∀ x, ∀ y ∈ (presenting [] x).jrn.presented, y.1 ≠ p) ∧
    (List.replicate 31 routine).length < 32 ∧ 32 ≤ (List.replicate 32 routine).length ∧ routine.kind.essential = false ∧
    essential.kind.essential = true ∧ (List.replicate 32 routine)[31]? = some routine ∧
    (∀ (j : Nat) z, (List.replicate 32 routine)[j]? = some z → j ≤ 31) ∧
    ∀ (i : Nat) y, (List.replicate 32 essential)[i]? = some y → y.kind.essential ≠ false := by
  refine ⟨fun q x => ⟨rfl, rfl, rfl⟩, ?_, by decide, by decide, by decide, by decide, by decide, ?_, ?_⟩
  · intro p hp x y hy
    simp only [presenting, State.modJrn, List.mem_singleton] at hy
    subst hy
    exact (by decide : ∀ p ∈ Producer.order.takeWhile (fun p => p != .positionUnit), Producer.positionUnit ≠ p) p hp
  · intro j z h
    rw [List.getElem?_replicate] at h
    split at h <;> simp at h
    omega
  · intro i y h
    rw [List.getElem?_replicate] at h
    split at h <;> simp at h
    subst h
    decide

/-- A GAP record of no loss. -/
def gapRecord : GapRecord := { counts := List.replicate 8 0, firstP := 0, lastP := 0, t := 0 }

/-- O59: a head record in each phase, with room and without; a ROUTINE record asks for the reserve of 1 besides. -/
theorem witness_writer :
    (∀ x ph, (let s := bound.modJrn fun j => { j with queue := [x], phase := ph, reserve := 1 }
       s.jrn.queue = [x] ∧ s.jrn.phase = ph ∧ s.jrn.stopped = false ∧ s.jrn.gap.pending = false ∧ s.jrn.gapLate.pending = false)) ∧
    (bound.modJrn fun j => { j with stopped := true }).jrn.stopped = true ∧
    (let need := routine.slotCount + 1
     need ≤ 0 + ((List.replicate need (0 : Byte)).takeWhile fun m => m == 0).length ∧
       0 + (([0, 1] : List Byte).takeWhile fun m => m == 0).length < need) ∧
    (let need := essential.slotCount
     need ≤ 0 + ((List.replicate need (0 : Byte)).takeWhile fun m => m == 0).length ∧ 0 + ([] : List Byte).length < need) ∧
    (WriterPhase.writing = .writing ∧ essential = essential) ∧ (∃ g, WriterPhase.writingGap gapRecord = .writingGap g) ∧
    ∀ late, (let s := bound.modJrn fun j =>
        { j with queue := [essential], gap := { j.gap with pending := true }, gapLate := { j.gapLate with pending := late } }
      s.jrn.queue = [essential] ∧ s.jrn.gap.pending = true ∧ s.jrn.gapLate.pending = late) := by
  refine ⟨fun x ph => ⟨rfl, rfl, rfl, rfl, rfl⟩, by decide, by decide, by decide, ⟨rfl, rfl⟩, ⟨_, rfl⟩, fun _ => ⟨rfl, rfl, rfl⟩⟩

/-- O59: a GAP, a SURVEY and a MARKER of the shape asked for, a slot of each, a slot number, and eight consumers. -/
theorem witness_slots :
    (Rec.gap gapRecord).shaped ∧ essential.shaped ∧ (∃ body, (Rec.gap gapRecord).bodies[0]? = some body) ∧
      (∃ x : SurveyRecord, (Rec.survey x).shaped ∧ ∃ body, (Rec.survey x).bodies[0]? = some body) ∧ 1 < 4 ∧
      bound.jrn.consumers.length ≤ 8 := by
  refine ⟨by simp [Rec.shaped, gapRecord], by simp [Rec.shaped, essential], ⟨_, rfl⟩, ⟨{
    rail := .A, t := 0, p := 0, planId := 0, seqState := .off, linkState := .down,
    counters := (bound.rail .A).seq.counters, wedge := 0, beyond := 0, hitsSuppressed := 0, hitsLost := 0,
    coupling := List.replicate 12 .unknown }, by simp [Rec.shaped], ⟨_, rfl⟩⟩, by decide, by decide⟩

/-- A Context Block of version 1 with a ring of `slots` slots at `base` and a scan interval. -/
def block (version base slots reserve scan : Nat) : List Byte :=
  le16 version ++ [0, 0] ++ le32 256000 ++ [0, 0, 10, 0] ++ le32 base ++ le32 0 ++ le32 slots ++ le32 0 ++ le32 1 ++ le16 reserve ++
    [10, 10] ++ le16 scan ++ [0, 0] ++ List.replicate 32 0

/-- What the five checks of a BIND find of a block. -/
def checks (bytes : List Byte) : List Bool :=
  let f := readContext bytes
  [decide (f.version = 1), f.base % 64 == 0, (List.range 11).any fun k => f.slotCount == 2 ^ (6 + k),
   decide (4 * f.reserve ≤ f.slotCount), decide (50 ≤ f.scanInterval ∧ f.scanInterval ≤ 5000)]

/-- O60: fifteen sources, and a lock pair of the highest two. -/
theorem witness_registers :
    (let a := (locked.modAlarm fun a => { a with lockPair := some (14, 13) }).alarm
     a.alarmLevel ≤ 10 ∧ a.sources.length = 15 ∧ ∀ x ∈ a.lockPair, x.1 ≤ 14 ∧ x.2 ≤ 14) := by
  refine ⟨by decide, by decide, ?_⟩
  intro x h
  simp [State.modAlarm] at h
  subst h
  decide

/-- R181: an alarm level of 17, which an upset can leave, shows as 1 in STATE and leaves the fields beside it as they are. -/
theorem test_state_fields :
    (let s := bound.modAlarm fun a => a.modSource .tachDegraded fun x => { x with level := 17, state := .pending }
     let t := bound.modAlarm fun a => a.modSource .tachDegraded fun x => { x with level := 1, state := .pending }
     s.alarm.alarmLevel = 17 ∧ readRegister s 0x08 = readRegister t 0x08) := by decide

/-- O60: a line whose hold time a shorter filter time brings to its end, and a condition present at the BIND. -/
theorem witness_bind_effects :
    (let s := (withPos fun u => { u with tachA := ⟨true, false, some 3⟩, settings := { u.settings with filterTime := 5 } }).modAlarm
       fun a => a.modSource .tachDegraded fun x => { x with present := true, detail := some (.score 20) }
     let f := readContext (block 1 64 64 16 50)
     (∀ x ∈ [s.pos.tachA, s.pos.tachB, s.pos.markIn], ∀ n ∈ x.hold, n < s.pos.settings.filterTime) ∧
       f.settings.filterTime ≤ 3 ∧ (s.alarm.source .tachDegraded).present = true ∧ Source.tachDegraded.isCondition = true) := by
  decide +kernel

/-- O60: a write of BIND with nothing bound and in BOUND, and blocks that pass every check at its bound or fail one. -/
theorem witness_bind :
    commandField 1 = 1 ∧ commandField 0xF00 = 0 ∧ (State.reset.device = .unbound ∧ State.reset.bus.binding = none) ∧
      ¬ (bound.device = .unbound ∧ bound.bus.binding = none) ∧
      (let s := State.reset.modBus fun b => { b with binding := some 4096 }
       s.bus.binding = some 4096 ∧ s.device = .unbound ∧ ∀ src, (s.alarm.source src).present = false) ∧
      checks (block 1 64 64 16 50) = [true, true, true, true, true] ∧
      checks (block 1 0 65536 0 5000) = [true, true, true, true, true] ∧
      checks (block 2 1 63 16 49) = [false, false, false, false, false] ∧
      checks (block 1 64 131072 0 5001) = [true, true, false, true, false] := by
  refine ⟨by decide, by decide, by decide, by decide, ⟨by decide, by decide, ?_⟩, ?_, ?_, ?_, ?_⟩
  · intro src
    cases src <;> decide
  all_goals decide +kernel

/-! ## The spec's worked examples -/

/-- The example of accumulation and progress (chapter 1): its first count, and its count back. -/
def accumulating (rem : Int) (p e t score : Nat) : PositionUnit :=
  { State.reset.pos with
    rem := rem, p := p, e := e, t := t, score := score, dir := .increasing,
    settings := { State.reset.pos.settings with q := 184986 } }

theorem test_example_count : ((withPos fun _ => accumulating 200000 1204375 1204375 98110 2).countTach true).pos =
    accumulating 128986 1204376 1204376 98111 1 := by decide

theorem test_example_count_back : ((withPos fun _ => accumulating 171944 1204378 1204378 98113 7).countTach false).pos =
    accumulating 242958 1204377 1204378 98113 6 := by decide

/-- The example of a coarse count and a reversal (chapter 1): both counts. -/
theorem test_example_reversal :
    let start := withPos fun u =>
      { u with p := 5000, e := 5000, t := 700, dir := .increasing, settings := { u.settings with q := 1048576, rv := 5 } }
    let once := (start.countTach false).pos
    let twice := ((start.countTach false).countTach false).pos
    (once.rem, once.p, once.e, once.t, once.dir) = (231424, 4995, 4995, 700, Dir.decreasing) ∧
      (twice.rem, twice.p, twice.e, twice.t) = (206848, 4991, 4991, 704) := by decide

/-- The example of a three-shot sweep (chapter 3): the END timer of shot 1 is 91.2 µs at 80 ticks a µs. -/
theorem test_example_end_timer : endTimerLength { shot false with listen := 4096, endAllowance := 40 } = 7296 := by decide

/-- The examples of projection (chapter 4): E3, its mirror E9 under a sense of -1, and the bolt hole of E6. -/
theorem test_example_projection :
    let e3 : ElementDesc :=
      { group := 1, mount := 350, delay := 160, path := 20672, depthFactor := 11207, alongFactor := 30792, gain := 0, energy := 0 }
    let e6 : ElementDesc :=
      { group := 4, mount := 120, delay := 40, path := 37888, depthFactor := 32767, alongFactor := 0, gain := 0, energy := 0 }
    project { shot true with pc := 1204377 } e3 2400 = .hit 1204769 154 false ∧
      project { shot true with pc := 1204377, sense := -1 } { e3 with mount := -350, alongFactor := -30792 } 2400 =
        .hit 1204769 154 false ∧
      project { shot true with pc := 1204400 } e6 2300 = .hit 1204520 836 false := by decide

/-- An entry of the bolt hole's list (chapter 7). -/
def hole (lo hi : Nat) (depth : Option (Nat × Nat)) (peak : Nat) (groups : BitVec 8) : Entry :=
  { xMin := lo, xMax := hi, dMin := depth.map Prod.fst, dMax := depth.map Prod.snd, peak := peak, groups := groups,
    contributors := [], total := 1, tJoin := 70080, flags := 0 }

/-- The example of a bolt hole seen by three beam groups (chapter 7): track B bridges L1 and L2 and leaves L0. -/
theorem test_example_bolt_hole :
    let far := hole 1309900 1309935 (some (150, 160)) 60 0x08
    let merged := absorb 20 40 4 (hole 1310490 1310530 (some (795, 840)) 168 0x04)
      [far, hole 1310470 1310512 (some (780, 815)) 142 0x12, hole 1310540 1310552 (some (830, 845)) 55 0x04]
    (merged.1.xMin, merged.1.xMax, merged.1.dMin, merged.1.dMax) = (1310470, 1310552, some 780, some 845) ∧
      (merged.1.peak, merged.1.groups, merged.1.total) = (168, 0x16, 3) ∧ merged.2 = [far] := by decide

/-- The example of truncation (chapter 7): the ninth contributor drops the second, the lowest in peak. -/
theorem test_example_truncation :
    let c (x : Nat × Nat) : Contributor :=
      { group := 0, kind := .reflector, elementMask := 1, xMin := 0, xMax := 0, dMin := none, dMax := none, peak := x.2, hitCount := 1,
        flags := 0, arrival := x.1 }
    (keepContributors ([(1, 90), (2, 0), (3, 120), (4, 75), (5, 90), (6, 200), (7, 64), (8, 110), (9, 75)].map c)).map
      Contributor.arrival = [1, 3, 4, 5, 6, 7, 8, 9] := by decide

/-- The example of a merge, a partial mark and a late mark (chapter 8): request 4,120 stands over its nozzle and is broken. -/
theorem test_example_partial_mark :
    let s := (marking [{ mark 1310440 1310640 with origins := [4118, 4119], originTotal := 2 }] 1301950 1302010).modMrk .A fun m =>
      { m with nozzles := [{ Nozzle.cleared with desc := some sprayer, position := some 1301980 }] }
    ∃ t, exec (.markRequest .A) s = .next t ∧ (t.rail .A).mrk.queue =
      [{ mark 1301950 1302010 with origins := [1], state := .spraying, broken := true },
       { mark 1310440 1310640 with origins := [4118, 4119], originTotal := 2 }] ∧
      ((t.rail .A).mrk.nozzle 0).drive = true := ⟨_, rfl, by decide, by decide⟩

end Sys2Proof.Tests
end

section
/-! PROOFS. What each row of the table leaves of the view of Laws/Frame.lean and of the Position Unit, and with it the
Position Unit's two invariants, O9 and O10. -/

namespace Sys2Proof

/-- The rows that leave the view of Laws/Frame.lean as it is, on every state. -/
def Instr.keepsView : Instr → Bool
  | .hardwareReset _ | .rawInputChange _ _ _ | .holdTimerExpiry _ | .liftChange _ _ | .sampleFrame _ _ | .endFrame _ _
  | .idleFrame _ _ | .badFrame _ _ | .endTimerExpiry _ | .presenceTimerExpiry _ | .linkUp _ | .sweepStep _ _
  | .markerStopPurge _ | .planLoadComplete _ | .stop | .setPositionNow | .setPositionAtMark | .ackAlarm | .alarmRaise _
  | .recordOffer | .journalTakeRecord _ | .roomCheckRetry _ | .journalWriteComplete | .bind _ | .bindComplete _
  | .reset _ | .controlNone _ | .registerWrite _ _ => false
  | _ => true

namespace Machine

/-! ## The rows that keep the view -/

/-- A request's row keeps the view when its owner does. -/
theorem State.takeRequest_view (s : State) (kind : Request → Bool) (owner : State → Request → State)
    (h : ∀ u q, (owner u q).view = u.view) : (s.takeRequest kind owner).view = s.view := by
  unfold State.takeRequest
  split
  · rfl
  · split
    · dsimp only
      split <;> simp [h]
    · rfl

@[simp] theorem State.beginCheck_view (s : State) : s.beginCheck.view = s.view :=
  s.modJrn_view _ (by split <;> rfl)

@[simp] theorem JournalWriter.breakOff_queue (j : JournalWriter) : j.breakOff.queue = j.queue := rfl

/-- Every row of `Instr.keepsView` answers a next state with the view as it was. -/
theorem exec_view (c : Instr) (s : State) (h : c.keepsView = true) : ∃ t, exec c s = .next t ∧ t.view = s.view := by
  cases c with
  | activatePlan => exact ⟨_, rfl, s.takeRequest_view _ _ State.activatePlan_view⟩
  | checkPlan => exact ⟨_, rfl, s.takeRequest_view _ _ State.checkPlan_view⟩
  | flush => exact ⟨_, rfl, s.takeRequest_view _ _ State.flushRequest_view⟩
  | suppressStart => exact ⟨_, rfl, s.takeRequest_view _ _ State.suppressStart_view⟩
  | suppressExtend => exact ⟨_, rfl, s.takeRequest_view _ _ State.suppressExtend_view⟩
  | suppressEnd => exact ⟨_, rfl, s.takeRequest_view _ _ State.suppressEnd_view⟩
  | snapshot => exact ⟨_, rfl, s.takeRequest_view _ _ State.snapshotRequest_view⟩
  | markerTest => exact ⟨_, rfl, s.takeRequest_view _ _ State.markerTest_view⟩
  | markerRelease => exact ⟨_, rfl, s.takeRequest_view _ _ State.markerRelease_view⟩
  | sensitivity => exact ⟨_, rfl, s.takeRequest_view _ _ State.sensitivityRequest_view⟩
  | unknownKind => exact ⟨_, rfl, s.takeRequest_view _ _ fun u q => u.refuse_view q _⟩
  | markAnswer r => exact ⟨_, rfl, s.takeAnswer_view r⟩
  | markRequest r => exact ⟨_, rfl, s.answerRequest_view r⟩
  | suppressionExpiry => exact ⟨_, rfl, s.dueExpiry_view⟩
  | attentionWrite v => exact ⟨_, rfl, s.writeAttention_view v⟩
  | markerPresetTranslate r =>
    refine ⟨_, rfl, ?_⟩
    split
    · exact (State.modMrk_view _ _ _).trans ((State.eachMark_view _ r _ fun u e => u.translateEntry_view r _ e).trans
        (s.putMarkNotices_view r _))
    · rfl
  | holdRelease r | trackGapClose r | stopFlushDone r =>
    refine ⟨_, rfl, ?_⟩
    dsimp only
    (repeat' split) <;> simp
  | hardwareReset | rawInputChange | holdTimerExpiry | liftChange | sampleFrame | endFrame | idleFrame | badFrame
  | endTimerExpiry | presenceTimerExpiry | linkUp | sweepStep | markerStopPurge | planLoadComplete | stop
  | setPositionNow | setPositionAtMark | ackAlarm | alarmRaise | recordOffer | journalTakeRecord | roomCheckRetry
  | journalWriteComplete | bind | bindComplete | reset | controlNone | registerWrite => cases h
  -- What is left acts on the front item of a path where there is one of its kind, and else changes nothing.
  | _ =>
    refine ⟨_, rfl, ?_⟩
    (repeat' split) <;> simp

/-! ## The Position Unit under the other blocks' rows -/


theorem View.faultedFrom.pos {v w : View} (h : v.faultedFrom w) : w.pos = v.pos := by
  rcases h with ⟨-, rfl⟩ | ⟨-, rfl⟩ <;> rfl

theorem View.returned.pos {v w : View} (h : v.returned w) : w.pos = v.pos := by
  rcases h with rfl | rfl <;> rfl

@[simp] theorem State.count_pos (s : State) (r : Rail) (f : SurveyCounters → SurveyCounters) : (s.count r f).pos = s.pos :=
  rfl

@[simp] theorem State.strayFrame_pos (s : State) (r : Rail) : (s.strayFrame r).pos = s.pos := rfl

@[simp] theorem State.frameCounts_pos (s : State) (r : Rail) : (s.frameCounts r).pos = s.pos := rfl

@[simp] theorem State.putNotices_pos (s : State) (r : Rail) (xs : List SeqNotice) : (s.putNotices r xs).pos = s.pos := rfl

@[simp] theorem State.countUntested_pos (s : State) (r : Rail) : (s.countUntested r).pos = s.pos := rfl

@[simp] theorem State.frontEndWarning_pos (s : State) (r : Rail) (flags : BitVec 8) :
    (s.frontEndWarning r flags).pos = s.pos := congrArg View.pos (s.frontEndWarning_view r flags)

@[simp] theorem State.strike_pos (s : State) (strikes : List Strike) : (s.strike strikes).pos = s.pos :=
  congrArg View.pos (s.strike_view strikes)

@[simp] theorem State.countSweepOf_pos (s : State) (r : Rail) (x : Shot) : (s.countSweepOf r x).pos = s.pos :=
  congrArg View.pos (s.countSweepOf_view r x)

@[simp] theorem State.linkGoesDown_pos (s : State) (r : Rail) : (s.linkGoesDown r).pos = s.pos :=
  congrArg View.pos (s.linkGoesDown_view r)

@[simp] theorem State.seqLinkDown_pos (s : State) (r : Rail) : (s.seqLinkDown r).pos = s.pos :=
  congrArg View.pos (s.seqLinkDown_view r)

@[simp] theorem State.fireShot_pos (s : State) (r : Rail) (i : Nat) : (s.fireShot r i).pos = s.pos := by
  rcases s.fireShot_view r i with h | ⟨_, h⟩ <;> exact congrArg View.pos h

@[simp] theorem State.afterShot_pos (s : State) (r : Rail) (x : Shot) : (s.afterShot r x).pos = s.pos := by
  rcases s.afterShot_view r x with h | ⟨-, -, _, h⟩ <;> exact congrArg View.pos h

@[simp] theorem State.abandonShot_pos (s : State) (r : Rail) : (s.abandonShot r).pos = s.pos :=
  congrArg View.pos (s.abandonShot_view r)

@[simp] theorem State.judgeShot_pos (s : State) (r : Rail) (x : Shot) (whole : Firing → Bool) :
    (s.judgeShot r x whole).pos = s.pos := congrArg View.pos (s.judgeShot_view r x whole)

@[simp] theorem State.reportHeld_pos (s : State) (r : Rail) : (s.reportHeld r).pos = s.pos :=
  congrArg View.pos (s.reportHeld_view r)

@[simp] theorem State.takeRaise_pos (s : State) (src : Source) (d : Detail) : (s.takeRaise src d).pos = s.pos := by
  rcases s.takeRaise_view src d with h | h
  · exact congrArg View.pos h
  · exact h.pos

@[simp] theorem State.leaveFaulted_pos (s : State) : s.leaveFaulted.pos = s.pos := by
  rcases s.leaveFaulted_view with h | ⟨-, h | h⟩
  · exact congrArg View.pos h
  · exact h.pos
  · exact h.pos

@[simp] theorem State.ackAlarm_pos (s : State) (q : Request) : (s.ackAlarm q).pos = s.pos := by
  rcases s.ackAlarm_view q with h | ⟨u, hu, h⟩
  · exact congrArg View.pos h
  · exact (congrArg View.pos h).trans (u.leaveFaulted_pos.trans (congrArg View.pos hu))

@[simp] theorem State.sampleReceived_pos (s : State) (r : Rail) (seq : BitVec 8) (channel index : Nat) (damaged : Bool)
    (samples : List Byte) : (s.sampleReceived r seq channel index damaged samples).pos = s.pos := by
  unfold State.sampleReceived
  (repeat' split) <;> simp

@[simp] theorem State.endReceived_pos (s : State) (r : Rail) (seq flags : BitVec 8) (counts : List Nat) :
    (s.endReceived r seq flags counts).pos = s.pos := by
  unfold State.endReceived
  (repeat' split) <;> simp

@[simp] theorem State.receive_pos (s : State) (r : Rail) (bytes : List Byte) : (s.receive r bytes).pos = s.pos := by
  unfold State.receive
  (repeat' split) <;> simp

@[simp] theorem State.endTimerExpires_pos (s : State) (r : Rail) : (s.endTimerExpires r).pos = s.pos := by
  unfold State.endTimerExpires
  dsimp only
  (repeat' split) <;> simp

@[simp] theorem State.presenceExpires_pos (s : State) (r : Rail) : (s.presenceExpires r).pos = s.pos := by
  unfold State.presenceExpires
  dsimp only
  (repeat' split) <;> simp [State.raiseReport, State.report]

@[simp] theorem State.linkComesUp_pos (s : State) (r : Rail) : (s.linkComesUp r).pos = s.pos :=
  congrArg View.pos (s.linkComesUp_view r)

@[simp] theorem State.liftChanges_pos (s : State) (r : Rail) (asserted : Bool) : (s.liftChanges r asserted).pos = s.pos := by
  unfold State.liftChanges
  dsimp only
  (repeat' split) <;> simp

@[simp] theorem State.stepEffect_pos (s : State) (r : Rail) : (s.stepEffect r).pos = s.pos := by
  unfold State.stepEffect State.startSweep
  dsimp only
  (repeat' split) <;> simp [State.raiseReport, State.report]

@[simp] theorem State.sweepStep_pos (s : State) (r : Rail) (n : Nat) : (s.sweepStep r n).pos = s.pos := by
  unfold State.sweepStep
  dsimp only
  split <;> simp

@[simp] theorem State.railPurged_pos (s : State) (r : Rail) : (s.railPurged r).pos = s.pos := by
  rcases s.railPurged_view r with h | ⟨-, -, h⟩ <;> exact congrArg View.pos h

@[simp] theorem State.stopRequest_pos (s : State) (q : Request) : (s.stopRequest q).pos = s.pos := by
  rcases s.stopRequest_view q with h | ⟨-, h⟩ <;> exact congrArg View.pos h

@[simp] theorem State.endActivationLoad_pos (s : State) (l : Load) (c : List Byte) (fromActive : Bool) (mode : SwitchMode)
    (position : Nat) : (s.endActivationLoad l c fromActive mode position).pos = s.pos := by
  rcases s.endActivationLoad_view l c fromActive mode position with h | ⟨-, h⟩ <;> exact congrArg View.pos h

@[simp] theorem State.endCheck_pos (s : State) (l : Load) (c : List Byte) : (s.endCheck l c).pos = s.pos :=
  congrArg View.pos (s.endCheck_view l c)

@[simp] theorem State.putReports_pos (s : State) (xs : List (Raiser × Report)) : (s.putReports xs).pos = s.pos := rfl

@[simp] theorem State.putMarkOrders_pos (s : State) (r : Rail) (xs : List MarkerOrder) : (s.putMarkOrders r xs).pos = s.pos :=
  congrArg View.pos (s.putMarkOrders_view r xs)

@[simp] theorem State.purge_pos (s : State) (r : Rail) (reason : UnmarkedReason) : (s.purge r reason).pos = s.pos :=
  congrArg View.pos (s.purge_view r reason)

@[simp] theorem State.placeRecord_pos (s : State) (x : Rec) : (s.placeRecord x).pos = s.pos := by
  obtain ⟨_, h, -⟩ := s.placeRecord_view x
  exact congrArg View.pos h

@[simp] theorem State.beginCheck_pos (s : State) : s.beginCheck.pos = s.pos := rfl

@[simp] theorem State.roomCheck_pos (s : State) (x : Rec) (masks : List Byte) : (s.roomCheck x masks).pos = s.pos := by
  rcases s.roomCheck_view x masks with h | h <;> exact congrArg View.pos h

@[simp] theorem State.recordWritten_pos (s : State) (x : Rec) : (s.recordWritten x).pos = s.pos :=
  congrArg View.pos (s.recordWritten_view x)

@[simp] theorem State.writeEnables_pos (s : State) (v : AttnBits) : (s.writeEnables v).pos = s.pos := rfl

@[simp] theorem State.beginBind_pos (s : State) : s.beginBind.pos = s.pos := by
  unfold State.beginBind
  split <;> rfl

@[simp] theorem State.bindFails_pos (s : State) (e : BindError) : (s.bindFails e).pos = s.pos :=
  congrArg View.pos (s.bindFails_view e)

@[simp] theorem State.announce_pos (s : State) : s.announce.pos = s.pos := congrArg View.pos s.announce_view

@[simp] theorem State.endScan_pos (s : State) : s.endScan.pos = s.pos := congrArg View.pos s.endScan_view

@[simp] theorem State.raisePresent_pos (s : State) : s.raisePresent.pos = s.pos := by
  unfold State.raisePresent State.eachSource
  induction Source.all generalizing s with
  | nil => rfl
  | cons src rest ih =>
    rw [List.foldl_cons, ih]
    dsimp only
    (repeat' split) <;> simp

/-! ## How the Position Unit moves under each row -/

/-- The Position Unit stays within its ranges, and its T does not fall. -/
def State.posAdvances (s t : State) : Prop := (s.pos.inRange → t.pos.inRange) ∧ s.pos.t ≤ t.pos.t

theorem State.posAdvances.trans {s t u : State} (h : s.posAdvances t) (k : t.posAdvances u) : s.posAdvances u :=
  ⟨fun i => k.1 (h.1 i), le_trans h.2 k.2⟩

theorem State.posAdvances_of_pos {s t : State} (h : t.pos = s.pos) : s.posAdvances t :=
  ⟨fun i => h ▸ i, h ▸ le_rfl⟩

theorem State.movesInRange.posAdvances {s t : State} (h : s.movesInRange t) : s.posAdvances t := h.2

theorem State.takeRequest_posAdvances (s : State) (kind : Request → Bool) (owner : State → Request → State)
    (h : ∀ (u : State) (q : Request), u.posAdvances (owner u q)) : s.posAdvances (s.takeRequest kind owner) := by
  unfold State.takeRequest
  split
  · exact posAdvances_of_pos rfl
  · rename_i q rest _
    have k := h (s.modReq fun h => { h with scan := rest }) q
    split
    · dsimp only
      split
      · exact k.trans (posAdvances_of_pos (State.endScan_pos _))
      · exact k
    · exact posAdvances_of_pos rfl

theorem State.deviceReset_posAdvances (s : State) : s.posAdvances s.deviceReset :=
  ⟨fun ⟨lo, hi, p, e, t, score, _⟩ => ⟨lo, hi, p, e, t, score, nofun⟩, le_rfl⟩

theorem State.writeControl_posAdvances (s : State) (v : Word) : s.posAdvances (s.writeControl v) := by
  unfold State.writeControl
  dsimp only
  split
  · exact posAdvances_of_pos (by simp)
  · split
    · exact (posAdvances_of_pos (s.writeEnables_pos _)).trans (State.deviceReset_posAdvances _)
    · exact posAdvances_of_pos (by simp)

theorem State.writeRegister_posAdvances (s : State) (offset : Nat) (v : Word) : s.posAdvances (s.writeRegister offset v) := by
  unfold State.writeRegister
  split
  · exact s.writeControl_posAdvances v
  · (repeat' split) <;> exact posAdvances_of_pos rfl

theorem State.bindSucceeds_posAdvances (s : State) (address : Nat) (f : ContextFields) :
    s.posAdvances (s.bindSucceeds address f) := by
  unfold State.bindSucceeds
  dsimp only
  generalize hu : State.modReq _ _ = u
  have h : s.posAdvances u := by
    rw [← hu]
    exact (s.acceptDue_moves false).posAdvances.trans (posAdvances_of_pos rfl)
  exact (h.trans (u.loadSettings_moves f.settings).posAdvances).trans (posAdvances_of_pos (by simp))

theorem State.endBind_posAdvances (s : State) (address : Nat) (block : Option (List Byte)) :
    s.posAdvances (s.endBind address block) := by
  have h : s.posAdvances (s.modBus fun b => { b with binding := none }) := posAdvances_of_pos rfl
  unfold State.endBind
  split
  · exact posAdvances_of_pos (by simp)
  · dsimp only
    split
    · exact h.trans (State.bindSucceeds_posAdvances _ _ _)
    · exact posAdvances_of_pos (by simp)

/-- Every row but the hardware reset answers a next state in which the Position Unit has advanced. -/
theorem exec_posAdvances (c : Instr) (s : State) (hc : ∀ pins, c ≠ .hardwareReset pins) :
    ∃ t, exec c s = .next t ∧ s.posAdvances t := by
  by_cases hv : c.keepsView = true
  · obtain ⟨t, ht, h⟩ := exec_view c s hv
    exact ⟨t, ht, State.posAdvances_of_pos (congrArg View.pos h)⟩
  cases c with
  | hardwareReset pins => exact absurd rfl (hc pins)
  | rawInputChange a b m =>
    exact ⟨_, rfl, (s.acceptDue_moves false).posAdvances.trans
      ((State.modPos_moves _ _ ⟨id, le_rfl, rfl⟩).inRange.trans (State.acceptDue_moves _ _)).posAdvances⟩
  | holdTimerExpiry markFirst =>
    refine ⟨_, rfl, ?_⟩
    split
    · exact State.posAdvances_of_pos rfl
    · exact ((s.modPos_moves _ ⟨id, le_rfl, rfl⟩).inRange.trans (State.acceptDue_moves _ _)).posAdvances
  | setPositionNow => exact ⟨_, rfl, s.takeRequest_posAdvances _ _ fun u q => (u.setPositionNow_moves q).inRange.posAdvances⟩
  | setPositionAtMark =>
    exact ⟨_, rfl, s.takeRequest_posAdvances _ _ fun u q => (u.setPositionAtMark_moves q).inRange.posAdvances⟩
  | stop => exact ⟨_, rfl, s.takeRequest_posAdvances _ _ fun u q => State.posAdvances_of_pos (u.stopRequest_pos q)⟩
  | ackAlarm => exact ⟨_, rfl, s.takeRequest_posAdvances _ _ fun u q => State.posAdvances_of_pos (u.ackAlarm_pos q)⟩
  | bind v => exact ⟨_, rfl, s.writeControl_posAdvances v⟩
  | reset v => exact ⟨_, rfl, s.writeControl_posAdvances v⟩
  | controlNone v => exact ⟨_, rfl, s.writeControl_posAdvances v⟩
  | registerWrite offset v => exact ⟨_, rfl, s.writeRegister_posAdvances offset v⟩
  | bindComplete block =>
    refine ⟨_, rfl, ?_⟩
    split
    · exact State.posAdvances_of_pos rfl
    · exact s.endBind_posAdvances _ block
  | sampleFrame r bytes | endFrame r bytes | idleFrame r bytes | badFrame r bytes =>
    exact ⟨_, rfl, State.posAdvances_of_pos (s.receive_pos r bytes)⟩
  | sweepStep r strikes | planLoadComplete bytes =>
    refine ⟨_, rfl, State.posAdvances_of_pos ?_⟩
    dsimp only
    (repeat' split) <;> simp
  | liftChange | endTimerExpiry | presenceTimerExpiry | linkUp | markerStopPurge | alarmRaise | recordOffer
  | journalTakeRecord | roomCheckRetry | journalWriteComplete =>
    refine ⟨_, rfl, State.posAdvances_of_pos ?_⟩
    (repeat' split) <;> simp
  | _ => exact absurd rfl hv

/-! ## The invariants of the Position Unit -/

theorem PositionUnit.hardware_inRange (pins : Pins) : (PositionUnit.hardware pins).inRange :=
  ⟨le_rfl, (by decide : (0 : Int) < 256000), Nat.zero_le _, Nat.zero_le _, Nat.zero_le _, Nat.zero_le _, nofun⟩

/-- Settles O9: the idle step is a tick, the hardware reset leaves the values of R17, and any other row advances the
Position Unit. -/
theorem positionUnitStaysInRange : Obligations.PositionUnitStaysInRange := by
  intro s t hs h
  unfold step at h
  split at h
  · cases h
    exact s.tick_moves.posAdvances.1 hs
  · rename_i c rest _
    by_cases hc : ∃ pins, c = .hardwareReset pins
    · obtain ⟨pins, rfl⟩ := hc
      cases h
      exact PositionUnit.hardware_inRange pins
    · obtain ⟨u, hu, k⟩ := exec_posAdvances c { s with pending := rest } fun pins e => hc ⟨pins, e⟩
      cases hu.symm.trans h
      exact k.1 hs

/-- Settles O10: every row but the hardware reset advances the Position Unit. -/
theorem travelNeverDecreases : Obligations.TravelNeverDecreases := by
  intro c s t h hc
  obtain ⟨u, hu, k⟩ := exec_posAdvances c s hc
  cases hu.symm.trans h
  exact k.2

end Machine
end Sys2Proof
end

section
/-! PROOFS. The resets: what either leaves of the Position Unit (O3), and that the reset state is safe (O5). -/

namespace Sys2Proof.Machine

/-- Settles O3: the enables written before a device reset leave the Position Unit alone. -/
theorem positionUnitAfterEachReset : Obligations.PositionUnitAfterEachReset := by
  intro pins v s hv
  refine ⟨⟨_, rfl, rfl⟩, (s.writeEnables (enablesOf v)).deviceReset, ?_, rfl⟩
  have h : s.writeControl v = (s.writeEnables (enablesOf v)).deviceReset := by
    have hc : (v.extractLsb' 0 4).toNat = 2 := hv
    simp [State.writeControl, hc]
  exact congrArg Host.Outcome.next h

/-- After a hardware reset both Sequencers are OFF in UNBOUND, with no shot in flight and their links DOWN. -/
theorem State.reset_inStep : State.reset.inStep := by
  refine ⟨fun r => ?_, nofun, fun _ => rfl⟩
  cases r <;> exact ⟨nofun, nofun, fun _ => ⟨rfl, rfl⟩⟩

theorem State.reset_bounded : State.reset.bounded :=
  ⟨Nat.zero_le _, fun r => by cases r <;> rfl⟩

theorem State.reset_cabAlarm : State.reset.cabAlarm = false := by decide

/-- Settles O5. -/
theorem resetStateIsSafe : Obligations.ResetStateIsSafe :=
  ⟨⟨State.reset_inStep, PositionUnit.hardware_inRange _, State.reset_bounded⟩, rfl, State.reset_cabAlarm, rfl⟩

end Sys2Proof.Machine
end

section
/-! PROOFS. The operations of the Position Unit, each said once: what they leave of the input lines and the settings,
and what accepting the lines that are due comes to in the terms of Safety.lean. -/

namespace Sys2Proof.Machine

/-! ## The Position Unit under notices, reports, records and entry writes -/

@[simp] theorem State.report_pos (s : State) (who : Raiser) (x : Report) : (s.report who x).pos = s.pos := rfl

@[simp] theorem State.raiseReport_pos (s : State) (who : Raiser) (src : Source) (d : Detail) :
    (s.raiseReport who src d).pos = s.pos := rfl

@[simp] theorem State.raisePosition_pos (s : State) (src : Source) (d : Detail) : (s.raisePosition src d).pos = s.pos := rfl

@[simp] theorem State.endPosition_pos (s : State) (src : Source) : (s.endPosition src).pos = s.pos := rfl

@[simp] theorem State.noticeMarkers_pos (s : State) (x : PosNotice) : (s.noticeMarkers x).pos = s.pos :=
  congrArg View.pos (s.noticeMarkers_view x)

@[simp] theorem State.sendProgress_pos (s : State) (n p : Nat) : (s.sendProgress n p).pos = s.pos :=
  congrArg View.pos (s.sendProgress_view n p)

@[simp] theorem State.sendReversal_pos (s : State) (d : Dir) (p n : Nat) : (s.sendReversal d p n).pos = s.pos :=
  congrArg View.pos (s.sendReversal_view d p n)

@[simp] theorem State.sendPreset_pos (s : State) (p q : Nat) (delta : Int) : (s.sendPreset p q delta).pos = s.pos :=
  congrArg View.pos (s.sendPreset_view p q delta)

@[simp] theorem State.offer_pos (s : State) (who : Producer) (x : Rec) : (s.offer who x).pos = s.pos :=
  congrArg View.pos (s.offer_view who x)

@[simp] theorem State.complete_pos (s : State) (i : Nat) (st : ReqState) (code : ResultCode) (words : List Byte) :
    (s.complete i st code words).pos = s.pos := congrArg View.pos (s.complete_view i st code words)

/-! ## The input lines and the settings, which counts, marks and presets leave alone -/

/-- The three input lines and the settings. -/
def State.inputs (s : State) : InputLine × InputLine × InputLine × PositionSettings :=
  (s.pos.tachA, s.pos.tachB, s.pos.markIn, s.pos.settings)

theorem State.inputs_eq_iff (s u : State) : u.inputs = s.inputs ↔ u.pos.tachA = s.pos.tachA ∧ u.pos.tachB = s.pos.tachB ∧
    u.pos.markIn = s.pos.markIn ∧ u.pos.settings = s.pos.settings := by
  simp [State.inputs]

@[simp] theorem State.clearLimit_inputs (s : State) : s.clearLimit.inputs = s.inputs := by
  unfold State.clearLimit
  split <;> rfl

@[simp] theorem State.declare_inputs (s : State) (d : Dir) : (s.declare d).inputs = s.inputs := by
  simp [State.inputs, State.declare]

@[simp] theorem State.testDeclaration_inputs (s : State) : s.testDeclaration.inputs = s.inputs := by
  unfold State.testDeclaration
  (repeat' split) <;> simp

@[simp] theorem State.testReversal_inputs (s : State) : s.testReversal.inputs = s.inputs := by
  unfold State.testReversal
  split <;> simp [State.inputs]

@[simp] theorem State.progress_inputs (s : State) : s.progress.inputs = s.inputs := by
  unfold State.progress
  dsimp only
  split <;> simp [State.inputs]

@[simp] theorem State.afterMove_inputs (s : State) : s.afterMove.inputs = s.inputs := by
  unfold State.afterMove
  split <;> simp

@[simp] theorem State.clampedCarry_inputs (s : State) : s.clampedCarry.inputs = s.inputs := by
  unfold State.clampedCarry
  split <;> rfl

@[simp] theorem State.moveP_inputs (s : State) (p : Nat) : (s.moveP p).inputs = s.inputs :=
  State.clearLimit_inputs _

@[simp] theorem State.addN_inputs (s : State) (up : Bool) : (s.addN up).inputs = s.inputs := by
  unfold State.addN
  split <;> rfl

@[simp] theorem State.carry_inputs (s : State) (up : Bool) : (s.carry up).inputs = s.inputs := by
  unfold State.carry
  dsimp only
  (repeat' split) <;> simp

@[simp] theorem State.carries_inputs (up : Bool) (n : Nat) (s : State) : (State.carries up n s).inputs = s.inputs := by
  induction n generalizing s with
  | zero => rfl
  | succ n ih => exact (ih _).trans (State.carry_inputs _ up)

@[simp] theorem State.drainScore_inputs (s : State) : s.drainScore.inputs = s.inputs := by
  unfold State.drainScore
  dsimp only
  (repeat' split) <;> rfl

@[simp] theorem State.countTach_inputs (s : State) (up : Bool) : (s.countTach up).inputs = s.inputs := by
  unfold State.countTach
  dsimp only
  rw [State.carries_inputs, ← s.drainScore_inputs]
  rfl

@[simp] theorem State.sendPreset_inputs (s : State) (p q : Nat) (delta : Int) :
    (s.sendPreset p q delta).inputs = s.inputs := by
  simp [State.inputs]

@[simp] theorem State.applyPreset_inputs (s : State) (v : Nat) : (s.applyPreset v).inputs = s.inputs := by
  unfold State.applyPreset
  dsimp only
  rw [State.sendPreset_inputs, State.clearLimit_inputs]
  rfl

@[simp] theorem State.pairMoved_inputs (s : State) (a b c d : Bool) : (s.pairMoved a b c d).inputs = s.inputs := by
  unfold State.pairMoved
  dsimp only
  split
  · rfl
  · split
    · rfl
    · split
      · exact s.countTach_inputs _
      · rfl

@[simp] theorem State.markMoved_inputs (s : State) (level : Bool) : (s.markMoved level).inputs = s.inputs := by
  unfold State.markMoved
  split
  · rfl
  · split
    · simp [State.inputs]
    · rename_i a _
      have h := (State.inputs_eq_iff _ _).mp (s.applyPreset_inputs a.value)
      simpa [State.inputs] using h

/-! ## Changes of the pair and of MARK_IN -/

/-- TACH_DEGRADED at a score, raised when its flag is clear. -/
theorem State.raiseDegraded_eq (s : State) (score : Nat) :
    (if 16 ≤ score ∧ s.pos.degraded = false then
      (s.modPos fun u => { u with degraded := true }).raisePosition .tachDegraded (.score score) else s) =
    { s with
      pos := { s.pos with degraded := s.pos.degraded || decide (16 ≤ score) }
      alarm := { s.alarm with reports := s.alarm.reports ++
        (if 16 ≤ score ∧ s.pos.degraded = false then [(.positionUnit, .raise .tachDegraded (.score score))] else []) } } := by
  by_cases h : 16 ≤ score ∧ s.pos.degraded = false
  · simp only [h, if_true, Bool.or_true, decide_true, and_self]
    rfl
  · have flag : (s.pos.degraded || decide (16 ≤ score)) = s.pos.degraded := by
      cases hd : s.pos.degraded <;> simp_all
    simp only [h, if_false, flag, List.append_nil]

/-- TACH_FAULT at a score, raised when its flag is clear. -/
theorem State.raiseFault_eq (s : State) (score : Nat) :
    (if 64 ≤ score ∧ s.pos.fault = false then
      (s.modPos fun u => { u with fault := true }).raisePosition .tachFault (.score score) else s) =
    { s with
      pos := { s.pos with fault := s.pos.fault || decide (64 ≤ score) }
      alarm := { s.alarm with reports := s.alarm.reports ++
        (if 64 ≤ score ∧ s.pos.fault = false then [(.positionUnit, .raise .tachFault (.score score))] else []) } } := by
  by_cases h : 64 ≤ score ∧ s.pos.fault = false
  · simp only [h, if_true, Bool.or_true, decide_true, and_self]
    rfl
  · have flag : (s.pos.fault || decide (64 ≤ score)) = s.pos.fault := by
      cases hf : s.pos.fault <;> simp_all
    simp only [h, if_false, flag, List.append_nil]

/-- An illegal change in the two ways it is written (R4, R5). -/
theorem State.illegalChange_eq (s : State) : s.illegalChange = s.movedIllegally := by
  unfold State.illegalChange
  dsimp only
  rw [State.raiseDegraded_eq, State.raiseFault_eq]
  rfl

/-- Which legal changes a mode counts (R3). -/
theorem CountMode.counts_iff (m : CountMode) (a c : Bool) : m.counts (a != c) c = true ↔
    m = .edge4 ∨ (m = .edge2 ∧ c ≠ a) ∨ (m = .edge1 ∧ a = false ∧ c = true) := by
  cases m <;> revert a c <;> decide

/-- The sense of a legal change by its row of the table (R2). -/
theorem legalSense_eq (a b c d : Bool) (one : ¬ (c = a ∧ d = b)) (notBoth : ¬ (c ≠ a ∧ d ≠ b)) :
    legalSense (a != c) c d = decide ((a, b, c, d) ∈
      [(false, false, true, false), (true, false, true, true), (true, true, false, true), (false, true, false, false)]) := by
  revert a b c d
  decide

/-- A change of the pair in the two ways it is written (R2 to R5). -/
theorem State.pairChange_eq (s : State) (a b c d : Bool) : s.pairChange a b c d = s.pairMoved a b c d := by
  unfold State.pairChange State.pairMoved
  simp only [eq_comm (a := a) (b := c), eq_comm (a := b) (b := d), ne_comm (a := a) (b := c), ne_comm (a := b) (b := d)]
  by_cases same : c = a ∧ d = b
  · simp only [same, and_self, if_true]
  · by_cases both : c ≠ a ∧ d ≠ b
    · simp only [both, if_false, if_true, s.illegalChange_eq, ne_eq, not_false_iff, and_self]
    · simp only [same, both, if_false, CountMode.counts_iff, legalSense_eq a b c d same both]

/-- What an applied preset leaves of the Position Unit but for P, E and the limit flag. -/
theorem State.applyPreset_pos (s : State) (v : Nat) :
    (s.applyPreset v).pos.p = v ∧ (s.applyPreset v).pos.t = s.pos.t ∧ (s.applyPreset v).pos.dir = s.pos.dir := by
  unfold State.applyPreset State.clearLimit
  dsimp only
  split <;> exact ⟨rfl, rfl, rfl⟩

theorem State.markEdge_eq (s : State) : s.markEdge = s.markMoved (decide (s.pos.settings.markEdge = .rising)) := by
  unfold State.markEdge State.markMoved
  by_cases hd : s.device = .unbound
  · simp [hd]
  · simp only [hd, if_false, ne_eq, not_true, or_self]
    cases s.pos.armed with
    | none => rfl
    | some a =>
      obtain ⟨hp, ht, hdir⟩ := s.applyPreset_pos a.value
      simp only [State.markRecord, State.modPos_pos, hp, ht, hdir]

/-- A change of MARK_IN in the two ways it is written (R12, R15). -/
theorem State.markChange_eq (s : State) (level : Bool) : s.markChange level = s.markMoved level := by
  have still : level ≠ decide (s.pos.settings.markEdge = .rising) → s.markMoved level = s := fun h =>
    if_pos (.inr h)
  unfold State.markChange
  rw [State.markEdge_eq]
  cases hm : s.pos.settings.markEdge <;> cases level <;> simp_all

/-! ## Qualification (R1) -/

/-- The lines that are due accepted, with nothing done yet about what they bring. -/
def State.linesAccepted (s : State) : State :=
  let f := s.pos.settings.filterTime
  { s with pos := { s.pos with tachA := s.pos.tachA.acceptDue f, tachB := s.pos.tachB.acceptDue f,
                               markIn := s.pos.markIn.acceptDue f } }

/-- What the tachometer lines of `s` that are due bring, on the state `v` reached so far. -/
def State.pairAccepted (s v : State) : State :=
  let f := s.pos.settings.filterTime
  v.pairMoved s.pos.tachA.qualified s.pos.tachB.qualified (s.pos.tachA.acceptDue f).qualified
    (s.pos.tachB.acceptDue f).qualified

/-- What MARK_IN of `s` brings when it is due, on the state `v` reached so far. -/
def State.edgeAccepted (s v : State) : State :=
  if s.pos.markIn.due s.pos.settings.filterTime then v.markMoved s.pos.markIn.raw else v

@[simp] theorem State.edgeAccepted_inputs (s v : State) : (s.edgeAccepted v).inputs = v.inputs := by
  unfold State.edgeAccepted
  split <;> simp

@[simp] theorem State.pairAccepted_inputs (s v : State) : (s.pairAccepted v).inputs = v.inputs :=
  v.pairMoved_inputs _ _ _ _

theorem InputLine.acceptDue_qualified (x : InputLine) (f : Nat) (h : x.due f = true) : (x.acceptDue f).qualified = x.raw := by
  simp [InputLine.acceptDue, h, InputLine.accept]

/-- Accepting the lines that are due is the change of the pair and the change of MARK_IN that they make, in the order
asked for: neither touches the lines, so each sees them as they were accepted. -/
theorem State.acceptDue_eq (s : State) (markFirst : Bool) : s.acceptDue markFirst =
    if markFirst then s.pairAccepted (s.edgeAccepted s.linesAccepted)
    else s.edgeAccepted (s.pairAccepted s.linesAccepted) := by
  have pair : ∀ v : State, v.inputs = s.linesAccepted.inputs → v.pairChange s.pos.tachA.qualified s.pos.tachB.qualified
      v.pos.tachA.qualified v.pos.tachB.qualified = s.pairAccepted v := by
    intro v h
    obtain ⟨ha, hb, -, -⟩ := (State.inputs_eq_iff _ _).mp h
    rw [State.pairChange_eq, ha, hb]
    rfl
  have edge : ∀ v : State, v.inputs = s.linesAccepted.inputs → (if s.pos.markIn.due s.pos.settings.filterTime then
      v.markChange v.pos.markIn.qualified else v) = s.edgeAccepted v := by
    intro v h
    obtain ⟨-, -, hm, -⟩ := (State.inputs_eq_iff _ _).mp h
    unfold State.edgeAccepted
    split
    · rename_i due
      rw [State.markChange_eq, hm]
      exact congrArg v.markMoved (InputLine.acceptDue_qualified _ _ due)
    · rfl
  unfold State.acceptDue
  dsimp only
  generalize hu : s.modPos _ = u
  obtain rfl : s.linesAccepted = u := hu
  cases markFirst
  · simp only [Bool.false_eq_true, if_false]
    rw [pair _ rfl, edge _ (by simp)]
  · simp only [if_true]
    rw [edge _ rfl, pair _ (by simp)]

theorem InputLine.acceptDue_of_not_due (x : InputLine) (f : Nat) (h : x.due f = false) : x.acceptDue f = x := by
  simp [InputLine.acceptDue, h]

/-- With no line due nothing is accepted. -/
theorem State.acceptDue_of_none_due (s : State) (markFirst : Bool)
    (h : ∀ x ∈ [s.pos.tachA, s.pos.tachB, s.pos.markIn], x.due s.pos.settings.filterTime = false) :
    s.acceptDue markFirst = s := by
  have ha := h s.pos.tachA (by simp)
  have hb := h s.pos.tachB (by simp)
  have hm := h s.pos.markIn (by simp)
  have lines : s.linesAccepted = s := by
    simp [State.linesAccepted, InputLine.acceptDue_of_not_due, ha, hb, hm]
  have pair : s.pairAccepted s = s := by
    simp [State.pairAccepted, InputLine.acceptDue_of_not_due, ha, hb, State.pairMoved]
  have edge : s.edgeAccepted s = s := by simp [State.edgeAccepted, hm]
  cases markFirst <;> simp [State.acceptDue_eq, lines, pair, edge]

theorem InputLine.due_eq_false (x : InputLine) (f : Nat) (h : ∀ n, x.hold = some n → n < f) : x.due f = false := by
  unfold InputLine.due
  split
  · rfl
  · rename_i n hn
    simpa using h n hn

end Sys2Proof.Machine
end

section
/-! PROOFS. The input lines' own rows: RAW_INPUT_CHANGE (O12), HOLD_TIMER_EXPIRY (O13), and the mark edge that an expiry
brings (O17). -/

namespace Sys2Proof.Machine

/-! ## RAW_INPUT_CHANGE -/

/-- The lines with their raw levels taken and nothing accepted. -/
def State.linesSeen (s : State) (a b m : Bool) : State :=
  { s with pos := { s.pos with tachA := s.pos.tachA.see a, tachB := s.pos.tachB.see b, markIn := s.pos.markIn.see m } }

/-- With no line due a change of the raw levels is taken, and what it makes due accepted. -/
theorem exec_rawInputChange (a b m : Bool) (s : State)
    (h : ∀ x ∈ [s.pos.tachA, s.pos.tachB, s.pos.markIn], ∀ n, x.hold = some n → n < s.pos.settings.filterTime) :
    exec (.rawInputChange a b m) s = .next ((s.linesSeen a b m).acceptDue false) := by
  have none_due := s.acceptDue_of_none_due false fun x hx => x.due_eq_false _ (h x hx)
  show execRawInputChange a b m s = _
  unfold execRawInputChange
  rw [none_due]
  rfl

/-- With a filter time above 0 a line that was not due is not due for a new raw level. -/
theorem InputLine.see_hold_lt (x : InputLine) (raw : Bool) (f : Nat) (hf : 0 < f) (h : ∀ n, x.hold = some n → n < f) :
    ∀ n, (x.see raw).hold = some n → n < f := by
  intro n hn
  simp only [InputLine.see] at hn
  split at hn
  · cases hn
  · cases hx : x.hold with
    | none => simp_all
    | some k => simp_all

/-- With a filter time of 0 a line that was at rest is accepted at its raw level at once. -/
theorem InputLine.acceptDue_see (x : InputLine) (raw : Bool) (h : x.hold = none) :
    (x.see raw).acceptDue 0 = ⟨raw, raw, none⟩ := by
  by_cases e : raw = x.qualified <;> simp [InputLine.see, InputLine.acceptDue, InputLine.due, InputLine.accept, h, e]

theorem InputLine.due_see (x : InputLine) (raw : Bool) (h : x.hold = none) :
    (x.see raw).due 0 = decide (raw ≠ x.qualified) := by
  by_cases e : raw = x.qualified <;> simp [InputLine.see, InputLine.due, h, e]

/-- Settles O12: nothing is due before the change; with a filter time above 0 nothing is due behind it either, and with
one of 0 every line that has changed is. -/
theorem rawChangesMoveTimersOrTakeEffect : Obligations.RawChangesMoveTimersOrTakeEffect := by
  refine ⟨fun a b m s => ?_, fun a b m s hf ha hb hm => ?_⟩
  · intro f line hf h
    rw [exec_rawInputChange a b m s h]
    have seen : ∀ x ∈ [s.pos.tachA, s.pos.tachB, s.pos.markIn], ∀ raw, (x.see raw).due f = false := fun x hx raw =>
      InputLine.due_eq_false _ _ (x.see_hold_lt raw f hf (h x hx))
    refine congrArg Host.Outcome.next (State.acceptDue_of_none_due _ _ fun x hx => ?_)
    simp only [State.linesSeen, List.mem_cons, List.not_mem_nil, or_false] at hx
    rcases hx with rfl | rfl | rfl <;> exact seen _ (by simp) _
  · have rest : ∀ x ∈ [s.pos.tachA, s.pos.tachB, s.pos.markIn], ∀ n, x.hold = some n → n < s.pos.settings.filterTime := by
      simp [ha, hb, hm]
    rw [exec_rawInputChange a b m s rest, State.acceptDue_eq]
    have lines : (s.linesSeen a b m).linesAccepted = { s with pos := { s.pos with
        tachA := ⟨a, a, none⟩, tachB := ⟨b, b, none⟩, markIn := ⟨m, m, none⟩ } } := by
      simp [State.linesAccepted, State.linesSeen, hf, InputLine.acceptDue_see, ha, hb, hm]
    have pair : ∀ v, (s.linesSeen a b m).pairAccepted v = v.pairMoved s.pos.tachA.qualified s.pos.tachB.qualified a b := by
      intro v
      simp only [State.pairAccepted, State.linesSeen, hf, InputLine.acceptDue_see, ha, hb]
      rfl
    have edge : ∀ v, (s.linesSeen a b m).edgeAccepted v = if m = s.pos.markIn.qualified then v else v.markMoved m := by
      intro v
      simp only [State.edgeAccepted, State.linesSeen, hf, InputLine.due_see, hm]
      by_cases e : m = s.pos.markIn.qualified <;> simp [e, InputLine.see]
    simp only [Bool.false_eq_true, if_false, lines, pair, edge]

/-! ## HOLD_TIMER_EXPIRY -/

theorem leastOf_eq_some (xs : List (Option Nat)) (d : Nat) (hd : some d ∈ xs) (h : ∀ n, some n ∈ xs → d ≤ n) :
    leastOf xs = some d := by
  simp only [leastOf, List.min?_eq_some_iff, List.mem_filterMap, id]
  exact ⟨⟨_, hd, rfl⟩, fun n ⟨x, hx, e⟩ => h n (e ▸ hx)⟩

/-- The hold timer of a line after `d` more has passed has reached the filter time. -/
def InputLine.dueIn (x : InputLine) (f d : Nat) : Bool := x.hold.any fun n => decide (f ≤ n + d)

theorem InputLine.due_elapse (x : InputLine) (f d : Nat) : (x.elapse d).due f = x.dueIn f d := by
  cases h : x.hold <;> simp [InputLine.elapse, InputLine.due, InputLine.dueIn, h]

theorem InputLine.acceptDue_elapse (x : InputLine) (f d : Nat) : (x.elapse d).acceptDue f =
    if x.dueIn f d then ⟨x.raw, x.raw, none⟩ else { x with hold := x.hold.map (· + d) } := by
  rw [InputLine.acceptDue, InputLine.due_elapse]
  rfl

/-- The time to the next expiry, where one runs. -/
theorem PositionUnit.nextExpiry_eq (u : PositionUnit) (d : Nat)
    (hd : ∃ x ∈ [u.tachA, u.tachB, u.markIn], ∃ n, x.hold = some n ∧ u.settings.filterTime - n = d)
    (h : ∀ x ∈ [u.tachA, u.tachB, u.markIn], ∀ n, x.hold = some n → d ≤ u.settings.filterTime - n) :
    u.nextExpiry = some d := by
  have mem : ∀ n, some n ∈ [u.tachA.remaining u.settings.filterTime, u.tachB.remaining u.settings.filterTime,
      u.markIn.remaining u.settings.filterTime] ↔
      ∃ x ∈ [u.tachA, u.tachB, u.markIn], ∃ k, x.hold = some k ∧ u.settings.filterTime - k = n := by
    intro n
    simp [InputLine.remaining, eq_comm (a := some n)]
  refine leastOf_eq_some _ d ((mem d).mpr hd) fun n hn => ?_
  obtain ⟨x, hx, k, hk, rfl⟩ := (mem n).mp hn
  exact h x hx k hk

/-- An expiry moves the timers on to the least time left and accepts the lines due. -/
theorem exec_holdTimerExpiry (markFirst : Bool) (d : Nat) (s : State)
    (hd : ∃ x ∈ [s.pos.tachA, s.pos.tachB, s.pos.markIn], ∃ n, x.hold = some n ∧ s.pos.settings.filterTime - n = d)
    (h : ∀ x ∈ [s.pos.tachA, s.pos.tachB, s.pos.markIn], ∀ n, x.hold = some n → d ≤ s.pos.settings.filterTime - n) :
    exec (.holdTimerExpiry markFirst) s = .next (({ s with pos := s.pos.elapse d } : State).acceptDue markFirst) := by
  show execHoldTimerExpiry markFirst s = _
  unfold execHoldTimerExpiry
  rw [s.pos.nextExpiry_eq d hd h]
  rfl

/-- With no timer running an expiry has no cause. -/
theorem exec_holdTimerExpiry_none (markFirst : Bool) (s : State) (ha : s.pos.tachA.hold = none)
    (hb : s.pos.tachB.hold = none) (hm : s.pos.markIn.hold = none) : exec (.holdTimerExpiry markFirst) s = .next s := by
  have h : s.pos.nextExpiry = none := by
    simp [PositionUnit.nextExpiry, InputLine.remaining, leastOf, ha, hb, hm]
  show execHoldTimerExpiry markFirst s = _
  unfold execHoldTimerExpiry
  rw [h]

/-- A line at rest stays as it is while time passes. -/
theorem InputLine.acceptDue_elapse_rest (x : InputLine) (f d : Nat) (h : x.hold = none) : (x.elapse d).acceptDue f = x := by
  rw [InputLine.acceptDue_elapse]
  cases x
  simp_all [InputLine.dueIn]

theorem InputLine.due_elapse_rest (x : InputLine) (f d : Nat) (h : x.hold = none) : (x.elapse d).due f = false := by
  simp [InputLine.due_elapse, InputLine.dueIn, h]

/-- A line whose time left has passed is accepted. -/
theorem InputLine.due_elapse_left (x : InputLine) (f n : Nat) (h : x.hold = some n) : (x.elapse (f - n)).due f = true := by
  simp [InputLine.due_elapse, InputLine.dueIn, h]
  omega

theorem InputLine.acceptDue_elapse_left (x : InputLine) (f n : Nat) (h : x.hold = some n) :
    (x.elapse (f - n)).acceptDue f = ⟨x.raw, x.raw, none⟩ := by
  have k := x.due_elapse_left f n h
  rw [InputLine.due_elapse] at k
  rw [InputLine.acceptDue_elapse, if_pos k]

/-- One tachometer line alone moves, TACH_A. -/
theorem State.pairMoved_tachA (s : State) (a b c : Bool) (h : c ≠ a) : s.pairMoved a b c b =
    if s.pos.settings.mode = .edge4 ∨ s.pos.settings.mode = .edge2 ∨ (s.pos.settings.mode = .edge1 ∧ c = true) then
      s.countTach (c != b) else s := by
  obtain rfl : c = !a := Bool.eq_not.mpr h
  unfold State.pairMoved
  cases s.pos.settings.mode <;> cases a <;> cases b <;> rfl

/-- One tachometer line alone moves, TACH_B. -/
theorem State.pairMoved_tachB (s : State) (a b c : Bool) (h : c ≠ b) : s.pairMoved a b a c =
    if s.pos.settings.mode = .edge4 then s.countTach (c == a) else s := by
  obtain rfl : c = !b := Bool.eq_not.mpr h
  unfold State.pairMoved
  cases s.pos.settings.mode <;> cases a <;> cases b <;> rfl

@[simp] theorem State.pairMoved_same (s : State) (a b : Bool) : s.pairMoved a b a b = s := by
  simp [State.pairMoved]

/-- With MARK_IN not due only the pair changes. -/
theorem State.acceptDue_of_mark_rest (s : State) (markFirst : Bool) (h : s.pos.markIn.due s.pos.settings.filterTime = false) :
    s.acceptDue markFirst = s.pairAccepted s.linesAccepted := by
  have edge : ∀ v, s.edgeAccepted v = v := fun v => by simp [State.edgeAccepted, h]
  simp [State.acceptDue_eq, edge]

/-- With neither tachometer line due only MARK_IN changes. -/
theorem State.acceptDue_of_tach_rest (s : State) (markFirst : Bool) (ha : s.pos.tachA.due s.pos.settings.filterTime = false)
    (hb : s.pos.tachB.due s.pos.settings.filterTime = false) : s.acceptDue markFirst = s.edgeAccepted s.linesAccepted := by
  have pair : ∀ v, s.pairAccepted v = v := fun v => by simp [State.pairAccepted, InputLine.acceptDue_of_not_due, ha, hb]
  simp [State.acceptDue_eq, pair]

/-- Where one timer alone runs, the expiry is its own. -/
theorem exec_holdTimerExpiry_alone (markFirst : Bool) (n : Nat) (s : State) (x : InputLine)
    (hx : x ∈ [s.pos.tachA, s.pos.tachB, s.pos.markIn]) (hn : x.hold = some n)
    (h : ∀ y ∈ [s.pos.tachA, s.pos.tachB, s.pos.markIn], ∀ k, y.hold = some k → k = n) :
    exec (.holdTimerExpiry markFirst) s =
      .next (({ s with pos := s.pos.elapse (s.pos.settings.filterTime - n) } : State).acceptDue markFirst) :=
  exec_holdTimerExpiry markFirst _ s ⟨x, hx, n, hn, rfl⟩ fun y hy k hk => by rw [h y hy k hk]

/-- Settles O13. -/
theorem holdExpiryAcceptsTheLinesDue : Obligations.HoldExpiryAcceptsTheLinesDue := by
  refine ⟨fun markFirst d s => ?_, fun markFirst s => exec_holdTimerExpiry_none markFirst s, fun markFirst n s hm => ?_⟩
  · intro f lines due line hd h u pair edge
    rw [exec_holdTimerExpiry markFirst d s hd h, State.acceptDue_eq]
    have hline : ∀ x : InputLine, (x.elapse d).acceptDue f = line x := fun x => x.acceptDue_elapse f d
    have hlines : ({ s with pos := s.pos.elapse d } : State).linesAccepted = u := by
      simp only [State.linesAccepted, PositionUnit.elapse]
      rw [hline, hline, hline]
    have hpair : ∀ v, ({ s with pos := s.pos.elapse d } : State).pairAccepted v = pair v := by
      intro v
      simp only [State.pairAccepted, PositionUnit.elapse]
      rw [hline, hline]
      rfl
    have hedge : ∀ v, ({ s with pos := s.pos.elapse d } : State).edgeAccepted v = edge v := by
      intro v
      simp only [State.edgeAccepted, PositionUnit.elapse, InputLine.due_elapse]
      rfl
    simp only [hlines, hpair, hedge]
  · intro mode x y
    refine ⟨fun hx hy hne => ?_, fun hy hx hne => ?_⟩
    · rw [exec_holdTimerExpiry_alone markFirst n s x (by simp [x]) hx (by simp_all [x, y]),
        State.acceptDue_of_mark_rest _ _ (InputLine.due_elapse_rest _ _ _ hm)]
      simp only [State.linesAccepted, State.pairAccepted, PositionUnit.elapse, s.pos.tachA.acceptDue_elapse_left _ n hx,
        s.pos.tachB.acceptDue_elapse_rest _ _ hy, InputLine.acceptDue_elapse_rest _ _ _ hm]
      exact congrArg Host.Outcome.next (State.pairMoved_tachA _ _ _ _ hne)
    · rw [exec_holdTimerExpiry_alone markFirst n s y (by simp [y]) hy (by simp_all [x, y]),
        State.acceptDue_of_mark_rest _ _ (InputLine.due_elapse_rest _ _ _ hm)]
      simp only [State.linesAccepted, State.pairAccepted, PositionUnit.elapse, s.pos.tachB.acceptDue_elapse_left _ n hy,
        s.pos.tachA.acceptDue_elapse_rest _ _ hx, InputLine.acceptDue_elapse_rest _ _ _ hm]
      exact congrArg Host.Outcome.next (State.pairMoved_tachB _ _ _ _ hne)

/-- Settles O17: the pair at rest, the expiry brings the change of MARK_IN alone. -/
theorem markEdgeRecordsAndAppliesThePreset : Obligations.MarkEdgeRecordsAndAppliesThePreset := by
  intro markFirst n s hd ha hb hm hraw u
  have h : exec (.holdTimerExpiry markFirst) s = .next (u.markMoved s.pos.markIn.raw) := by
    rw [exec_holdTimerExpiry_alone markFirst n s s.pos.markIn (by simp) hm (by simp_all),
      State.acceptDue_of_tach_rest _ _ (InputLine.due_elapse_rest _ _ _ ha) (InputLine.due_elapse_rest _ _ _ hb)]
    simp only [State.linesAccepted, State.edgeAccepted, PositionUnit.elapse, InputLine.acceptDue_elapse_left _ _ n hm,
      InputLine.due_elapse_left _ _ n hm, InputLine.acceptDue_elapse_rest _ _ _ ha,
      InputLine.acceptDue_elapse_rest _ _ _ hb]
    rfl
  have edge : ¬ (u.device = .unbound ∨ s.pos.markIn.raw ≠ decide (u.pos.settings.markEdge = .rising)) :=
    not_or.mpr ⟨hd, not_not.mpr hraw⟩
  rw [h, State.markMoved, if_neg edge]
  refine ⟨fun harm => ?_, fun a harm => ?_⟩
  · have k : u.pos.armed = none := harm
    rw [k]
  · have k : u.pos.armed = some a := harm
    rw [k]

end Sys2Proof.Machine
end

section
/-! PROOFS. Counts and carries: a count drains the score and makes its carries one by one (O14), and what one carry does
(O15). -/

namespace Sys2Proof.Machine

/-! ## Counts (R4 to R6) -/

/-- The number of carries is the one that brings the remainder into its range. -/
theorem carryCount_eq (rem : Int) (up : Bool) (k : Nat) (h0 : 0 ≤ if up then rem - 256000 * k else rem + 256000 * k)
    (h1 : (if up then rem - 256000 * k else rem + 256000 * k) < 256000) : carryCount rem up = k := by
  have e : rem.fdiv Config.unitsPerMm = rem / 256000 := Int.fdiv_eq_ediv_of_nonneg _ (by decide)
  unfold carryCount
  rw [e]
  cases up <;> simp only [Bool.false_eq_true, if_false, if_true] at * <;> omega

/-- A number of carries, each behind its millimetre. -/
theorem State.carries_eq_iterate (up : Bool) (k : Nat) (s : State) : State.carries up k s = (fun v : State => State.carry
    { v with pos := { v.pos with rem := if up then v.pos.rem - 256000 else v.pos.rem + 256000 } } up)^[k] s := by
  induction k generalizing s with
  | zero => rfl
  | succ k ih => exact ih _

/-- Settles O14: the score is drained first, and then the carries are as many as bring the remainder into its range. -/
theorem countMovesTheRemainderAndCarriesOneByOne : Obligations.CountMovesTheRemainderAndCarriesOneByOne := by
  intro up s rem drained u₀ u₁ u reduced one
  have drain : (s.drainScore.modPos fun x =>
      { x with rem := if up then x.rem + x.settings.q else x.rem - x.settings.q }) = u := by
    unfold State.drainScore
    by_cases hs : s.pos.score ≤ 1
    · have h : (s.modPos fun x => { x with score := x.score - 1 }).pos.score = 0 := Nat.sub_eq_zero_of_le hs
      rw [if_pos h]
      cases hd : s.pos.degraded <;> cases hf : s.pos.fault <;>
        simp only [u, u₁, u₀, drained, hs, hd, hf, State.modPos_pos, decide_true, Bool.not_true, Bool.and_false,
          Bool.and_true, Bool.false_eq_true, if_false, if_true] <;> rfl
    · have h : (s.modPos fun x => { x with score := x.score - 1 }).pos.score ≠ 0 := Nat.sub_ne_zero_of_lt (not_le.mp hs)
      rw [if_neg h]
      simp only [u, u₁, u₀, drained, hs, Bool.false_and, decide_false, Bool.not_false, Bool.and_true]
      rfl
  have count : s.countTach up = State.carries up (carryCount rem up) u := by
    unfold State.countTach
    dsimp only
    rw [drain]
    have hrem : u.pos.rem = rem := by
      simp only [u, u₁]
      (repeat' split) <;> rfl
    rw [hrem]
  refine ⟨fun lo hi => ?_, fun k lo hi => ?_⟩
  · rw [count, carryCount_eq rem up 0 (by simpa using lo) (by simpa using hi)]
    rfl
  · rw [count, carryCount_eq rem up k lo hi, State.carries_eq_iterate]

/-! ## Notices (R11) -/

/-- One update of each rail's blocks. -/
def State.eachRail (s : State) (f : RailBlocks → RailBlocks) : State := { s with rails := ⟨f s.rails.a, f s.rails.b⟩ }

theorem State.eachRail_eachRail (s : State) (f g : RailBlocks → RailBlocks) :
    (s.eachRail f).eachRail g = s.eachRail fun b => g (f b) := rfl

theorem State.noticeSequencers_eq (s : State) (x : SeqNotice) : s.noticeSequencers x =
    s.eachRail fun b => { b with seq := { b.seq with notices := b.seq.notices ++ [x] } } := rfl

theorem State.noticeTrackers_eq (s : State) (x : PosNotice) : s.noticeTrackers x =
    s.eachRail fun b => { b with trk := { b.trk with notices := b.trk.notices ++ [x] } } := rfl

theorem State.noticeAssemblers_eq (s : State) (x : PosNotice) : s.noticeAssemblers x =
    s.eachRail fun b => { b with asm := { b.asm with notices := b.asm.notices ++ [x] } } := rfl

theorem State.noticeMarkers_eq (s : State) (x : PosNotice) : s.noticeMarkers x =
    s.eachRail fun b => { b with mrk := { b.mrk with notices := b.mrk.notices ++ [x] } } := rfl

/-! ## Carries (R7 to R11) -/

/-- P stands at the limit of its range in the sense of a carry. -/
def PositionUnit.atLimit (u : PositionUnit) (up : Bool) : Bool := decide (u.p = if up then 4294967295 else 0)

theorem PositionUnit.atLimit_eq (u : PositionUnit) (up : Bool) :
    u.atLimit up = if up then u.p == Config.maxU32 else u.p == 0 := by
  cases up <;> rfl

/-- Where a carry takes P. -/
def PositionUnit.carriedTo (u : PositionUnit) (up : Bool) : Nat :=
  if u.atLimit up then u.p else if up then u.p + 1 else u.p - 1

/-- The limit flag is set and the carry takes P off both limits. -/
def PositionUnit.leavesLimit (u : PositionUnit) (up : Bool) : Bool :=
  decide (u.limit = true ∧ u.carriedTo up ≠ 0 ∧ u.carriedTo up ≠ 4294967295)

theorem PositionUnit.leavesLimit_iff (u : PositionUnit) (up : Bool) :
    u.leavesLimit up = true ↔ u.limit = true ∧ offLimit (u.carriedTo up) = true := by
  simp [PositionUnit.leavesLimit, offLimit, Config.maxU32]

/-- The unit with P carried and the limit flag as that leaves it. -/
def PositionUnit.carried (u : PositionUnit) (up : Bool) : PositionUnit :=
  { u with p := u.carriedTo up, limit := if u.atLimit up then true else u.limit && !u.leavesLimit up }

/-- A carry of P with what it emits, and `f` done to the unit with it. -/
def State.carriedWith (s : State) (up : Bool) (f : PositionUnit → PositionUnit) : State :=
  let v := { s with pos := f (s.pos.carried up) }
  if s.pos.atLimit up then
    if s.pos.limit then v else v.raiseReport .positionUnit .positionLimit (.position (s.pos.carriedTo up))
  else
    let v := v.noticeMarkers (.positionChange (s.pos.carriedTo up))
    if s.pos.leavesLimit up then v.report .positionUnit (.condEnd .positionLimit none) else v

/-- What a carry does to P: it stays at a limit, or moves by one. -/
def State.carryP (s : State) (up : Bool) : State :=
  if s.pos.atLimit up then s.clampedCarry else s.moveP (if up then s.pos.p + 1 else s.pos.p - 1)

/-- A carry under a declared direction. -/
theorem State.carry_declared (s : State) (up : Bool) (h : s.pos.dir ≠ .unknown) :
    s.carry up = if s.pos.atLimit up then s.carryP up else (s.carryP up).afterMove := by
  have hn : s.addN up = s := if_neg h
  simp [State.carry, hn, h, State.carryP, PositionUnit.atLimit_eq]

theorem State.modPos_congr (s : State) (f g : PositionUnit → PositionUnit) (h : f s.pos = g s.pos) :
    s.modPos f = s.modPos g := by
  rw [State.modPos, h]
  rfl

theorem State.clearLimit_left (s : State) (h : s.pos.limit = true ∧ offLimit s.pos.p = true) :
    s.clearLimit = (s.modPos fun u => { u with limit := false }).endPosition .positionLimit := if_pos h

theorem State.clearLimit_kept (s : State) (h : ¬ (s.pos.limit = true ∧ offLimit s.pos.p = true)) : s.clearLimit = s :=
  if_neg h

theorem State.clampedCarry_again (s : State) (h : s.pos.limit = true) : s.clampedCarry = s := if_pos h

theorem State.clampedCarry_first (s : State) (h : ¬ s.pos.limit = true) : s.clampedCarry =
    (s.modPos fun u => { u with limit := true }).raisePosition .positionLimit (.position s.pos.p) := if_neg h

theorem State.carryP_atLimit (s : State) (up : Bool) (h : s.pos.atLimit up = true) : s.carryP up = s.clampedCarry :=
  if_pos h

theorem State.carryP_free (s : State) (up : Bool) (h : s.pos.atLimit up = false) :
    s.carryP up = s.moveP (if up then s.pos.p + 1 else s.pos.p - 1) := if_neg (ne_true_of_eq_false h)

/-- N replaced. -/
def PositionUnit.withN (n : Int) (u : PositionUnit) : PositionUnit := { u with n := n }

@[simp] theorem PositionUnit.withN_p (n : Int) (u : PositionUnit) : (u.withN n).p = u.p := rfl

theorem State.clearLimit_withN (s : State) (n : Int) :
    (s.modPos (.withN n)).clearLimit = s.clearLimit.modPos (.withN n) := by
  by_cases h : s.pos.limit = true ∧ offLimit s.pos.p = true
  · rw [s.clearLimit_left h, (s.modPos (.withN n)).clearLimit_left h]
    rfl
  · rw [s.clearLimit_kept h, (s.modPos (.withN n)).clearLimit_kept h]

/-- N takes no part in what a carry does to P. -/
theorem State.carryP_withN (s : State) (up : Bool) (n : Int) :
    (s.modPos (.withN n)).carryP up = (s.carryP up).modPos (.withN n) := by
  cases h : s.pos.atLimit up
  · rw [s.carryP_free up h, (s.modPos (.withN n)).carryP_free up h]
    exact State.clearLimit_withN ((s.modPos fun u => { u with p := if up then s.pos.p + 1 else s.pos.p - 1 }).noticeMarkers
      (.positionChange _)) n
  · rw [s.carryP_atLimit up h, (s.modPos (.withN n)).carryP_atLimit up h]
    by_cases hl : s.pos.limit = true
    · rw [s.clampedCarry_again hl, (s.modPos (.withN n)).clampedCarry_again hl]
    · rw [s.clampedCarry_first hl, (s.modPos (.withN n)).clampedCarry_first hl]
      rfl

/-- A carry under an unknown direction moves N. -/
theorem State.carry_unknown (s : State) (up : Bool) (h : s.pos.dir = .unknown) :
    s.carry up = ((s.carryP up).modPos (.withN (if up then s.pos.n + 1 else s.pos.n - 1))).testDeclaration := by
  have hn : s.addN up = s.modPos (.withN (if up then s.pos.n + 1 else s.pos.n - 1)) := if_pos h
  rw [← State.carryP_withN, ← hn]
  simp [State.carry, hn, h, State.carryP, PositionUnit.atLimit_eq]

/-- The part of a carry on P and what goes with it: whatever is emitted commutes with changes of the unit. -/
theorem State.carriedWith_eq (s : State) (up : Bool) (f : PositionUnit → PositionUnit) :
    s.carriedWith up f = (s.carryP up).modPos f := by
  cases hs : s.pos.atLimit up
  · have hp : s.pos.carriedTo up = if up then s.pos.p + 1 else s.pos.p - 1 := by simp [PositionUnit.carriedTo, hs]
    rw [s.carryP_free up hs, ← hp, State.moveP]
    by_cases hl : s.pos.leavesLimit up = true
    · have h := (s.pos.leavesLimit_iff up).mp hl
      rw [State.clearLimit_left _ h]
      simp only [State.carriedWith, PositionUnit.carried, hs, hl, h.1]
      rfl
    · have h := mt (s.pos.leavesLimit_iff up).mpr hl
      rw [State.clearLimit_kept _ h]
      simp only [State.carriedWith, PositionUnit.carried, hs, hl, Bool.not_false, Bool.and_true]
      rfl
  · have hp : s.pos.carriedTo up = s.pos.p := by simp [PositionUnit.carriedTo, hs]
    rw [s.carryP_atLimit up hs]
    by_cases hl : s.pos.limit = true
    · have hu : s.pos.carried up = s.pos := by
        simp only [PositionUnit.carried, hs, hp, if_true]
        rw [← hl]
      rw [State.clampedCarry_again _ hl]
      simp only [State.carriedWith, hs, hl, hu]
      rfl
    · rw [State.clampedCarry_first _ hl]
      simp only [State.carriedWith, PositionUnit.carried, hs, hl, hp]
      rfl

theorem State.carryP_pos (s : State) (up : Bool) : (s.carryP up).pos = s.pos.carried up := by
  have h := congrArg State.pos (s.carriedWith_eq up id)
  refine Eq.trans h.symm ?_
  unfold State.carriedWith
  (repeat' split) <;> rfl

/-! The four things that can follow a move of P (R9, R10). -/

theorem State.afterMove_progress (s : State) (h : s.pos.beyondE = true) (hn : s.pos.t < Config.maxU32) :
    s.afterMove = (s.modPos fun u => { u with e := u.p, t := u.t + 1 }).sendProgress (s.pos.t + 1) s.pos.p :=
  (if_pos h).trans (if_pos hn)

theorem State.afterMove_saturated (s : State) (h : s.pos.beyondE = true) (hn : Config.maxU32 ≤ s.pos.t) :
    s.afterMove = s.modPos fun u => { u with e := u.p } :=
  (if_pos h).trans (if_neg (not_lt.mpr hn))

theorem State.afterMove_still (s : State) (h : s.pos.beyondE = false) (ha : s.pos.against < s.pos.settings.rv) :
    s.afterMove = s :=
  (if_neg (ne_true_of_eq_false h)).trans (if_neg fun k => absurd k.2 (not_le.mpr ha))

theorem State.afterMove_reversal (s : State) (h : s.pos.beyondE = false) (hd : s.pos.dir ≠ .unknown)
    (ha : (s.pos.settings.rv : Int) ≤ s.pos.against) :
    s.afterMove =
      (s.modPos fun u => { u with dir := s.pos.dir.flip, e := u.p }).sendReversal s.pos.dir.flip s.pos.p s.pos.t :=
  (if_neg (ne_true_of_eq_false h)).trans (if_pos ⟨hd, ha⟩)

/-- The distance of P from E along a declared direction. -/
def PositionUnit.ahead (u : PositionUnit) : Int := if u.dir = .increasing then (u.p : Int) - u.e else (u.e : Int) - u.p

theorem PositionUnit.beyondE_eq (u : PositionUnit) (h : u.dir ≠ .unknown) : u.beyondE = decide (0 < u.ahead) := by
  unfold PositionUnit.beyondE PositionUnit.ahead
  cases hd : u.dir with
  | unknown => exact absurd hd h
  | increasing => simp
  | decreasing => simp

theorem PositionUnit.against_eq (u : PositionUnit) (h : u.dir ≠ .unknown) : u.against = -u.ahead := by
  unfold PositionUnit.against PositionUnit.ahead
  cases hd : u.dir with
  | unknown => exact absurd hd h
  | increasing => simp
  | decreasing => simp

/-- Settles O15: a carry is its part on P, `carryP`, with the test of N or of the distance from E behind it. -/
theorem carriesMoveTheUnitOrMeetALimit : Obligations.CarriesMoveTheUnitOrMeetALimit := by
  refine ⟨fun up s => ?_, fun s d p q n delta => ⟨?_, ?_, ?_, ?_, ?_⟩⟩
  · intro rv stuck p left unit moved
    have hmoved : ∀ f, moved f = (s.carryP up).modPos f := s.carriedWith_eq up
    have hpos : (s.carryP up).pos = unit := s.carryP_pos up
    have hstuck : stuck = s.pos.atLimit up := rfl
    clear_value moved
    refine ⟨fun hd => ?_, fun hd hs => ?_, fun hd hs => ?_⟩
    · intro m declared
      rw [State.carry_unknown s up hd]
      generalize s.carryP up = v at hmoved hpos
      have hdecl : ∀ d, (v.modPos (.withN m)).declare d = declared d := by
        intro d
        simp only [declared, hmoved, State.declare, State.modPos_pos, hpos]
        refine congrArg (State.noticeMarkers · _) (v.modPos_congr (fun u => { u with n := m, dir := d, e := u.p }) _ ?_)
        rw [hpos]
      unfold State.testDeclaration
      rw [State.modPos_pos, hpos, hdecl, hdecl, hmoved]
      refine ⟨fun h => if_pos h, fun h1 h2 => ?_, fun h1 h2 => ?_⟩
      · exact (if_neg (not_le.mpr h1)).trans (if_pos h2)
      · exact (if_neg (not_le.mpr h1)).trans (if_neg (not_le.mpr h2))
    · rw [State.carry_declared s up hd, ← hstuck, hs, if_pos rfl, hmoved]
      rfl
    · intro beyond
      have hc : s.carry up = (s.carryP up).afterMove := by
        rw [State.carry_declared s up hd, ← hstuck, hs, if_neg Bool.false_ne_true]
      rw [hc]
      generalize s.carryP up = v at hmoved hpos
      have hdv : v.pos.dir ≠ .unknown := by rw [hpos]; exact hd
      have hahead : v.pos.ahead = beyond := by rw [hpos]; rfl
      have hb := hahead ▸ v.pos.beyondE_eq hdv
      have ha := hahead ▸ v.pos.against_eq hdv
      have still : beyond ≤ 0 → v.pos.beyondE = false := fun h => hb.trans (decide_eq_false (not_lt.mpr h))
      have same : ∀ f g : PositionUnit → PositionUnit, f unit = g unit → v.modPos f = v.modPos g :=
        fun f g h => v.modPos_congr f g (by rw [hpos]; exact h)
      rw [hmoved, hmoved, hmoved, hmoved]
      refine ⟨fun h0 h1 => ?_, fun h0 h1 => ?_, fun h0 h1 => ?_, fun h0 h1 => ?_⟩
      · rw [v.afterMove_progress (hb.trans (decide_eq_true h0)) (hpos ▸ h1), hpos]
        exact congrArg (State.sendProgress · _ _) (same _ _ rfl)
      · rw [v.afterMove_saturated (hb.trans (decide_eq_true h0)) (hpos ▸ h1)]
        exact same _ _ rfl
      · rw [v.afterMove_still (still h0) (by rw [ha, hpos]; exact h1)]
        rfl
      · rw [v.afterMove_reversal (still h0) hdv (by rw [ha, hpos]; exact h1), hpos]
        exact congrArg (State.sendReversal · _ _ _) (same _ _ rfl)
  · simp only [State.sendProgress, State.noticeSequencers_eq, State.noticeTrackers_eq, State.noticeAssemblers_eq,
      State.eachRail_eachRail]
    rfl
  · simp only [State.sendReversal, State.noticeSequencers_eq, State.noticeTrackers_eq, State.noticeMarkers_eq,
      State.eachRail_eachRail]
    rfl
  · simp only [State.sendPreset, State.noticeTrackers_eq, State.noticeMarkers_eq, State.eachRail_eachRail]
    rfl
  · rw [State.noticeMarkers_eq]
    rfl
  · rw [State.noticeMarkers_eq]
    rfl

end Sys2Proof.Machine
end

section
/-! PROOFS. SET_POSITION (O16). -/

namespace Sys2Proof.Machine

/-! ## What an applied preset leaves of the Request Handler and the operating state -/

theorem State.clearLimit_req (s : State) : s.clearLimit.req = s.req := by
  unfold State.clearLimit
  split <;> rfl

@[simp] theorem State.sendPreset_req (s : State) (p q : Nat) (delta : Int) : (s.sendPreset p q delta).req = s.req := by
  simp only [State.sendPreset, State.noticeTrackers_eq, State.noticeMarkers_eq, State.eachRail]

@[simp] theorem State.applyPreset_req (s : State) (v : Nat) : (s.applyPreset v).req = s.req := by
  unfold State.applyPreset
  dsimp only
  rw [State.sendPreset_req, State.clearLimit_req, State.modPos_req]

/-- A preset is no change of the operating state. -/
@[simp] theorem State.applyPreset_device (s : State) (v : Nat) : (s.applyPreset v).device = s.device := by
  unfold State.applyPreset
  dsimp only
  rw [← State.view_device, State.sendPreset_view, (State.clearLimit_moves _).1.1]
  rfl

/-- P, E and the limit flag as a preset leaves them, and the end of POSITION_LIMIT where it leaves a limit (R14). -/
theorem State.applyPreset_eq (s : State) (v : Nat) :
    s.applyPreset v =
      (let w : State := { s with pos :=
        { s.pos with p := v, e := clampPos ((s.pos.e : Int) + ((v : Int) - s.pos.p)),
                     limit := s.pos.limit && (v == 0 || v == Config.maxU32) } }
       if s.pos.limit && (v != 0 && v != Config.maxU32) then w.report .positionUnit (.condEnd .positionLimit none)
       else w).sendPreset s.pos.p v ((v : Int) - s.pos.p) := by
  unfold State.applyPreset
  dsimp only
  refine congrArg (State.sendPreset · _ _ _) ?_
  by_cases h : s.pos.limit = true ∧ offLimit v = true
  · have off : (v != 0 && v != Config.maxU32) = true := h.2
    have on : (v == 0 || v == Config.maxU32) = false := by simpa using off
    rw [State.clearLimit_left _ h]
    simp only [h.1, off, on]
    rfl
  · rw [State.clearLimit_kept _ h]
    have off : (s.pos.limit && (v != 0 && v != Config.maxU32)) = false := by simpa [offLimit] using h
    have on : (s.pos.limit && (v == 0 || v == Config.maxU32)) = s.pos.limit := by
      cases hl : s.pos.limit
      · rfl
      · simp only [hl, Bool.true_and] at off ⊢
        simpa [or_iff_not_imp_left] using off
    simp only [off, on]
    rfl

/-- Settles O16: each row is its owner's effect with the scan closed behind it. -/
theorem setPositionAppliesOrArmsAPreset : Obligations.SetPositionAppliesOrArmsAPreset := by
  intro q rest s hs hd hk u v form
  have now : form ≠ 1 → ∀ w : State, u.setPositionNow q = w → w.req.scan = rest → w.device.scans = true →
      exec .setPositionNow s = .next (closeScan rest w) := fun hf w hw h1 h2 =>
    congrArg Host.Outcome.next (s.takeRequest_eq q rest _ _ hs (by simpa [hk] using hf) w hw h1 h2)
  have atMark : form = 1 → ∀ w : State, u.setPositionAtMark q = w → w.req.scan = rest → w.device.scans = true →
      exec .setPositionAtMark s = .next (closeScan rest w) := fun hf w hw h1 h2 =>
    congrArg Host.Outcome.next (s.takeRequest_eq q rest _ _ hs (by simpa [hk] using hf) w hw h1 h2)
  refine ⟨fun hf ha => ?_, fun hf ha => ?_, fun hf ha => ?_, fun hf ha => ?_, fun hf => ?_⟩
  · have free : u.pos.armed.isSome = false := by rw [show u.pos.armed = none from ha]; rfl
    intro w₀ w
    have applied : w.sendPreset u.pos.p v ((v : Int) - u.pos.p) = u.applyPreset v := (u.applyPreset_eq v).symm
    have hw : u.setPositionNow q = (u.applyPreset v).done q [] :=
      (if_neg (not_not.mpr hf)).trans (if_neg (by simp [free]))
    rw [applied]
    exact now (by omega) _ hw (by simp [u]) (by simpa [u] using hd)
  · have free : u.pos.armed.isSome = false := by rw [show u.pos.armed = none from ha]; rfl
    exact atMark hf _ (if_neg (by simp [free])) (by simp [u]) (by simpa [u] using hd)
  · have held : u.pos.armed.isSome = true := ha
    exact now (by omega) _ ((if_neg (not_not.mpr hf)).trans (if_pos held)) (by simp [u]) (by simpa [u] using hd)
  · exact atMark hf _ (if_pos ha) (by simp [u]) (by simpa [u] using hd)
  · have other : byteAt q.params 0 ≠ 0 := by omega
    exact now (by omega) _ (if_pos other) (by simp [u]) (by simpa [u] using hd)

end Sys2Proof.Machine
end

section
/-! PROOFS. The registers and BIND (O60): what the registers read as, what writes of them do, the fields of the Context
Block, and the end of a BIND. -/

namespace Sys2Proof.Machine

/-! ## Reading the registers (R160, R181) -/

/-- The bits of four Booleans. -/
theorem testBit_bitsOf (a b c d : Bool) (k : Nat) : (bitsOf [a, b, c, d]).testBit k =
    (decide (k = 0) && a || decide (k = 1) && b || decide (k = 2) && c || decide (k = 3) && d) := by
  match k with
  | 0 => revert a b c d; decide
  | 1 => revert a b c d; decide
  | 2 => revert a b c d; decide
  | 3 => revert a b c d; decide
  | k + 4 =>
    have small : bitsOf [a, b, c, d] < 2 ^ 4 := by revert a b c d; decide
    rw [Nat.testBit_lt_two_pow (small.trans_le (Nat.pow_le_pow_right (by decide) (Nat.le_add_left 4 k)))]
    simp

/-- Four attention bits that stand from bit `lo` of a register. -/
theorem getLsbD_attnBits (lo : Nat) (hlo : lo + 3 < 32) (a b c d : Bool) (i : Nat) :
    (BitVec.ofNat 32 (2 ^ lo * bitsOf [a, b, c, d])).getLsbD i =
      (decide (i = lo) && a || decide (i = lo + 1) && b || decide (i = lo + 2) && c || decide (i = lo + 3) && d) := by
  rw [BitVec.getLsbD_ofNat, Nat.testBit_two_pow_mul, testBit_bitsOf]
  rcases lt_or_ge i lo with h | h
  · have : i ≠ lo ∧ i ≠ lo + 1 ∧ i ≠ lo + 2 ∧ i ≠ lo + 3 := by omega
    simp [this, not_le.mpr h]
  · obtain ⟨k, rfl⟩ := Nat.exists_eq_add_of_le h
    have e : ∀ j, (lo + k = lo + j) = (k = j) := fun j => propext (Nat.add_left_cancel_iff)
    have e0 : (lo + k = lo) = (k = 0) := propext (by omega)
    simp only [ge_iff_le, Nat.le_add_right, decide_true, Bool.true_and, Nat.add_sub_cancel_left, e, e0]
    by_cases hk : lo + k < 32
    · simp [hk]
    · have : k ≠ 0 ∧ k ≠ 1 ∧ k ≠ 2 ∧ k ≠ 3 := by omega
      simp [this]

/-- A field of a register's value. -/
theorem toNat_extractLsb'_ofNat (x lo n : Nat) :
    ((BitVec.ofNat 32 x).extractLsb' lo n).toNat = x % 4294967296 / 2 ^ lo % 2 ^ n := by
  simp [BitVec.extractLsb'_toNat, Nat.shiftRight_eq_div_pow]

theorem OpState.code_lt (d : OpState) : d.code < 8 := by
  cases d <;> decide

theorem BindError.code_lt (e : BindError) : e.code < 16 := by
  cases e <;> decide

theorem readRegister_state (s : State) : readRegister s 0x08 = BitVec.ofNat 32 (stateRegister s) := rfl

/-- The fields of STATE, each in its own bits (R181). -/
theorem stateRegister_fields (s : State) :
    let reads (lo n value : Nat) : Prop := ((readRegister s 0x08).extractLsb' lo n).toNat = value
    reads 0 3 s.device.code ∧ reads 3 1 0 ∧ reads 4 4 s.bus.bindError.code ∧ reads 8 4 (s.alarm.alarmLevel % 16) ∧
      reads 12 4 (s.alarm.topSource.getD 15 % 16) ∧ reads 16 4 ((s.alarm.lockPair.map Prod.fst).getD 15 % 16) ∧
      reads 20 4 ((s.alarm.lockPair.map Prod.snd).getD 15 % 16) ∧ reads 24 8 0 := by
  have hd := s.device.code_lt
  have he := s.bus.bindError.code_lt
  simp only [readRegister_state, toNat_extractLsb'_ofNat, stateRegister]
  generalize s.device.code = d at *
  generalize s.bus.bindError.code = e at *
  generalize s.alarm.alarmLevel = level
  generalize s.alarm.topSource.getD 15 = top
  generalize (s.alarm.lockPair.map Prod.fst).getD 15 = x
  generalize (s.alarm.lockPair.map Prod.snd).getD 15 = y
  norm_num only
  refine ⟨?_, ?_, ?_, ?_, ?_, ?_, ?_, ?_⟩ <;> omega

/-! ## Writing the registers (R160, R161, R178) -/

theorem State.writeControl_bind (s : State) (v : Word) (h : commandField v = 1) :
    s.writeControl v = (s.writeEnables (enablesOf v)).beginBind := if_pos h

theorem State.writeControl_none (s : State) (v : Word) (h1 : commandField v ≠ 1) (h2 : commandField v ≠ 2) :
    s.writeControl v = s.writeEnables (enablesOf v) := (if_neg h1).trans (if_neg h2)

/-- A BIND is taken in UNBOUND with none in progress. -/
def State.bindOpen (s : State) : Prop := s.device = .unbound ∧ s.bus.binding = none

theorem State.beginBind_open (s : State) (h : s.bindOpen) :
    s.beginBind = s.modBus fun b => { b with binding := some b.address } :=
  if_pos ⟨h.1, Option.isNone_iff_eq_none.mpr h.2⟩

theorem State.beginBind_closed (s : State) (h : ¬ s.bindOpen) : s.beginBind = s :=
  if_neg fun k => h ⟨k.1, Option.isNone_iff_eq_none.mp k.2⟩

theorem State.bindOpen_iff (s : State) : ¬ (s.device ≠ .unbound ∨ s.bus.binding.isSome = true) ↔ s.bindOpen := by
  simp [State.bindOpen]

/-- The address registers take a value while a BIND is open. -/
theorem State.writeRegister_open (s : State) (v : Word) (h : s.bindOpen) :
    s.writeRegister 0x10 v = (s.modBus fun b => { b with contextLo := pageAligned v }) ∧
      s.writeRegister 0x14 v = (s.modBus fun b => { b with contextHi := v }) := by
  have k := s.bindOpen_iff.mpr h
  simp [State.writeRegister, k]

/-- Otherwise they keep theirs. -/
theorem State.writeRegister_closed (s : State) (v : Word) (h : ¬ s.bindOpen) :
    s.writeRegister 0x10 v = s ∧ s.writeRegister 0x14 v = s := by
  have k := not_not.mp (mt s.bindOpen_iff.mp h)
  simp [State.writeRegister, k]

/-- The read-only registers take no value. -/
theorem State.writeRegister_readOnly (s : State) (v : Word) :
    s.writeRegister 0x00 v = s ∧ s.writeRegister 0x08 v = s := by
  simp [State.writeRegister]

/-! ## The Context Block (R162, R182) -/

theorem byteAt_lt (c : List Byte) (i : Nat) : byteAt c i < 256 := (c.getD i 0).isLt

theorem clampNat_eq (lo hi n : Nat) (h : lo ≤ hi) : clampNat lo hi n = max lo (min hi n) := by
  unfold clampNat
  (repeat' split) <;> omega

theorem readSettings_eq (c : List Byte) : readSettings c =
    { q := max 256 (min 1048576 (u32At c 4)), filterTime := byteAt c 9, rv := max 1 (byteAt c 10),
      mode := if byteAt c 8 = 1 then .edge2 else if byteAt c 8 = 2 then .edge1 else .edge4,
      markEdge := if byteAt c 11 = 1 then .falling else .rising } := by
  have hrv : max 1 (min 255 (byteAt c 10)) = max 1 (byteAt c 10) := by
    have := byteAt_lt c 10
    omega
  rw [readSettings, clampNat_eq _ _ _ (by decide), clampNat_eq _ _ _ (by decide), hrv]

theorem readContext_eq (c : List Byte) : readContext c =
    { version := u16At c 0, base := u64At c 0x0C, slotCount := u32At c 0x14, startIndex := u32At c 0x18,
      firstSeq := u32At c 0x1C, reserve := u16At c 0x20, threshold := min 10 (byteAt c 0x22),
      cabLevel := max 1 (min 10 (byteAt c 0x23)), scanInterval := u16At c 0x24,
      settings :=
        { q := max 256 (min 1048576 (u32At c 4)), filterTime := byteAt c 9, rv := max 1 (byteAt c 10),
          mode := if byteAt c 8 = 1 then .edge2 else if byteAt c 8 = 2 then .edge1 else .edge4,
          markEdge := if byteAt c 11 = 1 then .falling else .rising },
      consumers := (List.range 8).map fun i =>
        { enabled := decide (byteAt c (0x28 + 4 * i) ≠ 0), subscriptions := BitVec.ofNat 8 (byteAt c (0x29 + 4 * i)) } } := by
  have enabled : ∀ n : Nat, (n != 0) = decide (n ≠ 0) := fun n => by simp [bne, beq_eq_decide]
  rw [readContext, readSettings_eq, clampNat_eq _ _ _ (by decide), clampNat_eq _ _ _ (by decide), Nat.zero_max]
  simp only [enabled]

/-! ## The checks of R162 -/

/-- The checks in their order, each with what it shows when it fails. -/
def bindCheckList (f : ContextFields) : List (BindError × Bool) :=
  [(.version, decide (f.version = 1)), (.align, f.base % 64 == 0),
   (.slots, (List.range 11).any fun k => f.slotCount == 2 ^ (6 + k)), (.reserve, decide (4 * f.reserve ≤ f.slotCount)),
   (.scan, decide (50 ≤ f.scanInterval ∧ f.scanInterval ≤ 5000))]

theorem slotCountOk_eq (n : Nat) : slotCountOk n = (List.range 11).any fun k => n == 2 ^ (6 + k) := by
  simp only [slotCountOk, pow_add]
  rfl

/-- The first check that fails says what a BIND shows. -/
theorem bindChecks_eq (f : ContextFields) :
    bindChecks f = (((bindCheckList f).find? fun x => !x.2).map Prod.fst).getD .none := by
  unfold bindChecks bindCheckList
  rw [slotCountOk_eq]
  generalize ((List.range 11).any fun k => f.slotCount == 2 ^ (6 + k)) = slots
  have reserve : f.slotCount < 4 * f.reserve ↔ ¬ 4 * f.reserve ≤ f.slotCount := not_le.symm
  have scan : f.scanInterval < 50 ∨ 5000 < f.scanInterval ↔ ¬ (50 ≤ f.scanInterval ∧ f.scanInterval ≤ 5000) := by omega
  simp only [reserve, scan]
  by_cases h1 : f.version = 1
  · by_cases h2 : f.base % 64 = 0
    · cases slots
      · simp [h1, h2]
      · by_cases h4 : 4 * f.reserve ≤ f.slotCount
        · by_cases h5 : 50 ≤ f.scanInterval ∧ f.scanInterval ≤ 5000 <;> simp [h1, h2, h4, h5]
        · simp [h1, h2, h4]
    · simp [h1, h2]
  · simp [h1]

theorem bindChecks_failed (f : ContextFields) (i : Nat) (e : BindError) (hi : (bindCheckList f)[i]? = some (e, false))
    (h : ∀ (j : Nat) x, j < i → (bindCheckList f)[j]? = some x → x.2 = true) : bindChecks f = e := by
  obtain ⟨hlt, hget⟩ := List.getElem?_eq_some_iff.mp hi
  have first : (bindCheckList f).find? (fun x => !x.2) = some (e, false) :=
    List.find?_eq_some_iff_getElem.mpr ⟨rfl, i, hlt, hget, fun j hj => by
      simp [h j _ hj (List.getElem?_eq_getElem (hj.trans hlt))]⟩
  rw [bindChecks_eq, first]
  rfl

theorem bindCheckList_error (f : ContextFields) (x : BindError × Bool) (hx : x ∈ bindCheckList f) : x.1 ≠ .none := by
  simp only [bindCheckList, List.mem_cons, List.not_mem_nil, or_false] at hx
  rcases hx with rfl | rfl | rfl | rfl | rfl <;> nofun

theorem bindChecks_passed (f : ContextFields) (h : ∀ x ∈ bindCheckList f, x.2 = true) : bindChecks f = .none := by
  have all : (bindCheckList f).find? (fun x => !x.2) = none :=
    List.find?_eq_none.mpr fun x hx => by simp [h x hx]
  rw [bindChecks_eq, all]
  rfl

/-! ## The end of a BIND (R162) -/

/-- The BIND in progress ends with an error. -/
def State.bindFailsWith (s : State) (e : BindError) : State :=
  (s.modBus fun b => { b with binding := none, bindError := e }).setCause .state

theorem exec_bindComplete_unread (s : State) (address : Nat) (h : s.bus.binding = some address) :
    exec (.bindComplete none) s = .next (s.bindFailsWith .hostMemory) := by
  show execBindComplete none s = _
  unfold execBindComplete
  rw [h]
  rfl

theorem exec_bindComplete_failed (s : State) (address : Nat) (h : s.bus.binding = some address) (bytes : List Byte)
    (e : BindError) (he : bindChecks (readContext bytes) = e) (hn : e ≠ .none) :
    exec (.bindComplete (some bytes)) s = .next (s.bindFailsWith e) := by
  show execBindComplete (some bytes) s = _
  unfold execBindComplete
  rw [h]
  have k : s.endBind address (some bytes) = (s.modBus fun b => { b with binding := none }).bindFails (bindChecks (readContext bytes)) :=
    if_neg (he ▸ hn)
  show Host.Outcome.next (s.endBind address (some bytes)) = _
  rw [k, he]
  rfl

theorem exec_bindComplete_passed (s : State) (address : Nat) (h : s.bus.binding = some address) (bytes : List Byte)
    (he : bindChecks (readContext bytes) = .none) : exec (.bindComplete (some bytes)) s =
      .next ((s.modBus fun b => { b with binding := none }).bindSucceeds address (readContext bytes)) := by
  show execBindComplete (some bytes) s = _
  unfold execBindComplete
  rw [h]
  exact congrArg Host.Outcome.next (if_pos he)

/-- The device BOUND with the fields of its Context Block, but for the position settings. -/
def State.boundWith (s : State) (address : Nat) (f : ContextFields) : State :=
  { s with
    device := .bound
    indicationCounter := 1
    alarm := { s.alarm with cabLevel := f.cabLevel, threshold := f.threshold }
    req := { s.req with scanTimer := true, scanInterval := f.scanInterval }
    jrn := .bound f
    bus := { s.bus with binding := none, bindError := .none, context := address } }

/-- A BIND that succeeds with no line due: the settings are loaded in the BOUND device, the status area is written, and
the conditions present are raised. -/
theorem State.bindSucceeds_eq (s : State) (address : Nat) (f : ContextFields)
    (h : ∀ x ∈ [s.pos.tachA, s.pos.tachB, s.pos.markIn], ∀ n, x.hold = some n → n < s.pos.settings.filterTime) :
    (s.modBus fun b => { b with binding := none }).bindSucceeds address f =
      ((s.boundWith address f).loadSettings f.settings).announce.raisePresent := by
  have none_due := (s.modBus fun b => { b with binding := none }).acceptDue_of_none_due false fun x hx =>
    x.due_eq_false _ (h x hx)
  unfold State.bindSucceeds
  rw [none_due]
  rfl

/-- The test of N where the direction is unknown, written out. -/
theorem State.testDeclaration_eq (s : State) (rv : Nat) (h : s.pos.settings.rv = rv) : s.testDeclaration =
    let declared (d : Dir) : State := { s with pos := { s.pos with dir := d, e := s.pos.p } }.noticeMarkers (.declared d s.pos.p)
    if (rv : Int) ≤ s.pos.n then declared .increasing else if s.pos.n ≤ -(rv : Int) then declared .decreasing else s := by
  unfold State.testDeclaration
  rw [h]
  rfl

/-- The test of the distance from E where the direction is known, written out. -/
theorem State.testReversal_eq (s : State) (rv : Nat) (h : s.pos.settings.rv = rv) (hd : s.pos.dir ≠ .unknown) :
    s.testReversal =
    let behind : Int := if s.pos.dir = .increasing then (s.pos.e : Int) - s.pos.p else (s.pos.p : Int) - s.pos.e
    if (rv : Int) ≤ behind then
      { s with pos := { s.pos with dir := s.pos.dir.flip, e := s.pos.p } }.sendReversal s.pos.dir.flip s.pos.p s.pos.t
    else s := by
  have ha : s.pos.against = if s.pos.dir = .increasing then (s.pos.e : Int) - s.pos.p else (s.pos.p : Int) - s.pos.e := by
    unfold PositionUnit.against
    cases hdir : s.pos.dir with
    | unknown => exact absurd hdir hd
    | increasing => rfl
    | decreasing => rfl
  unfold State.testReversal
  rw [ha, h]
  simp only [hd, ne_eq, not_false_iff, true_and]
  rfl

theorem InputLine.due_eq (x : InputLine) (f : Nat) : x.due f = x.hold.any fun n => decide (f ≤ n) := by
  unfold InputLine.due
  cases x.hold <;> rfl

/-- The settings loaded: the lines due under them are accepted, and the test that follows is by the direction they
leave. -/
theorem State.loadSettings_eq (s v : State) (x : PositionSettings)
    (h : (s.modPos fun u => { u with settings := x }).acceptDue false = v) :
    s.loadSettings x = if v.pos.dir = .unknown then v.testDeclaration else v.testReversal := by
  subst h
  rfl

theorem State.alarmRaise_front (s : State) (src : Source) (d : Detail) : exec (.alarmRaise .busInterface) { s with
    alarm := { s.alarm with reports := (.busInterface, .raise src d) :: s.alarm.reports } } = .next (s.takeRaise src d) := rfl

/-- Settles O60. -/
theorem registersAreWrittenAndBindsEnd : Obligations.RegistersAreWrittenAndBindsEnd := by
  refine ⟨fun v s => ?_, fun s => ?_, readContext_eq, fun src d s => s.alarmRaise_front src d, fun block s h => ?_,
    fun address s h hd => ?_⟩
  · intro messages u latched open_
    refine ⟨fun hc ho => ?_, fun hc ho => ?_, fun h1 h2 => ?_, rfl, fun ho => ?_, fun ho => ?_, ?_⟩
    · exact congrArg Host.Outcome.next ((s.writeControl_bind v hc).trans (State.beginBind_open u ho))
    · exact congrArg Host.Outcome.next ((s.writeControl_bind v hc).trans (State.beginBind_closed u ho))
    · exact congrArg Host.Outcome.next (s.writeControl_none v h1 h2)
    · exact (s.writeRegister_open v ho).imp (congrArg Host.Outcome.next) (congrArg Host.Outcome.next)
    · exact (s.writeRegister_closed v ho).imp (congrArg Host.Outcome.next) (congrArg Host.Outcome.next)
    · exact (s.writeRegister_readOnly v).imp (congrArg Host.Outcome.next) (congrArg Host.Outcome.next)
  · intro reads bits
    have identity : ∀ lo n, ((readRegister s 0x00).extractLsb' lo n).toNat = 65560 / 2 ^ lo % 2 ^ n := fun lo n =>
      toNat_extractLsb'_ofNat _ lo n
    have causes : readRegister s 0x0C = BitVec.ofNat 32 (2 ^ 0 * bitsOf [s.bus.causes.journal, s.bus.causes.request,
        s.bus.causes.alarm, s.bus.causes.state]) := by
      rw [Nat.pow_zero, Nat.one_mul]
      rfl
    refine ⟨identity 0 16, identity 16 8, identity 24 8, getLsbD_attnBits 8 (by decide) _ _ _ _, ?_, rfl, rfl,
      stateRegister_fields s⟩
    intro i
    rw [causes]
    exact getLsbD_attnBits 0 (by decide) _ _ _ _ i
  · show execBindComplete block s = _
    unfold execBindComplete
    rw [h]
  · intro fails
    refine ⟨exec_bindComplete_unread s address h, fun bytes => ?_⟩
    intro f checks
    refine ⟨fun i e hi hj => ?_, fun hall hold => ?_⟩
    · have he := bindChecks_failed f i e hi hj
      exact exec_bindComplete_failed s address h bytes e he (bindCheckList_error f _ (List.mem_of_getElem? hi))
    · intro due line u v₀ v rv declared behind w
      have hf : bindChecks f = .none := bindChecks_passed f hall
      rw [exec_bindComplete_passed s address h bytes hf, s.bindSucceeds_eq address f hold]
      have hline : ∀ x : InputLine, x.acceptDue f.settings.filterTime = line x := fun x => by
        rw [InputLine.acceptDue, InputLine.due_eq]
        rfl
      have haccept : ((s.boundWith address f).modPos fun x => { x with settings := f.settings }).acceptDue false = v := by
        rw [State.acceptDue_eq]
        simp only [Bool.false_eq_true, if_false, State.linesAccepted, State.pairAccepted, State.edgeAccepted,
          State.modPos_pos, hline, InputLine.due_eq]
        rfl
      have hrv : v.pos.settings.rv = f.settings.rv := by
        have k : v.inputs = u.inputs := by
          simp only [v]
          split <;> simp [v₀]
        rw [((State.inputs_eq_iff _ _).mp k).2.2.2]
      have hw : (s.boundWith address f).loadSettings f.settings = w := by
        rw [State.loadSettings_eq _ v _ haccept]
        clear_value v
        by_cases hdir : v.pos.dir = .unknown
        · simp only [w, hdir, if_true]
          exact v.testDeclaration_eq _ hrv
        · simp only [w, hdir, if_false]
          exact v.testReversal_eq _ hrv hdir
      rw [hw]
      rfl

end Sys2Proof.Machine
end

section
/-! PROOFS. Each reset (O4), the orders to a Sequencer (O26), and the purges of a marker queue (O43). -/

namespace Sys2Proof.Machine

/-! ## The resets -/

/-- A write of RESET to CONTROL: the enables are written, and the device reset follows. -/
theorem exec_reset (v : Word) (s : State) (h : commandField v = 2) :
    exec (.reset v) s = .next (s.writeEnables (enablesOf v)).deviceReset := by
  have hc : (v.extractLsb' 0 4).toNat = 2 := h
  have e : s.writeControl v = (s.writeEnables (enablesOf v)).deviceReset := by simp [State.writeControl, hc]
  exact congrArg Host.Outcome.next e

/-- Settles O4: each block's reset value, written out, is that of Safety.lean. -/
theorem eachResetRestoresEveryBlock : Obligations.EachResetRestoresEveryBlock := by
  refine ⟨fun pins s => rfl, fun v s h => ?_⟩
  intro rail messages
  rw [exec_reset v s h]
  rfl

/-! ## Holds (R33, R42, R46) -/

/-- What a Sequencer that has just been ordered to hold, its rail not yet reported, reports. -/
theorem State.reportHeld_of_held (s : State) (r : Rail) (h : (s.rail r).seq.held = true)
    (hr : (s.rail r).seq.heldReported = false) : s.reportHeld r =
      if (s.rail r).shot = none ∧ (s.rail r).eval.release = [] then
        (s.modSeq r fun q => { q with heldReported := true }).modPlans fun p =>
          { p with heldReports := p.heldReports.set r (p.heldReports.get r + 1) }
      else s := by
  simp only [State.reportHeld, Evaluator.drained, h, hr, Option.isNone_iff_eq_none, List.isEmpty_iff, true_and]
  rfl

/-- Settles O26. -/
theorem holdOrdersHoldAndRelease : Obligations.HoldOrdersHoldAndRelease := by
  intro r rest s
  refine ⟨fun h => ?_, fun h => ?_⟩
  · intro still u
    have e : exec (.holdOrder r) s = .next
        ((s.modSeq r fun q => { q with orders := rest, held := true, heldReported := false }).reportHeld r) := by
      show execHoldOrder r s = _
      unfold execHoldOrder
      rw [h]
    rw [e, State.reportHeld_of_held _ r (by simp) (by simp), State.modSeq_shot, State.modSeq_eval]
    by_cases k : (s.rail r).shot = none ∧ (s.rail r).eval.release = []
    · simp only [u, still, k, and_self, if_true, decide_true]
      cases r <;> rfl
    · simp only [u, still, k, if_false, decide_false]
      rfl
  · intro u
    show execHoldRelease r s = _
    unfold execHoldRelease
    rw [h]
    simp only [State.modSeq_seq_same]
    rfl

/-! ## Purges (R139) -/

/-- Marks abandoned one after another: their records are offered and their raises reported, in the order given. -/
def State.unmarked (s : State) (r : Rail) (reason : UnmarkedReason) (es : List MarkEntry) : State :=
  (s.offered (.marker r) (es.map fun e => .marker (s.markerRecord r e (some reason)))).modAlarm fun a =>
    { a with reports := a.reports ++ es.map fun e =>
        (.marker r, .raise .markerUnmarked (.unmarked r e.nozzle reason (e.origins.headD 0))) }

theorem State.unmark_eq_unmarked (s : State) (r : Rail) (e : MarkEntry) (reason : UnmarkedReason) :
    s.unmark r e reason = s.unmarked r reason [e] := by
  rw [State.unmark, State.offer_eq_offered]
  rfl

theorem State.unmarked_append (s : State) (r : Rail) (reason : UnmarkedReason) (es fs : List MarkEntry) :
    (s.unmarked r reason es).unmarked r reason fs = s.unmarked r reason (es ++ fs) := by
  simp [State.unmarked, State.offered, State.modAlarm, State.markerRecord, State.rail, List.append_assoc]

theorem State.foldl_unmark (r : Rail) (reason : UnmarkedReason) (es : List MarkEntry) (s : State) :
    es.foldl (fun s e => s.unmark r e reason) s = s.unmarked r reason es := by
  induction es generalizing s with
  | nil => simp [State.unmarked, State.modAlarm]
  | cons e es ih => rw [List.foldl_cons, ih, s.unmark_eq_unmarked, s.unmarked_append, List.singleton_append]

theorem State.purge_eq (s : State) (r : Rail) (reason : UnmarkedReason) :
    s.purge r reason = (s.unmarked r reason (s.rail r).mrk.queue).modMrk r fun m =>
      { m with queue := [], nozzles := m.nozzles.map Nozzle.finish } := by
  rw [State.purge, State.foldl_unmark]

theorem State.modMrk_congr (s : State) (r : Rail) (f g : Marker → Marker) (h : f (s.rail r).mrk = g (s.rail r).mrk) :
    s.modMrk r f = s.modMrk r g := by
  have h' : f (s.rails.get r).mrk = g (s.rails.get r).mrk := h
  simp only [State.modMrk, State.modRail, Both.modify, h']

theorem State.modPlans_congr (s : State) (f g : PlanStore → PlanStore) (h : f s.plans = g s.plans) :
    s.modPlans f = s.modPlans g := by
  rw [State.modPlans, State.modPlans, h]

theorem Nozzle.drop_finish (z : Nozzle) :
    z.finish.drop = { z with desc := none, position := none, drive := z.latched } := by
  unfold Nozzle.finish
  split
  · rfl
  · split <;> rfl

/-- Settles O43. -/
theorem purgesEmptyTheMarkerQueue : Obligations.PurgesEmptyTheMarkerQueue := by
  intro r s m purged
  refine ⟨fun d p t rest h => ?_, fun n h => ?_, fun rest h => ?_, fun x rest h hx hother => ?_⟩
  · have e : exec (.markerReversalPurge r) s = .next
        (((s.putMarkNotices r rest).modMrk r fun m => { m with dir := d }).purge r .reversal) := by
      show execMarkerReversalPurge r s = _
      unfold execMarkerReversalPurge
      rw [show (s.rail r).mrk.notices = _ from h]
    rw [e, State.purge_eq]
    cases r <;> rfl
  · have e : exec (.markerTachFaultPurge r) s = .next
        ((s.modMrk r fun m => { m with tachNotices := n }).purge r .tachFault) := by
      have h' : (s.rail r).mrk.tachNotices = n + 1 := h
      show execMarkerTachFaultPurge r s = _
      unfold execMarkerTachFaultPurge
      rw [if_neg (by omega), s.modMrk_congr r _ (fun m => { m with tachNotices := n }) (by simp [h'])]
    rw [e, State.purge_eq]
    cases r <;> rfl
  · have e : exec (.markerPlanEndedPurge r) s = .next (((s.putMarkOrders r rest).purge r .planEnded).dropNozzles r) := by
      show execMarkerPlanEndedPurge r s = _
      unfold execMarkerPlanEndedPurge
      rw [show (s.rail r).mrk.orders = _ from h]
    rw [e, State.purge_eq]
    have k : Nozzle.drop ∘ Nozzle.finish = fun z => { z with desc := none, position := none, drive := z.latched } :=
      funext Nozzle.drop_finish
    simp only [purged, State.dropNozzles, ← k, ← List.map_map]
    cases r <;> rfl
  · have e : exec (.markerStopPurge r) s = .next (((s.putMarkOrders r rest).purge r .stopped).railPurged r) := by
      show execMarkerStopPurge r s = _
      unfold execMarkerStopPurge
      rw [show (s.rail r).mrk.orders = _ from h]
    have hp : ∀ v : State, v.plans = s.plans → v.railPurged r =
        v.modPlans fun p => { p with stop := some { x with purged := x.purged.set r true } } := by
      intro v hv
      have open_ : ¬ ((x.purged.set r true).a = true ∧ (x.purged.set r true).b = true ∧ v.device ≠ .locked) := by
        cases r with
        | A => simp [Both.set, show x.purged.b = false from hother .B nofun]
        | B => simp [Both.set, show x.purged.a = false from hother .A nofun]
      unfold State.railPurged
      rw [hv, hx]
      simp only [State.modStop, State.modPlans_device, open_, if_false]
      exact v.modPlans_congr _ _ (by simp [hv, hx])
    rw [e, State.purge_eq, hp _ (by cases r <;> rfl)]
    cases r <;> rfl

end Sys2Proof.Machine
end

section
/-! PROOFS. CHECK_PLAN and ACTIVATE_PLAN, and the start of a load (O46). -/

namespace Sys2Proof.Machine

/-! ## CHECK_PLAN and ACTIVATE_PLAN (R20, R27, R28) -/

theorem lengthFault_iff (n : Nat) : lengthFault n = true ↔ n < 32 ∨ 16384 < n := by
  rw [lengthFault, Bool.or_eq_true, decide_eq_true_iff, decide_eq_true_iff]
  rfl

@[simp] theorem State.startLoad_scan (s : State) (q : Request) (purpose : LoadPurpose) :
    (s.startLoad q purpose).req.scan = s.req.scan := s.take_scan q

@[simp] theorem State.startLoad_device (s : State) (q : Request) (purpose : LoadPurpose) :
    (s.startLoad q purpose).device = s.device := s.take_device q

/-- Settles O46: each row is its owner's effect with the scan closed behind it. -/
theorem planRequestsAreAnsweredOrStartALoad : Obligations.PlanRequestsAreAnsweredOrStartALoad := by
  intro q rest s hs hd u n loading bad
  have hu : u.device.scans = true := hd
  have short : n < 32 ∨ 16384 < n → lengthFault q.plan.2 = true := (lengthFault_iff n).mpr
  have fits : 32 ≤ n → n ≤ 16384 → ¬ lengthFault q.plan.2 = true := fun h1 h2 h => by
    rcases (lengthFault_iff n).mp h with h | h <;> omega
  refine ⟨fun hk => ?_, fun hk => ?_⟩
  · have row : ∀ w : State, u.checkPlan q = w → w.req.scan = rest → w.device.scans = true →
        exec .checkPlan s = .next (closeScan rest w) := fun w hw h1 h2 =>
      congrArg Host.Outcome.next (s.takeRequest_eq q rest _ _ hs (by simp [hk]) w hw h1 h2)
    refine ⟨fun hb => row _ (if_pos hb) (by simp [u]) (by simpa using hu), fun he => ⟨fun hn => ?_, fun h1 h2 => ?_⟩⟩
    · exact row _ ((if_neg (not_not.mpr he)).trans (if_pos (short hn))) (by simp [u]) (by simpa using hu)
    · exact row (u.startLoad q .check) ((if_neg (not_not.mpr he)).trans (if_neg (fits h1 h2))) (by simp [u])
        (by simpa using hu)
  · intro mode
    have row : ∀ w : State, u.activatePlan q = w → w.req.scan = rest → w.device.scans = true →
        exec .activatePlan s = .next (closeScan rest w) := fun w hw h1 h2 =>
      congrArg Host.Outcome.next (s.takeRequest_eq q rest _ _ hs (by simp [hk]) w hw h1 h2)
    refine ⟨fun hf => row _ (if_pos hf) (by simp [u]) (by simpa using hu), fun hf hm => ?_, fun hf hm => ?_⟩
    · have undefined : switchModeOf (byteAt q.params 12) = none := by
        unfold switchModeOf
        rw [if_neg (by omega), if_neg (by omega)]
      refine row _ ((if_neg hf).trans ?_) (by simp [u]) (by simpa using hu)
      rw [undefined]
    · have defined : switchModeOf (byteAt q.params 12) = some (if mode = 0 then .immediate else .atPosition) := by
        unfold switchModeOf
        split
        · rfl
        · rw [if_pos (by omega)]
      refine ⟨fun hb => ?_, fun he ht => ⟨fun hn => ?_, fun h1 h2 => ?_⟩⟩
      · refine row _ ((if_neg hf).trans ?_) (by simp [u]) (by simpa using hu)
        rw [defined]
        by_cases he : u.plans.standby.state = .empty
        · exact (if_neg (not_not.mpr he)).trans (if_pos (hb.resolve_left (not_not.mpr he)))
        · exact if_pos he
      all_goals
        have free : ¬ u.plans.stop.isSome = true := by simp [u, ht]
      · refine row _ ((if_neg hf).trans ?_) (by simp [u]) (by simpa using hu)
        rw [defined]
        exact (if_neg (not_not.mpr he)).trans ((if_neg free).trans (if_pos (short hn)))
      · refine row (u.startLoad q _) ((if_neg hf).trans ?_) (by simp [u]) (by simpa using hu)
        rw [defined]
        exact (if_neg (not_not.mpr he)).trans ((if_neg free).trans (if_neg (fits h1 h2)))

end Sys2Proof.Machine
end

section
/-! PROOFS. Scans: the repetition of the pending entry writes, the requests a table posts, and the two rows that answer at
once (O51). -/

namespace Sys2Proof.Machine

/-! ## Scans (R164, R166) -/

/-- What is held of an index: the request taken there, and the write of its entry that is pending. -/
def RequestHandler.slot (q : RequestHandler) (i : Nat) : Option Request × Option EntryWrite :=
  (q.taken.getD i none, q.pendingWrites.getD i none)

theorem RequestHandler.holds_eq (q : RequestHandler) (i : Nat) :
    q.holds i = ((q.slot i).1.isSome || (q.slot i).2.isSome) := rfl

/-- What is left of an index once its pending write has been repeated: the request, where the write was of TAKEN. -/
def repeated (x : Option Request × Option EntryWrite) : Option Request × Option EntryWrite :=
  (if x.2.all fun w => w.state == .taken then x.1 else none, none)

theorem getD_set_none {α : Type} (xs : List (Option α)) (i j : Nat) :
    (xs.set i none).getD j none = if i = j then none else xs.getD j none := by
  rw [List.getD_eq_getElem?_getD, List.getElem?_set, List.getD_eq_getElem?_getD]
  split
  · split <;> rfl
  · rfl

theorem State.issueEntry_req (s : State) (i : Nat) (w : EntryWrite) (b : Bool) :
    (s.issueEntry i w b).req.taken = (if w.state = .taken then s.req.taken else s.req.taken.set i none) ∧
      (s.issueEntry i w b).req.pendingWrites = s.req.pendingWrites.set i none := by
  unfold State.issueEntry State.announceEntry
  dsimp only
  split
  · rw [State.setCause_req]
    exact ⟨rfl, rfl⟩
  · exact ⟨rfl, rfl⟩

/-- An entry write leaves of its own index the request, where it writes TAKEN, and no pending write. -/
theorem State.issueEntry_slot (s : State) (i j : Nat) (w : EntryWrite) (b : Bool) :
    (s.issueEntry i w b).req.slot j = if j = i then (if w.state = .taken then (s.req.slot i).1 else none, none)
      else s.req.slot j := by
  obtain ⟨taken, pending⟩ := s.issueEntry_req i w b
  rw [RequestHandler.slot, taken, pending, apply_ite (List.getD · j none), getD_set_none, getD_set_none]
  by_cases h : j = i
  · subst h
    simp [RequestHandler.slot]
  · simp [RequestHandler.slot, h, Ne.symm h]

/-- The pending writes `p` of the indices below `n` issued again, in index order. -/
def State.repeatedBelow (s : State) (p : List (Option EntryWrite)) (n : Nat) : State :=
  (List.range n).foldl (fun s i => match p.getD i none with
    | none => s
    | some w => s.issueEntry i w true) s

theorem State.repeatedBelow_succ (s : State) (p : List (Option EntryWrite)) (n : Nat) :
    s.repeatedBelow p (n + 1) = match p.getD n none with
      | none => s.repeatedBelow p n
      | some w => (s.repeatedBelow p n).issueEntry n w true := by
  rw [State.repeatedBelow, List.range_succ, List.foldl_append]
  rfl

theorem State.repeatedBelow_slot (s : State) (n i : Nat) : (s.repeatedBelow s.req.pendingWrites n).req.slot i =
    if i < n then repeated (s.req.slot i) else s.req.slot i := by
  induction n generalizing i with
  | zero => rfl
  | succ n ih =>
    have hn : (s.req.slot n).2 = s.req.pendingWrites.getD n none := rfl
    rw [State.repeatedBelow_succ]
    split
    · next h =>
      rw [h] at hn
      rw [ih]
      by_cases hi : i = n
      · subst hi
        rw [if_neg (lt_irrefl _), if_pos (Nat.lt_succ_self _)]
        exact Prod.ext (by simp [repeated, hn]) hn
      · simp only [show i < n + 1 ↔ i < n by omega]
    · next w h =>
      rw [h] at hn
      rw [State.issueEntry_slot, ih, ih]
      by_cases hi : i = n
      · subst hi
        simp [repeated, hn]
      · simp only [hi, if_false, show i < n + 1 ↔ i < n by omega]

/-- Each index is repeated as it stood before the first: the write of one leaves the others alone. -/
theorem State.repeatWrites_eq (s : State) : s.repeatWrites = s.repeatedBelow s.req.pendingWrites 8 := by
  have below : ∀ n, (List.range n).foldl (fun s i => match s.req.pendingWrites.getD i none with
      | none => s
      | some w => State.issueEntry s i w true) s = s.repeatedBelow s.req.pendingWrites n := by
    intro n
    induction n with
    | zero => rfl
    | succ n ih =>
      have hn := congrArg Prod.snd (s.repeatedBelow_slot n n)
      rw [if_neg (lt_irrefl _)] at hn
      have hn' : (s.repeatedBelow s.req.pendingWrites n).req.pendingWrites.getD n none = s.req.pendingWrites.getD n none := hn
      rw [List.range_succ, List.foldl_append, ih, State.repeatedBelow_succ, ← hn']
      rfl
  exact below 8

theorem repeated_held (x : Option Request × Option EntryWrite) :
    ((repeated x).1.isSome || (repeated x).2.isSome) = (x.1.isSome && x.2.all fun w => w.state == .taken) := by
  unfold repeated
  by_cases h : (x.2.all fun w => w.state == .taken) = true <;> simp [h]

/-- An index is held behind the repetition where its request was held, and any write repeated was of TAKEN. -/
theorem State.repeatWrites_holds (s : State) (i : Nat) (hi : i < 8) : s.repeatWrites.req.holds i =
    ((s.req.taken.getD i none).isSome && (s.req.pendingWrites.getD i none).all fun w => w.state == .taken) := by
  rw [s.repeatWrites_eq, RequestHandler.holds_eq, s.repeatedBelow_slot, if_pos hi, repeated_held]
  rfl

theorem byteAt_take_drop (c : List Byte) (m n i : Nat) (h : i < n) : byteAt ((c.drop m).take n) i = byteAt c (m + i) := by
  simp [byteAt, List.getD_eq_getElem?_getD, h, List.getElem?_drop]

/-- The request an entry posts, by the places of its fields in the table. -/
theorem readEntry_eq (table : List Byte) (i : Nat) : readEntry table i =
    if byteAt table (64 * i) = 1 then
      some { index := i, kind := byteAt table (64 * i + 1), tag := u16At table (64 * i + 2),
             params := (table.drop (64 * i + 8)).take 32 }
    else none := by
  simp [readEntry, entryBytes, u16At, byteAt_take_drop, List.drop_take, List.take_take]

theorem filterMap_eq_map_filter {α β : Type} (f : α → Option β) (p : α → Bool) (g : α → β) (xs : List α)
    (h : ∀ x ∈ xs, f x = if p x then some (g x) else none) : xs.filterMap f = (xs.filter p).map g := by
  induction xs with
  | nil => rfl
  | cons x xs ih =>
    rw [List.filterMap_cons, h x List.mem_cons_self, ih fun y hy => h y (List.mem_cons_of_mem x hy)]
    cases hp : p x <;> simp [hp]

theorem railOfCode_lt {n : Nat} {r : Rail} (h : railOfCode n = some r) : n < 2 := by
  unfold railOfCode at h
  split at h
  · omega
  · split at h
    · omega
    · cases h

/-- Settles O51. -/
theorem scansTakeThePostedRequests : Obligations.ScansTakeThePostedRequests := by
  refine ⟨fun table s => ⟨fun h => ?_, fun hd ht => ?_⟩, fun q rest s hs hd => ?_⟩
  · have closed : ¬ (s.device.scans = true ∧ s.req.scanTimer = true) := by
      rintro ⟨h1, h2⟩
      rcases h with h | h <;> simp_all
    exact congrArg Host.Outcome.next (if_neg closed)
  · intro u held
    have hu : (s.modReq fun q => { q with scanTimer := false }).repeatWrites = u := State.repeatWrites_eq _
    have row : ∀ table, exec (.scanTimerExpiry table) s = .next (s.scanTable table) := fun table =>
      congrArg Host.Outcome.next (if_pos ⟨hd, ht⟩)
    refine ⟨fun h => ?_, ?_⟩
    · simp only [u, h]
      rfl
    · intro ended
      refine ⟨fun h => ?_, fun bytes h => ?_⟩
      · subst h
        rw [row, State.scanTable, hu]
        rfl
      · subst h
        intro posted read _
        rw [row, State.scanTable, hu]
        have hp : u.req.posted bytes = posted.map read := by
          refine filterMap_eq_map_filter _ _ _ _ fun i hi => ?_
          have hh : u.req.holds i = held i := by
            rw [← hu, State.repeatWrites_holds _ i (List.mem_range.mp hi)]
            rfl
          rw [readEntry_eq, hh]
          by_cases h1 : held i = true <;> by_cases h2 : byteAt bytes (64 * i) = 1 <;> simp [h1, h2, read]
        simp only [hp, List.isEmpty_iff, List.map_eq_nil_iff]
        rfl
  · intro u offset
    have hu : u.device.scans = true := hd
    refine ⟨fun hk => ?_, fun hk => ⟨fun hbad => ?_, fun r hr h1 h2 => ?_⟩⟩
    · exact congrArg Host.Outcome.next (s.takeRequest_eq q rest _ _ hs (by simpa using hk) _ rfl (by simp [u]) (by simpa using hu))
    all_goals
      have row : ∀ w : State, u.sensitivityRequest q = w → w.req.scan = rest → w.device.scans = true →
          exec .sensitivity s = .next (closeScan rest w) := fun w hw h1 h2 =>
        congrArg Host.Outcome.next (s.takeRequest_eq q rest _ _ hs (by simp [hk]) w hw h1 h2)
    · refine row _ ?_ (by simp [u]) (by simpa using hu)
      unfold State.sensitivityRequest
      dsimp only
      split
      · rfl
      · next r hr =>
        rw [if_pos (hbad.resolve_left (not_le.mpr (railOfCode_lt hr)))]
    · refine row _ ?_ (by simp [u]) (by simpa using hu)
      unfold State.sensitivityRequest
      dsimp only
      rw [hr]
      exact if_neg (by omega)

end Sys2Proof.Machine
end

section
/-! PROOFS. Sweep steps, the FIRE frame and the latched shot (O24). -/

namespace Sys2Proof.Machine

/-! ## Updates of a Sequencer one after another -/

theorem State.modRail_modRail (s : State) (r : Rail) (f g : RailBlocks → RailBlocks) :
    (s.modRail r f).modRail r g = s.modRail r fun b => g (f b) := by
  cases r <;> rfl

theorem State.modSeq_modSeq (s : State) (r : Rail) (f g : Sequencer → Sequencer) :
    (s.modSeq r f).modSeq r g = s.modSeq r fun q => g (f q) :=
  s.modRail_modRail r _ _

theorem State.modSeq_modPlans (s : State) (r : Rail) (f : Sequencer → Sequencer) (g : PlanStore → PlanStore) :
    (s.modPlans g).modSeq r f = (s.modSeq r f).modPlans g := rfl

theorem State.modRail_modPlans (s : State) (r : Rail) (f : RailBlocks → RailBlocks) (g : PlanStore → PlanStore) :
    (s.modPlans g).modRail r f = (s.modRail r f).modPlans g := rfl

theorem State.count_raiseReport (s : State) (r : Rail) (f : SurveyCounters → SurveyCounters) (who : Raiser) (src : Source)
    (d : Detail) : (s.raiseReport who src d).count r f = (s.count r f).raiseReport who src d := rfl

theorem State.putNotices_raiseReport (s : State) (r : Rail) (xs : List SeqNotice) (who : Raiser) (src : Source)
    (d : Detail) : (s.raiseReport who src d).putNotices r xs = (s.putNotices r xs).raiseReport who src d := rfl

/-! ## Strikes on plan storage (R38) -/

theorem State.readNozzles_seq (s : State) (r o : Rail) : ((s.readNozzles r).rail o).seq = (s.rail o).seq := by
  unfold State.readNozzles
  split
  · rfl
  · rw [State.modMrk_seq]

theorem State.readNozzles_plans (s : State) (r : Rail) : (s.readNozzles r).plans = s.plans := by
  unfold State.readNozzles
  split <;> rfl

/-- A strike changes no Sequencer. -/
theorem State.strike_seq (s : State) (strikes : List Strike) (r : Rail) :
    ((s.strike strikes).rail r).seq = (s.rail r).seq := by
  rw [State.strike, State.bothRails, State.readNozzles_seq, State.readNozzles_seq, State.modPlans_rail]

/-- A strike changes contents, and never whether a plan is in force. -/
theorem State.strike_inForce (s : State) (strikes : List Strike) : (s.strike strikes).inForce = s.inForce := by
  have key : ∀ (ks : List Strike) (p : PlanStore), (ks.foldl (fun p k => match k.role with
      | .active => { p with active := p.active.strike k.offset k.value }
      | .standby => { p with standby := p.standby.strike k.offset k.value }) p).active.state = p.active.state := by
    intro ks
    induction ks with
    | nil => exact fun _ => rfl
    | cons k ks ih =>
      intro p
      rw [List.foldl_cons, ih]
      cases k.role <;> rfl
  rw [State.inForce, State.strike, State.bothRails, State.readNozzles_plans, State.readNozzles_plans, State.modPlans_plans]
  exact congrArg (· == BankState.valid) (key strikes s.plans)

/-! ## Sweep steps (R44, R45) -/

/-- The mark moved on, and the step reported to the Plan Store. -/
def State.stepReported (s : State) (r : Rail) (t : Nat) : State :=
  (s.modSeq r fun q => { q with nextMark := min Config.maxU32 (t + Plan.step s.plan r) }).modPlans fun p =>
    { p with stepReports := p.stepReports.set r (p.stepReports.get r + 1) }

theorem State.sweepStep_reached (s : State) (r : Rail) (t : Nat) (hf : s.inForce = true)
    (hm : (s.rail r).seq.nextMark ≤ t) : s.sweepStep r t = (s.stepReported r t).stepEffect r :=
  if_pos ⟨hf, hm⟩

theorem State.stepReported_seq (s : State) (r : Rail) (t : Nat) : ((s.stepReported r t).rail r).seq =
    { (s.rail r).seq with nextMark := min Config.maxU32 (t + Plan.step s.plan r) } := by
  cases r <;> rfl

theorem State.stepEffect_closed (s : State) (r : Rail)
    (h : (s.rail r).seq.state = .off ∨ (s.rail r).seq.state = .lifted ∨ (s.rail r).seq.state = .linkDown) :
    s.stepEffect r = s.countUntested r := by
  rcases h with h | h | h <;> simp only [State.stepEffect, h]

theorem State.stepEffect_held (s : State) (r : Rail) (h : (s.rail r).seq.state = .waiting ∨ (s.rail r).seq.state = .shot)
    (hh : (s.rail r).seq.held = true) : s.stepEffect r = s.countUntested r := by
  rcases h with h | h <;> simp only [State.stepEffect, h, hh, if_true]

theorem State.stepEffect_shot (s : State) (r : Rail) (h : (s.rail r).seq.state = .shot)
    (hh : (s.rail r).seq.held = false) : s.stepEffect r =
      (s.count r fun k => { k with skipped := bump16 k.skipped }).raiseReport (.sequencer r) .overspeed (.rail r) := by
  simp only [State.stepEffect, h, hh, Bool.false_eq_true, if_false]

theorem State.stepEffect_waiting (s : State) (r : Rail) (h : (s.rail r).seq.state = .waiting)
    (hh : (s.rail r).seq.held = false) : s.stepEffect r = s.startSweep r := by
  simp only [State.stepEffect, h, hh, Bool.false_eq_true, if_false]

theorem State.startSweep_fails (s : State) (r : Rail) (h : s.checkPasses r = false) :
    s.startSweep r = (s.raiseReport (.sequencer r) .planFault (.rail r)).countUntested r := by
  simp [State.startSweep, h]

/-- A shot of the list fired. -/
theorem State.fireShot_eq (s : State) (r : Rail) (i : Nat) (d : ShotDesc) (h : (Plan.shots s.plan r)[i]? = some d) :
    s.fireShot r i = s.modRail r fun b =>
      { b with shot := some (s.latchShot r i d),
               seq := { b.seq with state := .shot, shotSeq := (s.latchShot r i d).seq },
               link := { b.link with endTimer := some ((s.latchShot r i d).listen + 80 * (s.latchShot r i d).endAllowance),
                                     sent := b.link.sent ++ [fireFrame (s.latchShot r i d)] } } := by
  unfold State.fireShot
  rw [h]
  rfl

/-- The place of a progress event in the stream once its sweep step has left the state `w`. -/
def State.stepLeaves (w : State) (r : Rail) (t p : Nat) (taken : Bool) (rest : List SeqNotice) : State :=
  w.putNotices r (if w.surveyDue r t && !taken then .progress t p true false :: rest else rest)

theorem exec_sweepStep (r : Rail) (strikes : List Strike) (t p : Nat) (taken : Bool) (rest : List SeqNotice) (s : State)
    (h : (s.rail r).seq.notices = .progress t p false taken :: rest) :
    exec (.sweepStep r strikes) s = .next (((s.strike strikes).sweepStep r t).stepLeaves r t p taken rest) := by
  show execSweepStep r strikes s = _
  unfold execSweepStep
  rw [h]
  rfl

theorem State.stepLeaves_eq (u w : State) (r : Rail) (t p : Nat) (taken : Bool) (rest : List SeqNotice)
    (hp : w.plans.active = u.plans.active) (hm : (w.rail r).seq.surveyMark = (u.rail r).seq.surveyMark) :
    w.stepLeaves r t p taken rest =
      w.putNotices r (if u.surveyDue r t && !taken then .progress t p true false :: rest else rest) := by
  have e : w.surveyDue r t = u.surveyDue r t := by simp only [State.surveyDue, State.inForce, State.plan, hp, hm]
  rw [State.stepLeaves, e]

theorem State.surveyDue_of_not_inForce (s : State) (r : Rail) (t : Nat) (h : s.inForce = false) :
    s.surveyDue r t = false := by
  simp [State.surveyDue, h]

/-! ## The FIRE frame (R52, R187) -/

/-- The four bytes of a firing. -/
def Firing.place (f : Firing) : List Byte := le8 f.element ++ le8 f.channel ++ le8 f.desc.gain ++ le8 f.desc.energy

theorem Firing.place_length (f : Firing) : f.place.length = 4 := rfl

/-- The block of an item in a list of blocks of one length. -/
theorem take_drop_flatMap {α β : Type} (f : α → List β) (n : Nat) (hf : ∀ a, (f a).length = n) (xs : List α) (i : Nat)
    (a : α) (h : xs[i]? = some a) (rest : List β) : ((xs.flatMap f ++ rest).drop (n * i)).take n = f a := by
  induction xs generalizing i with
  | nil => simp at h
  | cons x xs ih =>
    rw [List.flatMap_cons, List.append_assoc]
    cases i with
    | zero =>
      have hx : x = a := by simpa using h
      rw [← hx, Nat.mul_zero, List.drop_zero, ← hf x, List.take_left']
      rfl
    | succ i =>
      have e : n * (i + 1) = (f x).length + n * i := by rw [hf, Nat.mul_succ, Nat.add_comm]
      rw [e, ← List.drop_drop, List.drop_left']
      · exact ih i h
      · rfl

theorem length_flatMap_const {α β : Type} (f : α → List β) (n : Nat) (hf : ∀ a, (f a).length = n) (xs : List α) :
    (xs.flatMap f).length = n * xs.length := by
  simp [List.length_flatMap, hf, Nat.mul_comm]

/-- The FIRE frame of at most four firings: its head, a place for each, zeros in the places beyond, and the CRC. -/
theorem fireFrame_eq (x : Shot) (h : x.firings.length ≤ 4) : ∃ body : List Byte, body.length = 22 ∧
    body = le8 1 ++ [x.seq] ++ le8 x.index ++ le8 x.firings.length ++ le16 x.listen
      ++ (x.firings.flatMap Firing.place ++ List.replicate (16 - 4 * x.firings.length) 0) ∧
    fireFrame x = body ++ [(crc body >>> 8).truncate 8, (crc body).truncate 8] := by
  have hl : (x.firings.flatMap Firing.place).length = 4 * x.firings.length :=
    length_flatMap_const _ 4 Firing.place_length _
  have hfit : fitBytes 16 (x.firings.flatMap Firing.place) =
      x.firings.flatMap Firing.place ++ List.replicate (16 - 4 * x.firings.length) 0 := by
    rw [fitBytes, List.take_append, hl, List.take_of_length_le (by omega), List.take_replicate, Nat.min_eq_left (by omega)]
  refine ⟨_, ?_, rfl, ?_⟩
  · simp [hl, le8, le16]
    omega
  · rw [← hfit]
    rfl

/-! ## The latched shot (R47, R167) -/

theorem State.copies_eq (s : State) (r : Rail) (e : Nat) : s.copies r e = (s.req.snapshot.get r).any fun k =>
    k.element == e && k.capture.isNone && decide (k.sweeps < 16) := by
  unfold State.copies
  split
  · next h => rw [h]; rfl
  · next h => rw [h, Option.any_some, Snapshot.open, Bool.and_assoc]; rfl

theorem State.latchFiring_eq (s : State) (r : Rail) (listen : Nat) (f : FiringDesc) : s.latchFiring r listen f =
    { element := f.element, channel := f.channel, desc := Plan.element s.plan r f.element, frames := (listen + 63) / 64,
      received := [], damagedSeen := false, gates := f.gates.map (buildGate (s.rail r).eval.offset), copied := [],
      copying := (s.req.snapshot.get r).any fun k =>
        k.element == f.element && k.capture.isNone && decide (k.sweeps < 16) } := by
  rw [State.latchFiring, State.copies_eq]
  rfl

/-- Settles O24. -/
theorem sweepStepSweepsSkipsOrCounts : Obligations.SweepStepSweepsSkipsOrCounts := by
  refine ⟨fun r strikes t p taken rest s h hf => ?_, fun r strikes t p taken rest s h hf => ?_, fun x hx => ?_,
    fun r index d s => ?_⟩
  · intro u q left stepped untested does
    have uf : u.inForce = true := (s.strike_inForce strikes).trans hf
    have uq : (u.rail r).seq = q := s.strike_seq strikes r
    have row : ∀ w : State, u.sweepStep r t = w → w.plans.active = u.plans.active →
        (w.rail r).seq.surveyMark = (u.rail r).seq.surveyMark → does (w.putNotices r left) := by
      rintro w rfl hp hm
      exact (exec_sweepStep r strikes t p taken rest s h).trans (congrArg _ (u.stepLeaves_eq _ r t p taken rest hp hm))
    clear_value u left
    have vq : ((u.stepReported r t).rail r).seq = { q with nextMark := min Config.maxU32 (t + Plan.step u.plan r) } := by
      rw [State.stepReported_seq, uq]
    have reached : q.nextMark ≤ t → u.sweepStep r t = (u.stepReported r t).stepEffect r := fun hm =>
      u.sweepStep_reached r t uf (uq ▸ hm)
    refine ⟨fun hm => ?_, fun hm hs => ?_, fun hm hs hh => ?_, fun hm hs hh => ?_, fun hm hs hh hc => ?_,
      fun hm hs hh hc d hd => ?_⟩
    · exact row u (if_neg fun k => absurd k.2 (by rw [uq]; omega)) rfl rfl
    all_goals
      have counted (f : SurveyCounters → SurveyCounters) :
          ((u.stepReported r t).count r f).putNotices r left = stepped f := by
        rw [State.putNotices, State.count, State.stepReported, State.modSeq_modPlans, State.modSeq_modPlans,
          State.modSeq_modSeq, State.modSeq_modSeq]
    · have k := row _ ((reached hm).trans (State.stepEffect_closed _ r (by rw [vq]; exact hs))) rfl (by cases r <;> rfl)
      rwa [State.countUntested, counted] at k
    · have k := row _ ((reached hm).trans (State.stepEffect_held _ r (by rw [vq]; exact hs) (by rw [vq]; exact hh))) rfl
        (by cases r <;> rfl)
      rwa [State.countUntested, counted] at k
    · have k := row _ ((reached hm).trans (State.stepEffect_shot _ r (by rw [vq]; exact hs) (by rw [vq]; exact hh))) rfl
        (by cases r <;> rfl)
      rwa [State.putNotices_raiseReport, counted] at k
    · have k := row _ ((reached hm).trans ((State.stepEffect_waiting _ r (by rw [vq]; exact hs)
        (by rw [vq]; exact hh)).trans (State.startSweep_fails _ r hc))) rfl (by cases r <;> rfl)
      rwa [State.countUntested, State.count_raiseReport, State.putNotices_raiseReport, counted] at k
    · have k := row _ ((reached hm).trans ((State.stepEffect_waiting _ r (by rw [vq]; exact hs)
        (by rw [vq]; exact hh)).trans ((if_pos hc).trans (State.fireShot_eq _ r 0 d hd)))) rfl (by cases r <;> rfl)
      have hx : (u.stepReported r t).latchShot r 0 d = u.latchShot r 0 d := by cases r <;> rfl
      rw [hx] at k
      intro x
      simp only [State.putNotices, State.stepReported, State.modSeq, State.modRail_modPlans, State.modRail_modRail] at k
      simp only [stepped, State.modSeq, State.modRail_modPlans, State.modRail_modRail]
      exact k
  · rw [exec_sweepStep r strikes t p taken rest s h]
    have uf : (s.strike strikes).inForce = false := (s.strike_inForce strikes).trans hf
    have below : (s.strike strikes).sweepStep r t = s.strike strikes := if_neg (by simp [uf])
    rw [below, State.stepLeaves, State.surveyDue_of_not_inForce _ r t uf]
    rfl
  · obtain ⟨body, hb, hbody, hframe⟩ := fireFrame_eq x hx
    intro frame at_ check
    have hfr : frame = body ++ [(crc body >>> 8).truncate 8, (crc body).truncate 8] := hframe
    have inBody : ∀ o n, o + n ≤ 22 → at_ o n = ((body.drop o).take n).map BitVec.toNat := fun o n hon => by
      simp only [at_, hfr]
      rw [List.drop_append_of_le_length (by omega), List.take_append_of_le_length (by simp; omega)]
    have places : ∀ o, (body.drop (6 + o)) =
        ((x.firings.flatMap Firing.place ++ List.replicate (16 - 4 * x.firings.length) 0).drop o) := fun o => by
      rw [hbody, ← List.drop_drop]
      rfl
    refine ⟨?_, ?_, fun i f hi => ?_, fun o ho ho' => ?_, ?_⟩
    · simp [hfr, hb]
    · have count : x.firings.length % 256 = x.firings.length := Nat.mod_eq_of_lt (by omega)
      rw [inBody 0 6 (by omega), hbody]
      simp [le8, le16, count]
    · have hlt : i < x.firings.length := (List.getElem?_eq_some_iff.mp hi).1
      rw [inBody _ _ (by omega), places, take_drop_flatMap Firing.place 4 Firing.place_length _ i f hi]
      simp [Firing.place, le8]
    · have hl : (x.firings.flatMap Firing.place).length = 4 * x.firings.length :=
        length_flatMap_const _ 4 Firing.place_length _
      have hz : (body.drop (6 + (o - 6)))[0]? = some 0 := by
        rw [places, List.getElem?_drop, List.getElem?_append_right (by omega), List.getElem?_replicate, if_pos (by omega)]
      rw [List.getElem?_drop] at hz
      rw [hfr, List.getD_eq_getElem?_getD, List.getElem?_append_left (by omega), show o = 6 + (o - 6) + 0 by omega, hz]
      rfl
    · have htake : frame.take 22 = body := by rw [hfr, List.take_left' hb]
      have hlt : (crc body).toNat < 65536 := (crc body).isLt
      simp only [at_, check, htake]
      rw [hfr, List.drop_left' hb]
      simp [Nat.shiftRight_eq_div_pow]
      omega
  · have hfirings : s.latchFiring r d.listen = _ := funext (s.latchFiring_eq r d.listen)
    rw [State.latchShot, hfirings]
    rfl

end Sys2Proof.Machine
end

section
/-! PROOFS. What the assembler does with each of its items (O40). -/

namespace Sys2Proof.Machine

/-! ## The assembly list (R113, R116) -/

theorem insertEntry_eq (e : Entry) (list : List Entry) : insertEntry e list =
    list.takeWhile (fun v => decide (v.xMin ≤ e.xMin)) ++ e :: list.dropWhile (fun v => decide (v.xMin ≤ e.xMin)) := by
  induction list with
  | nil => rfl
  | cons v vs ih =>
    by_cases h : v.xMin ≤ e.xMin
    · simp [insertEntry, h, ih]
    · simp [insertEntry, h]

/-- The entry at index `i` is before every other of the list: by its T_join, then by x_min, then by its place. -/
def earliestAt (list : List Entry) (i : Nat) (v : Entry) : Prop :=
  list[i]? = some v ∧ ∀ (j : Nat) w, list[j]? = some w → j ≠ i → v.tJoin < w.tJoin ∨ (v.tJoin = w.tJoin ∧
    (v.xMin < w.xMin ∨ (v.xMin = w.xMin ∧ i < j)))

theorem earliest_mem {list : List Entry} {f : Entry} (h : earliest list = some f) : f ∈ list := by
  induction list generalizing f with
  | nil => cases h
  | cons e es ih =>
    unfold earliest at h
    split at h
    · simp_all
    · next g hg =>
      split at h <;> cases h
      · exact List.mem_cons_of_mem e (ih hg)
      · exact List.mem_cons_self

theorem earliest_of_earliestAt (list : List Entry) (i : Nat) (v : Entry) (h : earliestAt list i v) :
    earliest list = some v := by
  obtain ⟨hv, hmin⟩ := h
  induction list generalizing i with
  | nil => simp at hv
  | cons e es ih =>
    cases i with
    | zero =>
      have he : e = v := by simpa using hv
      subst he
      unfold earliest
      split
      · rfl
      · next f hf =>
        obtain ⟨j, hj⟩ := List.mem_iff_getElem?.mp (earliest_mem hf)
        have := hmin (j + 1) f (by simpa using hj) (by omega)
        rw [if_neg (by omega)]
    | succ i =>
      have hes : earliest es = some v := by
        refine ih i (by simpa using hv) fun j w hj hne => ?_
        have := hmin (j + 1) w (by simpa using hj) (by omega)
        omega
      have := hmin 0 e rfl (by omega)
      unfold earliest
      rw [hes]
      exact if_pos (by omega)

/-! ## The items of the assembler -/

theorem State.pathOpen_busy (s : State) (r : Rail) (item : PathItem) (job : Job) (h : (s.rail r).asm.job = some job) :
    s.pathOpen r item = false := by
  simp [State.pathOpen, State.assemblerFree, h]

theorem exec_trackSummary (s : State) (r : Rail) (k : Track) (rest : List PathItem)
    (h : (s.rail r).trk.path = .summary k :: rest) :
    exec (.trackSummary r) s = .next (if s.pathOpen r (.summary k) then (s.putPath r rest).takeSummary r k else s) := by
  show execTrackSummary r s = _
  unfold execTrackSummary
  rw [h]

theorem exec_flushMarker (s : State) (r : Rail) (m : FlushMark) (rest : List PathItem)
    (h : (s.rail r).trk.path = .marker m :: rest) :
    exec (.flushMarker r) s = .next (if s.pathOpen r (.marker m) then (s.putPath r rest).takeMarker r m else s) := by
  show execFlushMarker r s = _
  unfold execFlushMarker
  rw [h]

/-- While a mark request is in hand the assembler takes none of its other items. -/
theorem exec_assembler_busy (s : State) (r : Rail) (job : Job) (h : (s.rail r).asm.job = some job) (c : Instr)
    (hc : c ∈ [Instr.trackSummary r, .flushMarker r, .horizonFinalize r, .stopBegunNotice r, .assemblyPlanEnded r]) :
    exec c s = .next s := by
  have closed : s.assemblerFree r = false := by simp [State.assemblerFree, h]
  simp only [List.mem_cons, List.not_mem_nil, or_false] at hc
  rcases hc with rfl | rfl | rfl | rfl | rfl <;> refine congrArg Host.Outcome.next ?_ <;> split
  · next k rest hp => exact if_neg (by rw [s.pathOpen_busy r _ job h]; exact Bool.false_ne_true)
  · rfl
  · next m rest hp => exact if_neg (by rw [s.pathOpen_busy r _ job h]; exact Bool.false_ne_true)
  · rfl
  · exact if_neg (by rw [closed]; exact Bool.false_ne_true)
  · rfl
  · exact if_neg (by rw [closed]; exact Bool.false_ne_true)
  · rfl
  · exact if_neg (by rw [closed]; exact Bool.false_ne_true)
  · rfl

/-! ## A summary taken (R116) -/

theorem State.takeSummary_ended (s : State) (r : Rail) (k : Track) (rest : List PathItem) (hf : s.inForce = false) :
    (s.putPath r rest).takeSummary r k = State.runJob r .nothing [(k.entry (s.rail r).asm.arrivals s.pos.t, .planEnded)]
      ((s.modTrk r fun x => { x with path := rest }).modAsm r fun a => { a with arrivals := a.arrivals + 1 }) := by
  have ended : ((s.putPath r rest).modAsm r fun a => { a with arrivals := a.arrivals + 1 }).inForce = false := hf
  unfold State.takeSummary
  simp only [ended, Bool.false_eq_true, if_false]
  cases r <;> rfl

theorem State.takeSummary_apart (s : State) (r : Rail) (k : Track) (rest : List PathItem) (hf : s.inForce = true)
    (h : (s.rail r).asm.list.any (fun v => (k.entry (s.rail r).asm.arrivals s.pos.t).overlaps v (Plan.marginA s.plan r)
      (Plan.marginD s.plan r)) = false) :
    (s.putPath r rest).takeSummary r k =
      ((s.modTrk r fun x => { x with path := rest }).modAsm r fun a => { a with arrivals := a.arrivals + 1 }).arriveAlone r
        (k.entry (s.rail r).asm.arrivals s.pos.t) := by
  have ruled : ((s.putPath r rest).modAsm r fun a => { a with arrivals := a.arrivals + 1 }).inForce = true := hf
  unfold State.takeSummary
  simp only [ruled, if_true]
  have harr : ((s.putPath r rest).rail r).asm.arrivals = (s.rail r).asm.arrivals := by cases r <;> rfl
  have hlist : (((s.putPath r rest).modAsm r fun a => { a with arrivals := a.arrivals + 1 }).rail r).asm.list =
      (s.rail r).asm.list := by cases r <;> rfl
  unfold State.arrive
  rw [harr, hlist]
  exact if_neg fun k => Bool.false_ne_true (h.symm.trans k)

theorem State.arriveAlone_room (s : State) (r : Rail) (e : Entry) (h : (s.rail r).asm.list.length < 16) :
    s.arriveAlone r e = s.modAsm r fun a => { a with list := insertEntry e a.list } :=
  if_pos h

theorem flagEarlyEntry_eq (v : Entry) (list : List Entry) :
    flagEarlyEntry v list = list.map fun w => if w = v then { v with flags := v.flags ||| flagEarly } else w := by
  refine List.map_congr_left fun w _ => ?_
  by_cases h : w = v
  · rw [if_pos h, if_pos h, h]
  · rw [if_neg h, if_neg h]

theorem State.arriveAlone_full (s : State) (r : Rail) (e v : Entry) (h : 16 ≤ (s.rail r).asm.list.length)
    (hv : earliest (s.rail r).asm.list = some v) : s.arriveAlone r e =
      State.runJob r (.insert e) [({ v with flags := v.flags ||| flagEarly }, .early)]
        (s.modAsm r fun a => { a with list := flagEarlyEntry v a.list }) := by
  have full : ¬ (s.rail r).asm.list.length < Config.assemblyEntries := not_lt.mpr h
  unfold State.arriveAlone
  simp only [full, if_false, hv]

/-- Settles O40. -/
theorem assemblerTakesItsItems : Obligations.AssemblerTakesItsItems := by
  intro r s list path
  refine ⟨fun job hj => ⟨exec_assembler_busy s r job hj, fun status hs => ?_⟩, fun hj => ?_⟩
  · show Host.Outcome.next (s.takeAnswer r) = _
    unfold State.takeAnswer
    rw [hj]
    dsimp only
    rw [hs]
    dsimp only
    rw [State.endFinal, State.offer_eq_offered]
    rfl
  have free : s.assemblerFree r = true := by simp [State.assemblerFree, hj]
  refine ⟨fun k rest hp => ?_, fun m rest hp => ⟨fun hb hf hl => ?_, fun hopen => ?_⟩, fun t p rest hn => ?_,
    fun rest ho => ?_, fun rest ho => ?_⟩
  · intro x e u
    have row := exec_trackSummary s r k rest hp
    have he : k.entry (s.rail r).asm.arrivals s.pos.t = e := rfl
    refine ⟨fun hf => ?_, fun hf hno => ?_⟩
    · have opened : s.pathOpen r (.summary k) = true := (s.pathOpen_iff r _).mpr ⟨hj, fun _ => by
        simp [State.buildsUnderPlan, hf]⟩
      rw [row, if_pos opened, s.takeSummary_ended r k rest hf, he]
    · have apart : list.any (fun v => e.overlaps v (Plan.marginA s.plan r) (Plan.marginD s.plan r)) = false :=
        List.any_eq_false.mpr fun v hv => by rw [hno v hv]; exact Bool.false_ne_true
      have builds : s.buildsUnderPlan r (.summary k) = decide (16 ≤ list.length) := by
        simp only [State.buildsUnderPlan, he, hf]
        rw [show (s.rail r).asm.list = list from rfl, apart]
        simp only [Bool.true_and, Bool.not_false, Bool.and_true]
        rfl
      have alone := s.takeSummary_apart r k rest hf (he ▸ apart)
      rw [he] at alone
      refine ⟨fun hl => ?_, fun hl hb => ?_, fun hl hb i v hv hmin => ?_⟩
      · have opened : s.pathOpen r (.summary k) = true := (s.pathOpen_iff r _).mpr ⟨hj, fun _ => by
          simp [builds, hl]⟩
        rw [row, if_pos opened, alone, u.arriveAlone_room r e (by cases r <;> exact hl)]
        simp only [insertEntry_eq]
        cases r <;> rfl
      · have closed : ¬ s.pathOpen r (.summary k) = true := fun ho => by
          have := ((s.pathOpen_iff r _).mp ho).2 hb
          simp [builds, hl] at this
        rw [row, if_neg closed]
      · have opened : s.pathOpen r (.summary k) = true := (s.pathOpen_iff r _).mpr ⟨hj, fun h => absurd h hb⟩
        intro early
        rw [row, if_pos opened, alone, u.arriveAlone_full r e v (by cases r <;> exact hl) ?_]
        · simp only [flagEarlyEntry_eq]
          cases r <;> rfl
        · cases r <;> exact earliest_of_earliestAt list i v ⟨hv, hmin⟩
  · have closed : ¬ s.pathOpen r (.marker m) = true := fun ho => by
      have := ((s.pathOpen_iff r _).mp ho).2 hb
      simp [State.buildsUnderPlan, hf] at this
      exact hl this
    rw [exec_flushMarker s r m rest hp, if_neg closed]
  · have opened : s.pathOpen r (.marker m) = true := (s.pathOpen_iff r _).mpr ⟨hj, fun hb => by
      cases hf : s.inForce
      · simp [State.buildsUnderPlan, hf]
      · simp [State.buildsUnderPlan, show (s.rail r).asm.list = [] from hopen hb hf]⟩
    rw [exec_flushMarker s r m rest hp, if_pos opened]
    cases r <;> rfl
  · show execHorizonFinalize r s = _
    unfold execHorizonFinalize
    rw [hn]
    exact congrArg Host.Outcome.next (if_pos free)
  · show execStopBegunNotice r s = _
    unfold execStopBegunNotice
    rw [ho]
    refine congrArg Host.Outcome.next ((if_pos free).trans ?_)
    cases r <;> rfl
  · show execAssemblyPlanEnded r s = _
    unfold execAssemblyPlanEnded
    rw [ho]
    refine congrArg Host.Outcome.next ((if_pos free).trans ?_)
    rw [State.endEntries]
    cases r <;> rfl

end Sys2Proof.Machine
end

section
/-! PROOFS. Where the parts of a plan lie (R186), and the order in which its counts are followed (R22). -/

namespace Sys2Proof.Machine

/-! ## Items laid out one behind the other -/

/-- The items of a list lie one behind the other from an offset on, each as long as its size. -/
def laidOut {α : Type} (place size : α → Nat) : Nat → List α → Prop
  | _, [] => True
  | off, x :: xs => place x = off ∧ laidOut place size (off + size x) xs

theorem laidOut_append {α : Type} (place size : α → Nat) (off : Nat) (xs ys : List α) :
    laidOut place size off (xs ++ ys) ↔ laidOut place size off xs ∧ laidOut place size (off + (xs.map size).sum) ys := by
  induction xs generalizing off with
  | nil => simp [laidOut]
  | cons x xs ih => simp [laidOut, ih, and_assoc, Nat.add_assoc]

theorem laidOut_getElem? {α : Type} (place size : α → Nat) (off : Nat) (xs : List α) (h : laidOut place size off xs)
    (i : Nat) (x : α) (hi : xs[i]? = some x) : place x = off + ((xs.take i).map size).sum := by
  induction xs generalizing off i with
  | nil => simp at hi
  | cons y ys ih =>
    obtain ⟨hy, hys⟩ := h
    cases i with
    | zero =>
      have e : y = x := by simpa using hi
      simp [← e, hy]
    | succ i => rw [ih _ hys i (by simpa using hi), List.take_succ_cons, List.map_cons, List.sum_cons, Nat.add_assoc]

theorem laidOut_range {α : Type} (place size : α → Nat) (d b : Nat) (f : Nat → α) (hp : ∀ i, place (f i) = b + d * i)
    (hs : ∀ i, size (f i) = d) (n : Nat) : laidOut place size b ((List.range n).map f) := by
  induction n with
  | zero => trivial
  | succ n ih =>
    rw [List.range_succ, List.map_append, laidOut_append]
    have e : (List.map size (List.map f (List.range n))).sum = d * n := by
      simp [Function.comp_def, hs, Nat.mul_comm]
    exact ⟨ih, by rw [e]; exact hp n, trivial⟩

/-! ## Gates, firings and shots (R186) -/

/-- The firing that a plan gives at an offset. -/
def Plan.firingAt (c : List Byte) (off : Nat) : FiringDesc :=
  { offset := off, element := byteAt c off, channel := byteAt c (off + 1),
    gates := (List.range (byteAt c (off + 2))).map fun k => Plan.gateAt c (off + 4 + 8 * k) }

/-- The shot that a plan gives at an offset. -/
def Plan.shotAt (c : List Byte) (off : Nat) : ShotDesc :=
  { offset := off, listen := u16At c off, firings := (Plan.firingsAt c (byteAt c (off + 2)) (off + 4)).1 }

theorem Plan.firingAt_bytes (c : List Byte) (off : Nat) : (Plan.firingAt c off).bytes = 4 + 8 * byteAt c (off + 2) := by
  simp [FiringDesc.bytes, Plan.firingAt]

theorem Plan.firingsAt_succ (c : List Byte) (n off : Nat) : Plan.firingsAt c (n + 1) off =
    (Plan.firingAt c off :: (Plan.firingsAt c n (off + (Plan.firingAt c off).bytes)).1,
      (Plan.firingsAt c n (off + (Plan.firingAt c off).bytes)).2) := by
  rw [Plan.firingAt_bytes, ← Nat.add_assoc]
  rfl

theorem Plan.firingsAt_length (c : List Byte) (n off : Nat) : (Plan.firingsAt c n off).1.length = n := by
  induction n generalizing off with
  | zero => rfl
  | succ n ih => rw [Plan.firingsAt_succ, List.length_cons, ih]

theorem Plan.firingsAt_end (c : List Byte) (n off : Nat) :
    (Plan.firingsAt c n off).2 = off + ((Plan.firingsAt c n off).1.map FiringDesc.bytes).sum := by
  induction n generalizing off with
  | zero => rfl
  | succ n ih => rw [Plan.firingsAt_succ, ih, List.map_cons, List.sum_cons, Nat.add_assoc]

theorem Plan.firingsAt_laidOut (c : List Byte) (n off : Nat) :
    laidOut FiringDesc.offset FiringDesc.bytes off (Plan.firingsAt c n off).1 := by
  induction n generalizing off with
  | zero => trivial
  | succ n ih =>
    rw [Plan.firingsAt_succ]
    exact ⟨rfl, ih _⟩

theorem Plan.firingsAt_mem (c : List Byte) (n off : Nat) (f : FiringDesc) (h : f ∈ (Plan.firingsAt c n off).1) :
    f = Plan.firingAt c f.offset := by
  induction n generalizing off with
  | zero => cases h
  | succ n ih =>
    rw [Plan.firingsAt_succ] at h
    rcases List.mem_cons.mp h with rfl | h
    · rfl
    · exact ih _ h

theorem Plan.shotAt_bytes (c : List Byte) (off : Nat) :
    off + (Plan.shotAt c off).bytes = (Plan.firingsAt c (byteAt c (off + 2)) (off + 4)).2 := by
  rw [Plan.firingsAt_end, ShotDesc.bytes, ← Nat.add_assoc]
  rfl

theorem Plan.shotsAt_succ (c : List Byte) (n off : Nat) : Plan.shotsAt c (n + 1) off =
    (Plan.shotAt c off :: (Plan.shotsAt c n (off + (Plan.shotAt c off).bytes)).1,
      (Plan.shotsAt c n (off + (Plan.shotAt c off).bytes)).2) := by
  rw [Plan.shotAt_bytes]
  rfl

theorem Plan.shotsAt_length (c : List Byte) (n off : Nat) : (Plan.shotsAt c n off).1.length = n := by
  induction n generalizing off with
  | zero => rfl
  | succ n ih => rw [Plan.shotsAt_succ, List.length_cons, ih]

theorem Plan.shotsAt_end (c : List Byte) (n off : Nat) :
    (Plan.shotsAt c n off).2 = off + ((Plan.shotsAt c n off).1.map ShotDesc.bytes).sum := by
  induction n generalizing off with
  | zero => rfl
  | succ n ih => rw [Plan.shotsAt_succ, ih, List.map_cons, List.sum_cons, Nat.add_assoc]

theorem Plan.shotsAt_laidOut (c : List Byte) (n off : Nat) :
    laidOut ShotDesc.offset ShotDesc.bytes off (Plan.shotsAt c n off).1 := by
  induction n generalizing off with
  | zero => trivial
  | succ n ih =>
    rw [Plan.shotsAt_succ]
    exact ⟨rfl, ih _⟩

theorem Plan.shotsAt_mem (c : List Byte) (n off : Nat) (s : ShotDesc) (h : s ∈ (Plan.shotsAt c n off).1) :
    s = Plan.shotAt c s.offset := by
  induction n generalizing off with
  | zero => cases h
  | succ n ih =>
    rw [Plan.shotsAt_succ] at h
    rcases List.mem_cons.mp h with rfl | h
    · rfl
    · exact ih _ h

/-- The shots of both rails are those counted from the end of the rules on. -/
theorem Plan.shotsAt_add (c : List Byte) (m n off : Nat) : Plan.shotsAt c (m + n) off =
    ((Plan.shotsAt c m off).1 ++ (Plan.shotsAt c n (Plan.shotsAt c m off).2).1,
      (Plan.shotsAt c n (Plan.shotsAt c m off).2).2) := by
  induction m generalizing off with
  | zero => rw [Nat.zero_add]; rfl
  | succ m ih => rw [Nat.succ_add, Plan.shotsAt_succ, ih, Plan.shotsAt_succ]; rfl

theorem Plan.allShots_eq (c : List Byte) :
    Plan.shotsAt c (byteAt c 13 + byteAt c 14) (Plan.shotsBase c) = (Plan.allShots c, (Plan.shotsB c).2) :=
  Plan.shotsAt_add c _ _ _

theorem Plan.allShots_laidOut (c : List Byte) :
    laidOut ShotDesc.offset ShotDesc.bytes (704 + 32 * byteAt c 15) (Plan.allShots c) := by
  have h := Plan.shotsAt_laidOut c (byteAt c 13 + byteAt c 14) (Plan.shotsBase c)
  rwa [Plan.allShots_eq] at h

theorem Plan.allShots_mem (c : List Byte) (s : ShotDesc) (h : s ∈ Plan.allShots c) : s = Plan.shotAt c s.offset := by
  refine Plan.shotsAt_mem c (byteAt c 13 + byteAt c 14) (Plan.shotsBase c) s ?_
  rwa [Plan.allShots_eq]

theorem Plan.size_eq (c : List Byte) : (Plan.shotsB c).2 = Plan.size c := by
  have h := Plan.shotsAt_end c (byteAt c 13 + byteAt c 14) (Plan.shotsBase c)
  rwa [Plan.allShots_eq] at h

theorem Plan.shotAt_firings_mem (c : List Byte) (off : Nat) (f : FiringDesc) (h : f ∈ (Plan.shotAt c off).firings) :
    f = Plan.firingAt c f.offset := Plan.firingsAt_mem c _ _ f h

theorem Plan.shotAt_laidOut (c : List Byte) (off : Nat) :
    laidOut FiringDesc.offset FiringDesc.bytes (off + 4) (Plan.shotAt c off).firings := Plan.firingsAt_laidOut c _ _

/-- A gate with the eight bytes it takes. -/
theorem Plan.firingAt_laidOut (c : List Byte) (off : Nat) :
    laidOut GateDesc.offset (fun _ => 8) (off + 4) (Plan.firingAt c off).gates :=
  laidOut_range _ _ 8 (off + 4) (fun k => Plan.gateAt c (off + 4 + 8 * k)) (fun _ => rfl) (fun _ => rfl) _

theorem Plan.firingAt_gates_mem (c : List Byte) (off : Nat) (g : GateDesc) (h : g ∈ (Plan.firingAt c off).gates) :
    g = Plan.gateAt c g.offset := by
  obtain ⟨k, _, rfl⟩ := List.mem_map.mp h
  rfl

/-! ## The counts followed (R22) -/

/-- A count of a plan, by its place and the part ends that following it gives. -/
def FiringDesc.step (f : FiringDesc) : Nat × List Nat := (f.offset + 2, (f.offset + 4) :: f.gates.map fun g => g.offset + 8)

/-- The counts of a shot: its firing count and the gate counts of its firings. -/
def ShotDesc.steps (s : ShotDesc) : List (Nat × List Nat) := (s.offset + 2, [s.offset + 4]) :: s.firings.map FiringDesc.step

/-- Counts followed one after the other, the plan ending at `fin` behind the last. -/
def walkSteps (c : List Byte) (len fin : Nat) : List (Nat × List Nat) → List Nat → Walk
  | [], ends => .reaches fin ends
  | x :: xs, ends =>
    if len ≤ x.1 then .fails (lastComplete len ends)
    else if byteAt c x.1 < 1 ∨ 4 < byteAt c x.1 then .fails x.1
    else walkSteps c len fin xs (ends ++ x.2)

theorem walkSteps_append (c : List Byte) (len fin mid : Nat) (xs ys : List (Nat × List Nat)) (ends : List Nat) :
    walkSteps c len fin (xs ++ ys) ends = match walkSteps c len mid xs ends with
      | .fails o => .fails o
      | .reaches _ ends' => walkSteps c len fin ys ends' := by
  induction xs generalizing ends with
  | nil => rfl
  | cons x xs ih =>
    rw [List.cons_append, walkSteps, walkSteps]
    split
    · rfl
    · split
      · rfl
      · exact ih _

theorem walkSteps_reaches {c : List Byte} {len fin off : Nat} {xs : List (Nat × List Nat)} {ends ends' : List Nat}
    (h : walkSteps c len fin xs ends = .reaches off ends') : off = fin := by
  induction xs generalizing ends with
  | nil =>
    cases h
    rfl
  | cons x xs ih =>
    rw [walkSteps] at h
    split at h
    · cases h
    · split at h
      · cases h
      · exact ih h

theorem Plan.firingAt_step (c : List Byte) (off : Nat) : (Plan.firingAt c off).step =
    (off + 2, (List.range (byteAt c (off + 2) + 1)).map fun k => off + 4 + 8 * k) := by
  rw [List.range_succ_eq_map, List.map_cons, List.map_map]
  simp only [FiringDesc.step, Plan.firingAt, List.map_map]
  rfl

theorem walkFirings_eq (c : List Byte) (len n off : Nat) (ends : List Nat) : walkFirings c len n off ends =
    walkSteps c len (Plan.firingsAt c n off).2 ((Plan.firingsAt c n off).1.map FiringDesc.step) ends := by
  induction n generalizing off ends with
  | zero => rfl
  | succ n ih =>
    rw [Plan.firingsAt_succ, List.map_cons, Plan.firingAt_step, walkSteps, walkFirings, Plan.firingAt_bytes, ← Nat.add_assoc]
    exact if_congr Iff.rfl rfl (if_congr Iff.rfl rfl (ih _ _))

theorem walkShots_eq (c : List Byte) (len n off : Nat) (ends : List Nat) : walkShots c len n off ends =
    walkSteps c len (Plan.shotsAt c n off).2 ((Plan.shotsAt c n off).1.flatMap ShotDesc.steps) ends := by
  induction n generalizing off ends with
  | zero => rfl
  | succ n ih =>
    rw [Plan.shotsAt_succ, List.flatMap_cons, ShotDesc.steps, List.cons_append, walkSteps, walkShots,
      walkSteps_append _ _ _ (Plan.firingsAt c (byteAt c (off + 2)) (off + 4)).2]
    refine if_congr Iff.rfl rfl (if_congr Iff.rfl rfl ?_)
    rw [walkFirings_eq, Plan.shotAt_bytes]
    have firings : walkSteps c len (Plan.firingsAt c (byteAt c (off + 2)) (off + 4)).2
        ((Plan.shotAt c off).firings.map FiringDesc.step) (ends ++ [(Plan.shotAt c off).offset + 4]) =
        walkSteps c len (Plan.firingsAt c (byteAt c (off + 2)) (off + 4)).2
          ((Plan.firingsAt c (byteAt c (off + 2)) (off + 4)).1.map FiringDesc.step) (ends ++ [off + 4]) := rfl
    rw [firings]
    cases hw : walkSteps c len (Plan.firingsAt c (byteAt c (off + 2)) (off + 4)).2
        ((Plan.firingsAt c (byteAt c (off + 2)) (off + 4)).1.map FiringDesc.step) (ends ++ [off + 4]) with
    | fails o => rfl
    | reaches off' ends' =>
      obtain rfl := walkSteps_reaches hw
      exact ih _ _

/-- The first count that lies beyond the length or outside 1..4 ends the walk. -/
theorem walkSteps_fails (c : List Byte) (len fin : Nat) (xs : List (Nat × List Nat)) (ends : List Nat) (i : Nat)
    (x : Nat × List Nat) (hi : xs[i]? = some x) (hx : len ≤ x.1 ∨ byteAt c x.1 = 0 ∨ 4 < byteAt c x.1)
    (hbefore : ∀ (j : Nat) y, j < i → xs[j]? = some y → ¬ (len ≤ y.1 ∨ byteAt c y.1 = 0 ∨ 4 < byteAt c y.1)) :
    walkSteps c len fin xs ends =
      .fails (if len ≤ x.1 then lastComplete len (ends ++ (xs.take i).flatMap Prod.snd) else x.1) := by
  induction xs generalizing ends i with
  | nil => simp at hi
  | cons y ys ih =>
    rw [walkSteps]
    cases i with
    | zero =>
      have e : y = x := by simpa using hi
      subst e
      split
      · simp
      · rw [if_pos (by omega)]
    | succ i =>
      have hy := hbefore 0 y (Nat.succ_pos i) rfl
      rw [if_neg (by omega), if_neg (by omega),
        ih (ends ++ y.2) i (by simpa using hi) fun j z hj hz => hbefore (j + 1) z (by omega) (by simpa using hz)]
      simp [List.append_assoc]

theorem walkSteps_all (c : List Byte) (len fin : Nat) (xs : List (Nat × List Nat)) (ends : List Nat)
    (h : ∀ y ∈ xs, ¬ (len ≤ y.1 ∨ byteAt c y.1 = 0 ∨ 4 < byteAt c y.1)) :
    walkSteps c len fin xs ends = .reaches fin (ends ++ xs.flatMap Prod.snd) := by
  induction xs generalizing ends with
  | nil => simp [walkSteps]
  | cons y ys ih =>
    have hy := h y List.mem_cons_self
    rw [walkSteps, if_neg (by omega), if_neg (by omega), ih _ fun z hz => h z (List.mem_cons_of_mem y hz)]
    simp [List.append_assoc]

/-! ## The part ends and the count places (R22) -/

/-- The counts of a plan, in the order in which they are followed. -/
def Plan.steps (c : List Byte) : List (Nat × List Nat) := (Plan.allShots c).flatMap ShotDesc.steps

theorem Plan.countPlaces_eq (c : List Byte) : Plan.countPlaces c = (Plan.steps c).map Prod.fst := by
  simp [Plan.countPlaces, Plan.steps, Plan.allShots, Plan.shots, ShotDesc.steps, List.map_flatMap, List.map_append,
    Function.comp_def, FiringDesc.step]

theorem Plan.partEnds_eq (c : List Byte) : Plan.partEnds c = fixedEnds (Plan.ruleCount c) ++ (Plan.steps c).flatMap Prod.snd := by
  simp [Plan.partEnds, Plan.steps, fixedEnds, Plan.ruleCount, Plan.allShots, Plan.shots, ShotDesc.steps, List.flatMap_assoc,
    List.flatMap_map, FiringDesc.step]

theorem foldl_max_eq (xs : List Nat) (a o : Nat) (ha : a ≤ o) (h : ∀ e ∈ xs, e ≤ o) (ho : a = o ∨ o ∈ xs) :
    xs.foldl max a = o := by
  induction xs generalizing a with
  | nil => simpa using ho
  | cons x xs ih =>
    have hx := h x List.mem_cons_self
    refine ih (max a x) (max_le ha hx) (fun e he => h e (List.mem_cons_of_mem x he)) ?_
    rcases ho with rfl | ho
    · exact Or.inl (max_eq_left hx)
    · rcases List.mem_cons.mp ho with rfl | ho
      · exact Or.inl (max_eq_right ha)
      · exact Or.inr ho

theorem lastComplete_eq (len o : Nat) (ends : List Nat) (ho : o ∈ ends) (hle : o ≤ len)
    (h : ∀ e ∈ ends, e ≤ len → e ≤ o) : lastComplete len ends = o := by
  refine foldl_max_eq _ 0 o (Nat.zero_le o) (fun e he => ?_) (Or.inr ?_)
  · obtain ⟨h1, h2⟩ := List.mem_filter.mp he
    exact h e h1 (by simpa using h2)
  · exact List.mem_filter.mpr ⟨ho, by simpa using hle⟩

end Sys2Proof.Machine
end

section
/-! PROOFS. Validation (O47): the tests of each check lie in ascending order of offset and find the faults of Safety.lean, so
that the first that fails is the fault of the lowest offset. -/

namespace Sys2Proof.Machine

/-! ## Lists in ascending order within bounds -/

/-- The keys of a list ascend from `lo` on and stay below `hi`. -/
def spans {α : Type} (key : α → Nat) (lo hi : Nat) (xs : List α) : Prop :=
  lo ≤ hi ∧ (∀ x ∈ xs, lo ≤ key x ∧ key x < hi) ∧ xs.Pairwise fun x y => key x ≤ key y

theorem spans_nil {α : Type} (key : α → Nat) (lo hi : Nat) (h : lo ≤ hi) : spans key lo hi [] :=
  ⟨h, fun _ hx => absurd hx List.not_mem_nil, List.Pairwise.nil⟩

theorem spans_append {α : Type} {key : α → Nat} {lo mid hi : Nat} {xs ys : List α} (h : spans key lo mid xs)
    (k : spans key mid hi ys) : spans key lo hi (xs ++ ys) := by
  obtain ⟨h1, h2, h3⟩ := h
  obtain ⟨k1, k2, k3⟩ := k
  refine ⟨le_trans h1 k1, fun x hx => ?_, List.pairwise_append.mpr ⟨h3, k3, fun x hx y hy => ?_⟩⟩
  · rcases List.mem_append.mp hx with hx | hx
    · exact ⟨(h2 x hx).1, lt_of_lt_of_le (h2 x hx).2 k1⟩
    · exact ⟨le_trans h1 (k2 x hx).1, (k2 x hx).2⟩
  · exact le_of_lt (lt_of_lt_of_le (h2 x hx).2 (k2 y hy).1)

theorem spans_mono {α : Type} {key : α → Nat} {lo lo' hi hi' : Nat} {xs : List α} (h : spans key lo hi xs) (h1 : lo' ≤ lo)
    (h2 : hi ≤ hi') : spans key lo' hi' xs :=
  ⟨le_trans h1 (le_trans h.1 h2), fun x hx => ⟨le_trans h1 (h.2.1 x hx).1, lt_of_lt_of_le (h.2.1 x hx).2 h2⟩, h.2.2⟩

theorem spans_flatMap {α β : Type} {key : β → Nat} {place size : α → Nat} {f : α → List β} {off : Nat} {xs : List α}
    (h : laidOut place size off xs) (hf : ∀ x ∈ xs, spans key (place x) (place x + size x) (f x)) :
    spans key off (off + (xs.map size).sum) (xs.flatMap f) := by
  induction xs generalizing off with
  | nil => exact spans_nil key _ _ (by simp)
  | cons x xs ih =>
    obtain ⟨hx, hxs⟩ := h
    rw [List.flatMap_cons, List.map_cons, List.sum_cons, ← Nat.add_assoc]
    exact spans_append (hx ▸ hf x List.mem_cons_self) (ih hxs fun y hy => hf y (List.mem_cons_of_mem x hy))

theorem spans_singleton {α : Type} {key : α → Nat} {lo hi : Nat} {x : α} (h1 : lo ≤ key x) (h2 : key x < hi) :
    spans key lo hi [x] :=
  ⟨by omega, fun y hy => by rw [List.mem_singleton.mp hy]; exact ⟨h1, h2⟩, List.pairwise_singleton _ _⟩

theorem spans_map {α β : Type} {key : β → Nat} {place size : α → Nat} {f : α → β} {off : Nat} {xs : List α}
    (h : laidOut place size off xs) (hf : ∀ x ∈ xs, place x ≤ key (f x) ∧ key (f x) < place x + size x) :
    spans key off (off + (xs.map size).sum) (xs.map f) := by
  have e : xs.map f = xs.flatMap fun x => [f x] := List.map_eq_flatMap
  rw [e]
  exact spans_flatMap h fun x hx => spans_singleton (hf x hx).1 (hf x hx).2

theorem spans_range {β : Type} {key : β → Nat} (b d n : Nat) (f : Nat → List β)
    (hf : ∀ i, spans key (b + d * i) (b + d * i + d) (f i)) : spans key b (b + d * n) ((List.range n).flatMap f) := by
  induction n with
  | zero => exact spans_nil key _ _ le_rfl
  | succ n ih =>
    rw [List.range_succ, List.flatMap_append, List.flatMap_singleton]
    rw [Nat.mul_succ, ← Nat.add_assoc]
    exact spans_append ih (hf n)

/-! ## The first test that fails -/

theorem firstBad_getElem? (xs : List (Nat × Bool)) (i o : Nat) (hi : xs[i]? = some (o, false))
    (h : ∀ (j : Nat) x, j < i → xs[j]? = some x → x.2 = true) : firstBad xs = some o := by
  induction xs generalizing i with
  | nil => simp at hi
  | cons x xs ih =>
    obtain ⟨p, ok⟩ := x
    cases i with
    | zero =>
      have e : (p, ok) = (o, false) := by simpa using hi
      cases e
      rfl
    | succ i =>
      have hok : ok = true := h 0 (p, ok) (Nat.succ_pos i) rfl
      subst hok
      exact ih i (by simpa using hi) fun j y hj hy => h (j + 1) y (by omega) (by simpa using hy)

theorem firstBad_eq_none (xs : List (Nat × Bool)) (h : ∀ x ∈ xs, x.2 = true) : firstBad xs = none := by
  induction xs with
  | nil => rfl
  | cons x xs ih =>
    obtain ⟨p, ok⟩ := x
    have hok : ok = true := h (p, ok) List.mem_cons_self
    subst hok
    exact ih fun y hy => h y (List.mem_cons_of_mem _ hy)

/-- Where the offsets ascend, the first test that fails is the one of the lowest offset. -/
theorem firstBad_of_least (xs : List (Nat × Bool)) (hs : xs.Pairwise fun x y => x.1 ≤ y.1) (o : Nat) (ho : (o, false) ∈ xs)
    (h : ∀ o', (o', false) ∈ xs → o ≤ o') : firstBad xs = some o := by
  induction xs with
  | nil => cases ho
  | cons x xs ih =>
    obtain ⟨p, ok⟩ := x
    obtain ⟨hp, hxs⟩ := List.pairwise_cons.mp hs
    cases ok with
    | true =>
      have ho' : (o, false) ∈ xs := by simpa using ho
      exact ih hxs ho' fun o' hm => h o' (List.mem_cons_of_mem _ hm)
    | false =>
      have h1 : o ≤ p := h p List.mem_cons_self
      have h2 : p ≤ o := by
        rcases List.mem_cons.mp ho with e | hm
        · cases e
          exact le_rfl
        · exact hp _ hm
      exact congrArg some (le_antisymm h2 h1)

/-- The first check that finds a fault. -/
theorem firstFault_getElem? (xs : List (PlanFaultCode × List (Nat × Bool))) (i o : Nat) (code : PlanFaultCode)
    (tests : List (Nat × Bool)) (hi : xs[i]? = some (code, tests)) (ho : firstBad tests = some o)
    (h : ∀ (j : Nat) x, j < i → xs[j]? = some x → firstBad x.2 = none) : firstFault xs = (code, o) := by
  induction xs generalizing i with
  | nil => simp at hi
  | cons x xs ih =>
    cases i with
    | zero =>
      have e : x = (code, tests) := by simpa using hi
      rw [e, firstFault, ho]
    | succ i =>
      have hx := h 0 x (Nat.succ_pos i) rfl
      rw [firstFault, hx]
      exact ih i (by simpa using hi) fun j y hj hy => h (j + 1) y (by omega) (by simpa using hy)

theorem firstFault_none (xs : List (PlanFaultCode × List (Nat × Bool))) (h : ∀ x ∈ xs, firstBad x.2 = none) :
    firstFault xs = (.none, 0) := by
  induction xs with
  | nil => rfl
  | cons x xs ih =>
    rw [firstFault, h x List.mem_cons_self]
    exact ih fun y hy => h y (List.mem_cons_of_mem x hy)

/-! ## The counts in ascending order (R22) -/

theorem ShotDesc.steps_spans (c : List Byte) (s : ShotDesc) (hs : s = Plan.shotAt c s.offset) :
    spans Prod.fst s.offset (s.offset + s.bytes) s.steps := by
  have hl : laidOut FiringDesc.offset FiringDesc.bytes (s.offset + 4) s.firings := by
    rw [hs]
    exact Plan.shotAt_laidOut c s.offset
  have hf : spans Prod.fst (s.offset + 4) (s.offset + 4 + (s.firings.map FiringDesc.bytes).sum) (s.firings.map FiringDesc.step) :=
    spans_map hl fun f _ => by simp only [FiringDesc.step, FiringDesc.bytes]; omega
  have h0 : spans Prod.fst s.offset (s.offset + 4) [(s.offset + 2, [s.offset + 4])] :=
    spans_singleton (by simp) (by simp)
  exact spans_mono (spans_append h0 hf) le_rfl (by rw [ShotDesc.bytes]; omega)

theorem Plan.steps_spans (c : List Byte) : spans Prod.fst (704 + 32 * byteAt c 15) (Plan.size c) (Plan.steps c) :=
  spans_flatMap (Plan.allShots_laidOut c) fun s hs => s.steps_spans c (Plan.allShots_mem c s hs)

/-- The part ends a count gives lie behind its place. -/
theorem Plan.steps_ends (c : List Byte) (x : Nat × List Nat) (hx : x ∈ Plan.steps c) (e : Nat) (he : e ∈ x.2) : x.1 < e := by
  obtain ⟨s, hs, hx⟩ := List.mem_flatMap.mp hx
  rcases List.mem_cons.mp hx with rfl | hx
  · have := List.mem_singleton.mp he
    omega
  · obtain ⟨f, hf, rfl⟩ := List.mem_map.mp hx
    rcases List.mem_cons.mp he with rfl | he
    · simp [FiringDesc.step]
    · obtain ⟨g, hg, rfl⟩ := List.mem_map.mp he
      rw [Plan.allShots_mem c s hs] at hf
      rw [Plan.shotAt_firings_mem c _ f hf] at hg
      obtain ⟨k, _, rfl⟩ := List.mem_map.mp hg
      simp only [FiringDesc.step, Plan.gateAt]
      omega

/-- Where the walk fails for want of bytes, the parts behind the count that is not there are none of them complete. -/
theorem Plan.lastComplete_of_lastPart (c : List Byte) (len o i : Nat) (x : Nat × List Nat)
    (hi : (Plan.steps c)[i]? = some x) (hx : len ≤ x.1) (h : Plan.lastPart c len o) :
    lastComplete len (fixedEnds (Plan.ruleCount c) ++ ((Plan.steps c).take i).flatMap Prod.snd) = o := by
  obtain ⟨ho, hle, hmax⟩ := h
  rw [Plan.partEnds_eq] at ho hmax
  have split_ : (Plan.steps c).flatMap Prod.snd =
      ((Plan.steps c).take i).flatMap Prod.snd ++ ((Plan.steps c).drop i).flatMap Prod.snd := by
    rw [← List.flatMap_append, List.take_append_drop]
  have behind : ∀ e ∈ ((Plan.steps c).drop i).flatMap Prod.snd, len < e := by
    intro e he
    obtain ⟨y, hy, he⟩ := List.mem_flatMap.mp he
    have hye := Plan.steps_ends c y (List.mem_of_mem_drop hy) e he
    obtain ⟨j, hj⟩ := List.mem_iff_getElem?.mp hy
    rw [List.getElem?_drop] at hj
    have hxy : x.1 ≤ y.1 := by
      rcases Nat.eq_zero_or_pos j with rfl | hpos
      · rw [Nat.add_zero, hi] at hj
        cases hj
        exact le_rfl
      · obtain ⟨hil, hix⟩ := List.getElem?_eq_some_iff.mp hi
        obtain ⟨hjl, hjy⟩ := List.getElem?_eq_some_iff.mp hj
        have := List.pairwise_iff_getElem.mp (Plan.steps_spans c).2.2 i (i + j) hil hjl (by omega)
        rwa [hix, hjy] at this
    omega
  rw [split_, ← List.append_assoc] at ho hmax
  refine lastComplete_eq len o _ ?_ hle fun e he => hmax e (List.mem_append_left _ he)
  rcases List.mem_append.mp ho with ho | ho
  · exact ho
  · exact absurd hle (not_le.mpr (behind o ho))

/-! ## RANGE (R23) -/

theorem test_decide (o i : Nat) (p : Prop) [Decidable p] : (o, false) = (i, decide p) ↔ o = i ∧ ¬ p := by
  rw [Prod.mk.injEq, eq_comm (a := false), decide_eq_false_iff_not]

theorem test_within (o i lo hi n : Nat) : (o, false) = (i, within lo hi n) ↔ o = i ∧ ¬ (lo ≤ n ∧ n ≤ hi) := test_decide ..

theorem test_eq (o i m n : Nat) : (o, false) = (i, m == n) ↔ o = i ∧ m ≠ n := test_decide ..

theorem test_sense (o i n : Nat) : (o, false) = (i, n == 1 || n == 255) ↔ o = i ∧ n ≠ 1 ∧ n ≠ 255 := by
  rw [Prod.mk.injEq, eq_comm (a := false), Bool.or_eq_false_iff, beq_eq_false_iff_ne, beq_eq_false_iff_ne]

theorem test_nozzle (o i n : Nat) : (o, false) = (i, nozzleOk n) ↔ o = i ∧ 3 < n ∧ n ≠ 255 := by
  rw [Prod.mk.injEq, eq_comm (a := false), nozzleOk, Bool.or_eq_false_iff, beq_eq_false_iff_ne, within, decide_eq_false_iff_not]
  omega

theorem test_mode (o i m n : Nat) : (o, false) = (i, m != 0 || within 0 1 n) ↔ m = 0 ∧ o = i ∧ ¬ (0 ≤ n ∧ n ≤ 1) := by
  rw [Prod.mk.injEq, eq_comm (a := false), Bool.or_eq_false_iff, bne_eq_false_iff_eq, within, decide_eq_false_iff_not,
    and_left_comm]

theorem not_zero_range (n : Nat) : ¬ (0 ≤ n ∧ n ≤ 0) ↔ n ≠ 0 := by omega

theorem not_one_le (n : Nat) : ¬ 1 ≤ n ↔ n = 0 := by omega

theorem u16At_lt (c : List Byte) (i : Nat) : u16At c i < 65536 := by
  have h0 := byteAt_lt c i
  have h1 := byteAt_lt c (i + 1)
  unfold u16At
  omega

theorem i16At_le (c : List Byte) (i : Nat) : i16At c i ≤ 32767 := by
  have := u16At_lt c i
  unfold i16At
  split <;> omega

theorem Plan.mem_allShots (c : List Byte) (s : ShotDesc) : s ∈ Plan.allShots c ↔ s ∈ Plan.shots c .A ∨ s ∈ Plan.shots c .B :=
  List.mem_append

theorem exists_rail (p : Rail → Prop) : (∃ r ∈ [Rail.A, Rail.B], p r) ↔ p .A ∨ p .B := by simp

/-- The tests of a gate (R23). -/
theorem mem_rangeGate (c : List Byte) (g : GateDesc) (o : Nat) : (o, false) ∈ rangeGate c g ↔
    (o = g.offset ∧ ¬ (0 ≤ byteAt c g.offset ∧ byteAt c g.offset ≤ 2)) ∨
    (byteAt c g.offset = 0 ∧ o = g.offset + 1 ∧ ¬ (0 ≤ byteAt c (g.offset + 1) ∧ byteAt c (g.offset + 1) ≤ 1)) ∨
    (o = g.offset + 2 ∧ ¬ (1 ≤ byteAt c (g.offset + 2) ∧ byteAt c (g.offset + 2) ≤ 254)) ∨
    (o = g.offset + 3 ∧ ¬ (0 ≤ byteAt c (g.offset + 3) ∧ byteAt c (g.offset + 3) ≤ 0)) ∨
    (o = g.offset + 4 ∧ ¬ (0 ≤ u16At c (g.offset + 4) ∧ u16At c (g.offset + 4) ≤ 16382)) ∨
    (o = g.offset + 6 ∧ ¬ (1 ≤ u16At c (g.offset + 6) ∧ u16At c (g.offset + 6) ≤ 16383)) := by
  simp only [rangeGate, List.mem_cons, List.not_mem_nil, or_false, test_within, test_eq, test_mode, not_zero_range]

/-- The tests of RANGE fail where a field is out of its range, piece by piece of the plan. -/
theorem mem_rangeTests (c : List Byte) (o : Nat) : (o, false) ∈ rangeTests c ↔ Plan.outOfRange c o := by
  unfold rangeTests rangeHeader Plan.outOfRange
  simp only [List.mem_append, or_assoc, List.mem_flatMap, List.mem_range, List.mem_cons, List.not_mem_nil, or_false]
  refine or_congr ?_ (or_congr ?_ (or_congr ?_ (or_congr ?levels (or_congr ?rails (or_congr ?elements (or_congr ?groups
    (or_congr ?nozzles (or_congr ?rules ?shots))))))))
  · rw [test_eq, not_zero_range]
  · rw [test_sense]
  · rw [test_eq, not_zero_range]
  case levels =>
    simp only [List.mem_map, List.mem_range, eq_comm (b := (o, false)), test_decide, Nat.zero_le, true_and]
  case rails =>
    simp only [exists_eq_or_imp, exists_eq_left, Plan.railBase, Rail.idx, or_assoc, test_within, test_nozzle, test_eq]
  case elements =>
    simp only [rangeElement, List.mem_cons, List.not_mem_nil, or_false, test_within, test_decide, test_eq, not_zero_range,
      i16At_le, and_true]
  case groups =>
    simp only [rangeGroup, List.mem_cons, List.not_mem_nil, or_false, test_within, test_eq, not_zero_range]
  case nozzles =>
    refine exists_congr fun i => and_congr_right fun _ => ?_
    simp only [rangeNozzle, List.mem_cons, List.mem_append, test_within]
    by_cases h : byteAt c (640 + 8 * i) = 1
    · simp only [h, if_true, List.mem_cons, List.not_mem_nil, or_false, true_and, test_within, test_decide, test_eq,
        not_zero_range]
    · simp only [h, if_false, List.not_mem_nil, or_false, false_and, false_or, test_eq, not_zero_range]
  case rules =>
    simp only [rangeRule, List.mem_cons, List.not_mem_nil, or_false, test_within, test_decide, test_nozzle, test_eq, not_one_le]
    exact Iff.rfl
  case shots =>
    refine exists_congr fun s => ?_
    rw [← Plan.mem_allShots]
    refine and_congr_right fun hs => ?_
    have listen : s.listen = u16At c s.offset := by rw [Plan.allShots_mem c s hs]; rfl
    simp only [rangeShot, List.mem_append, List.mem_cons, List.not_mem_nil, or_false, or_assoc, List.mem_flatMap, test_within,
      test_eq, not_zero_range, listen]
    refine or_congr Iff.rfl (or_congr Iff.rfl (exists_congr fun f => and_congr_right fun hf => ?_))
    rw [Plan.allShots_mem c s hs] at hf
    have reads := Plan.shotAt_firings_mem c _ f hf
    have element : f.element = byteAt c f.offset := by rw [reads]; rfl
    have channel : f.channel = byteAt c (f.offset + 1) := by rw [reads]; rfl
    simp only [rangeFiring, List.mem_append, List.mem_cons, List.not_mem_nil, or_false, or_assoc, List.mem_flatMap, test_within,
      test_eq, not_zero_range, element, channel, mem_rangeGate]

/-! ## The other checks (R24 to R26) -/

theorem mem_groupTests (c : List Byte) (o : Nat) : (o, false) ∈ groupTests c ↔ Plan.faultAt c .groupUndefined o := by
  simp only [groupTests, List.mem_map, List.mem_range, eq_comm (b := (o, false)), test_decide, Plan.faultAt, not_le]
  exact exists_congr fun i => and_congr_right fun _ => and_congr_right fun h => by rw [h]

theorem mem_conflictTests (o : Nat) (before fs : List FiringDesc) : (o, false) ∈ conflictTests before fs ↔
    ∃ k, k < fs.length ∧ ∃ g ∈ fs[k]?, o = g.offset ∧
      ∃ f ∈ before ++ fs.take k, f.channel = g.channel ∨ f.element = g.element := by
  induction fs generalizing before with
  | nil => simp [conflictTests]
  | cons f fs ih =>
    have head : (o, false) = (f.offset, !before.any fun e => e.channel == f.channel || e.element == f.element) ↔
        o = f.offset ∧ ∃ e ∈ before, e.channel = f.channel ∨ e.element = f.element := by
      rw [Prod.mk.injEq, eq_comm (a := false), Bool.not_eq_false', List.any_eq_true]
      simp
    rw [conflictTests, List.mem_cons, head, ih]
    constructor
    · rintro (⟨ho, e, he, hs⟩ | ⟨k, hk, g, hg, ho, e, he, hs⟩)
      · exact ⟨0, by simp, f, by simp, ho, e, by simpa using he, hs⟩
      · exact ⟨k + 1, by simpa using hk, g, by simpa using hg, ho, e, by simpa using he, hs⟩
    · rintro ⟨k, hk, g, hg, ho, e, he, hs⟩
      cases k with
      | zero =>
        have hfg : f = g := by simpa using hg
        subst hfg
        exact Or.inl ⟨ho, e, by simpa using he, hs⟩
      | succ k => exact Or.inr ⟨k, by simpa using hk, g, by simpa using hg, ho, e, by simpa using he, hs⟩

theorem mem_channelTests (c : List Byte) (o : Nat) :
    (o, false) ∈ (Plan.allShots c).flatMap (fun s => conflictTests [] s.firings) ↔ Plan.faultAt c .channelConflict o := by
  simp only [List.mem_flatMap, mem_conflictTests, List.nil_append]
  exact Iff.rfl

theorem mem_windowTests (c : List Byte) (o : Nat) :
    (o, false) ∈ (Plan.allShots c).flatMap windowTests ↔ Plan.faultAt c .gateWindow o := by
  simp only [windowTests, List.mem_flatMap, List.mem_map, eq_comm (b := (o, false)), test_decide, not_le]
  exact Iff.rfl

theorem mem_roleTests (c : List Byte) (o : Nat) :
    (o, false) ∈ (Plan.allShots c).flatMap roleTests ↔ Plan.faultAt c .gateRole o := by
  simp only [roleTests, List.mem_flatMap, List.mem_map, eq_comm (b := (o, false)), test_decide]
  refine exists_congr fun s => and_congr_right fun _ => exists_congr fun f => and_congr_right fun _ => and_congr_right fun _ => ?_
  show _ ↔ 1 < f.countRole .coupling ∨ 1 < f.countRole .backwall ∨ (f.countRole .backwall = 1 ∧ f.countRole .coupling = 0)
  omega

theorem mem_shotTests (c : List Byte) (o : Nat) :
    (o, false) ∈ [(13, byteAt c 13 != 0), (14, byteAt c 14 != 0)] ↔ Plan.faultAt c .noShots o := by
  simp only [List.mem_cons, List.not_mem_nil, or_false, Prod.mk.injEq, eq_comm (a := false), bne_eq_false_iff_eq, Plan.faultAt,
    or_and_right]
  exact or_congr (and_congr_right fun h => by rw [h]) (and_congr_right fun h => by rw [h])

theorem Plan.hasGate_iff (c : List Byte) (r : Rail) (e : Nat) (role : GateRole) : Plan.hasGate c r e role = true ↔
    ∃ s ∈ Plan.shots c r, ∃ f ∈ s.firings, f.element = e ∧ ∃ g ∈ f.gates, g.role = role := by
  simp [Plan.hasGate, List.any_eq_true]

theorem mem_factorTests (c : List Byte) (o : Nat) : (o, false) ∈ factorTests c ↔ Plan.faultAt c .factor o := by
  have test (r : Rail) (e : Nat) : (o, false) = (Plan.elementBase r e, !Plan.hasGate c r e .flaw ||
      (Plan.element c r e).depthFactor != 0 || (Plan.element c r e).alongFactor != 0) ↔
      o = 64 + 16 * (12 * Rail.idx r + e) ∧ u16At c (o + 10) = 0 ∧ i16At c (o + 12) = 0 ∧
        ∃ s ∈ Plan.shots c r, ∃ f ∈ s.firings, f.element = e ∧ ∃ g ∈ f.gates, g.role = .flaw := by
    rw [Prod.mk.injEq, eq_comm (a := false), Bool.or_eq_false_iff, Bool.or_eq_false_iff, Bool.not_eq_false',
      bne_eq_false_iff_eq, bne_eq_false_iff_eq, Plan.hasGate_iff]
    refine and_congr_right fun h => ?_
    rw [h]
    exact ⟨fun ⟨⟨h1, h2⟩, h3⟩ => ⟨h2, h3, h1⟩, fun ⟨h2, h3, h1⟩ => ⟨⟨h1, h2⟩, h3⟩⟩
  simp only [factorTests, List.mem_flatMap, List.mem_map, List.mem_range, eq_comm (b := (o, false)), test, List.mem_cons,
    List.not_mem_nil, or_false, exists_eq_or_imp, exists_eq_left, Plan.faultAt, Bool.exists_bool, Bool.false_eq_true, if_false,
    if_true]

theorem mem_classTests (c : List Byte) (o : Nat) : (o, false) ∈ classTests c ↔ Plan.faultAt c .classRule o := by
  simp only [classTests, List.mem_map, List.mem_range, eq_comm (b := (o, false)), test_decide, not_and_or, not_le]
  refine exists_congr fun j => and_congr_right fun _ => and_congr_right fun h => ?_
  rw [h]
  exact Iff.rfl

/-- A nozzle field within its range names a nozzle that is missing where the plan does not define it. -/
theorem namedDefined_eq_false (c : List Byte) (r : Rail) (n : Nat) (h : n ≤ 3 ∨ n = 255) :
    namedDefined c r (nozzleField n) = false ↔ Plan.nozzleMissing c r n := by
  unfold nozzleField Plan.nozzleMissing
  by_cases h255 : n = 255
  · simp [h255, namedDefined]
  · have h4 : n < 4 := by omega
    simp [h255, namedDefined, Plan.nozzle, Plan.nozzleBase, h4]

/-- The nozzle fields of the rail settings are within their range where RANGE finds nothing. -/
theorem nozzleField_rail (c : List Byte) (h : ∀ o, ¬ Plan.outOfRange c o) (b : Nat) (hb : b ∈ [32, 48]) :
    byteAt c (b + 2) ≤ 3 ∨ byteAt c (b + 2) = 255 := by
  by_contra k
  have bad : 3 < byteAt c (b + 2) ∧ byteAt c (b + 2) ≠ 255 := by omega
  exact h (b + 2) (.inr (.inr (.inr (.inr (.inl ⟨b, hb, .inr (.inr (.inl ⟨rfl, bad⟩))⟩)))))

/-- The nozzle field of a rule is within its range where RANGE finds nothing. -/
theorem nozzleField_rule (c : List Byte) (h : ∀ o, ¬ Plan.outOfRange c o) (j : Nat) (hj : j < byteAt c 15) :
    byteAt c (704 + 32 * j + 23) ≤ 3 ∨ byteAt c (704 + 32 * j + 23) = 255 := by
  by_contra k
  have bad : 3 < byteAt c (704 + 32 * j + 23) ∧ byteAt c (704 + 32 * j + 23) ≠ 255 := by omega
  exact h (704 + 32 * j + 23) (.inr (.inr (.inr (.inr (.inr (.inr (.inr (.inr (.inl ⟨j, hj,
    .inr (.inr (.inr (.inr (.inr (.inr (.inr (.inr (.inl ⟨rfl, bad⟩))))))))⟩)))))))))

theorem railFilterOf_admits (n : Nat) :
    ((railFilterOf n).admits .A = true ↔ n ≠ 1) ∧ ((railFilterOf n).admits .B = true ↔ n ≠ 0) := by
  unfold railFilterOf
  by_cases h0 : n = 0
  · subst h0
    decide
  · by_cases h1 : n = 1
    · subst h1
      decide
    · simp [h0, h1, RailFilter.admits]

theorem mem_nozzleTests (c : List Byte) (o : Nat) (h : ∀ o, ¬ Plan.outOfRange c o) :
    (o, false) ∈ nozzleTests c ↔ Plan.faultAt c .nozzle o := by
  have rail (r : Rail) (b : Nat) (hb : b ∈ [32, 48]) (hr : Plan.railBase r = b) :
      (o, false) = (Plan.railBase r, namedDefined c r (Plan.defaultNozzle c r)) ↔
        o = b ∧ Plan.nozzleMissing c r (byteAt c (o + 2)) := by
    rw [Prod.mk.injEq, eq_comm (a := false), Plan.defaultNozzle, hr, namedDefined_eq_false c r _ (nozzleField_rail c h b hb)]
    exact and_congr_right fun e => by rw [e]
  have rule (j : Nat) (hj : j < byteAt c 15) : (o, false) = (Plan.ruleBase j,
      [Rail.A, Rail.B].all fun r => !(Plan.rule c j).filter.admits r || namedDefined c r (Plan.rule c j).nozzle) ↔
      o = 704 + 32 * j ∧ ((byteAt c (o + 7) ≠ 1 ∧ Plan.nozzleMissing c .A (byteAt c (o + 23))) ∨
        (byteAt c (o + 7) ≠ 0 ∧ Plan.nozzleMissing c .B (byteAt c (o + 23)))) := by
    have hn (r : Rail) : namedDefined c r (Plan.rule c j).nozzle = false ↔
        Plan.nozzleMissing c r (byteAt c (704 + 32 * j + 23)) :=
      namedDefined_eq_false c r _ (nozzleField_rule c h j hj)
    obtain ⟨ha, hb⟩ := railFilterOf_admits (byteAt c (704 + 32 * j + 7))
    have hf : (Plan.rule c j).filter = railFilterOf (byteAt c (704 + 32 * j + 7)) := rfl
    rw [Prod.mk.injEq]
    refine and_congr_right fun e => ?_
    have e' : o = 704 + 32 * j := e
    rw [eq_comm, List.all_eq_false, e', ← ha, ← hb, ← hn, ← hn, hf]
    simp
  simp only [nozzleTests, List.mem_append, List.mem_map, List.mem_range, eq_comm (b := (o, false)), exists_rail, or_assoc]
  refine or_congr (rail .A 32 (by simp) rfl) (or_congr (rail .B 48 (by simp) rfl) (exists_congr fun j => ?_))
  exact and_congr_right fun hj => rule j hj

/-! ## The checks in order (R21) -/

/-- The tests of a check of R21 behind BAD_LAYOUT. -/
def Plan.tests (c : List Byte) : PlanFaultCode → List (Nat × Bool)
  | .none => []
  | .badLayout => []
  | .range => rangeTests c
  | .groupUndefined => groupTests c
  | .channelConflict => (Plan.allShots c).flatMap fun s => conflictTests [] s.firings
  | .gateWindow => (Plan.allShots c).flatMap windowTests
  | .gateRole => (Plan.allShots c).flatMap roleTests
  | .noShots => [(13, byteAt c 13 != 0), (14, byteAt c 14 != 0)]
  | .factor => factorTests c
  | .classRule => classTests c
  | .nozzle => nozzleTests c

/-- The checks behind BAD_LAYOUT, in their order. -/
def laterCodes : List PlanFaultCode :=
  [.range, .groupUndefined, .channelConflict, .gateWindow, .gateRole, .noShots, .factor, .classRule, .nozzle]

theorem laterChecks_eq (c : List Byte) : laterChecks c = laterCodes.map fun code => (code, Plan.tests c code) := rfl

/-- A check's tests find its faults; NOZZLE is made where RANGE has found nothing. -/
theorem mem_tests (c : List Byte) (code : PlanFaultCode) (o : Nat) (h : code = .nozzle → ∀ o, ¬ Plan.outOfRange c o) :
    (o, false) ∈ Plan.tests c code ↔ Plan.faultAt c code o := by
  cases code with
  | none => exact iff_of_false List.not_mem_nil id
  | badLayout => exact iff_of_false List.not_mem_nil id
  | range => exact mem_rangeTests c o
  | groupUndefined => exact mem_groupTests c o
  | channelConflict => exact mem_channelTests c o
  | gateWindow => exact mem_windowTests c o
  | gateRole => exact mem_roleTests c o
  | noShots => exact mem_shotTests c o
  | factor => exact mem_factorTests c o
  | classRule => exact mem_classTests c o
  | nozzle => exact mem_nozzleTests c o (h rfl)

end Sys2Proof.Machine
end

section
/-! PROOFS. Validation (O47): the tests of each check in ascending order, and the fault that validation gives. -/

namespace Sys2Proof.Machine

/-! ## The tests in ascending order -/

theorem spans_map_range {β : Type} {key : β → Nat} (b d n : Nat) (f : Nat → β)
    (hf : ∀ i, b + d * i ≤ key (f i) ∧ key (f i) < b + d * i + d) : spans key b (b + d * n) ((List.range n).map f) := by
  rw [List.map_eq_flatMap]
  exact spans_range b d n (fun i => [f i]) fun i => spans_singleton (hf i).1 (hf i).2

theorem rangeElement_spans (c : List Byte) (b : Nat) : spans Prod.fst b (b + 16) (rangeElement c b) := by
  simp [spans, rangeElement]

theorem rangeGroup_spans (c : List Byte) (b : Nat) : spans Prod.fst b (b + 12) (rangeGroup c b) := by
  simp [spans, rangeGroup]

theorem rangeNozzle_spans (c : List Byte) (b : Nat) : spans Prod.fst b (b + 8) (rangeNozzle c b) := by
  unfold rangeNozzle
  split <;> simp [spans]

theorem rangeRule_spans (c : List Byte) (b : Nat) : spans Prod.fst b (b + 32) (rangeRule c b) := by
  simp [spans, rangeRule]

theorem rangeGate_spans (c : List Byte) (g : GateDesc) : spans Prod.fst g.offset (g.offset + 8) (rangeGate c g) := by
  simp [spans, rangeGate]

/-- What a firing's gates hold follows its first four bytes. -/
theorem Plan.firingAt_spans (c : List Byte) (f : FiringDesc) (hf : f = Plan.firingAt c f.offset)
    (tests : GateDesc → List (Nat × Bool)) (ht : ∀ g, spans Prod.fst g.offset (g.offset + 8) (tests g)) :
    spans Prod.fst (f.offset + 4) (f.offset + f.bytes) (f.gates.flatMap tests) := by
  have hl : laidOut GateDesc.offset (fun _ => 8) (f.offset + 4) f.gates := by
    rw [hf]
    exact Plan.firingAt_laidOut c f.offset
  refine spans_mono (spans_flatMap hl fun g _ => ht g) le_rfl ?_
  simp only [FiringDesc.bytes, List.map_const', List.sum_replicate, smul_eq_mul]
  omega

/-- What a shot's firings hold follows its first four bytes. -/
theorem Plan.shotAt_spans (c : List Byte) (s : ShotDesc) (hs : s = Plan.shotAt c s.offset) {β : Type} {key : β → Nat}
    (tests : FiringDesc → List β)
    (ht : ∀ f, f = Plan.firingAt c f.offset → spans key f.offset (f.offset + f.bytes) (tests f)) :
    spans key (s.offset + 4) (s.offset + s.bytes) (s.firings.flatMap tests) := by
  have hl : laidOut FiringDesc.offset FiringDesc.bytes (s.offset + 4) s.firings := by
    rw [hs]
    exact Plan.shotAt_laidOut c s.offset
  have hf : ∀ f ∈ s.firings, f = Plan.firingAt c f.offset := by
    rw [hs]
    exact Plan.shotAt_firings_mem c s.offset
  exact spans_mono (spans_flatMap hl fun f h => ht f (hf f h)) le_rfl (by rw [ShotDesc.bytes]; omega)

/-- Tests made shot by shot lie in the bytes of their shots. -/
theorem Plan.allShots_spans (c : List Byte) (tests : ShotDesc → List (Nat × Bool))
    (ht : ∀ s, s = Plan.shotAt c s.offset → spans Prod.fst s.offset (s.offset + s.bytes) (tests s)) :
    spans Prod.fst (704 + 32 * byteAt c 15) (Plan.size c) ((Plan.allShots c).flatMap tests) :=
  spans_flatMap (Plan.allShots_laidOut c) fun s hs => ht s (Plan.allShots_mem c s hs)

theorem rangeFiring_spans (c : List Byte) (f : FiringDesc) (hf : f = Plan.firingAt c f.offset) :
    spans Prod.fst f.offset (f.offset + f.bytes) (rangeFiring c f) := by
  have head : spans Prod.fst f.offset (f.offset + 4) [(f.offset, within 0 11 f.element),
      (f.offset + 1, within 0 3 f.channel), (f.offset + 3, byteAt c (f.offset + 3) == 0)] := by
    simp [spans]
  exact spans_append head (Plan.firingAt_spans c f hf (rangeGate c) (rangeGate_spans c))

theorem rangeShot_spans (c : List Byte) (s : ShotDesc) (hs : s = Plan.shotAt c s.offset) :
    spans Prod.fst s.offset (s.offset + s.bytes) (rangeShot c s) := by
  have head : spans Prod.fst s.offset (s.offset + 4) [(s.offset, within 256 16383 s.listen),
      (s.offset + 3, byteAt c (s.offset + 3) == 0)] := by
    simp [spans]
  exact spans_append head (Plan.shotAt_spans c s hs (rangeFiring c) (rangeFiring_spans c))

theorem rangeHeader_spans (c : List Byte) : spans Prod.fst 0 64 (rangeHeader c) := by
  have levels : spans Prod.fst 20 32 ((List.range 12).map fun i => (20 + i, decide (byteAt c (20 + i) ≤ 7))) :=
    spans_map_range 20 1 12 _ fun i => by simp
  have head : spans Prod.fst 0 20 [(2, u16At c 2 == 0), (12, byteAt c 12 == 1 || byteAt c 12 == 255), (18, u16At c 18 == 0)] := by
    simp [spans]
  refine spans_append (spans_append head levels) ?_
  simp [spans, Plan.railBase, Rail.idx]

theorem rangeTests_spans (c : List Byte) : spans Prod.fst 0 (Plan.size c) (rangeTests c) := by
  have elements : spans Prod.fst 64 448 ((List.range 24).flatMap fun i => rangeElement c (64 + 16 * i)) :=
    spans_range 64 16 24 _ fun i => rangeElement_spans c _
  have groups : spans Prod.fst 448 640 ((List.range 16).flatMap fun i => rangeGroup c (448 + 12 * i)) :=
    spans_range 448 12 16 _ fun i => rangeGroup_spans c _
  have nozzles : spans Prod.fst 640 704 ((List.range 8).flatMap fun i => rangeNozzle c (640 + 8 * i)) :=
    spans_range 640 8 8 _ fun i => rangeNozzle_spans c _
  have rules : spans Prod.fst 704 (704 + 32 * byteAt c 15)
      ((List.range (Plan.ruleCount c)).flatMap fun j => rangeRule c (Plan.ruleBase j)) :=
    spans_range 704 32 _ _ fun j => rangeRule_spans c _
  have shots := Plan.allShots_spans c (rangeShot c) (rangeShot_spans c)
  exact spans_append (spans_append (spans_append (spans_append (spans_append (rangeHeader_spans c) elements) groups) nozzles)
    rules) shots

theorem groupTests_spans (c : List Byte) : spans Prod.fst 64 448 (groupTests c) :=
  spans_map_range 64 16 24 _ fun i => by simp

theorem conflictTests_spans (off : Nat) (before fs : List FiringDesc)
    (h : laidOut FiringDesc.offset FiringDesc.bytes off fs) :
    spans Prod.fst off (off + (fs.map FiringDesc.bytes).sum) (conflictTests before fs) := by
  induction fs generalizing off before with
  | nil => exact spans_nil _ _ _ (by simp)
  | cons f fs ih =>
    obtain ⟨hf, hfs⟩ := h
    rw [conflictTests, List.map_cons, List.sum_cons, ← Nat.add_assoc]
    refine spans_append (xs := [_]) (spans_singleton (le_of_eq hf.symm) ?_) (ih _ _ hfs)
    simp only [FiringDesc.bytes]
    omega

theorem channelTests_spans (c : List Byte) : spans Prod.fst (704 + 32 * byteAt c 15) (Plan.size c)
    ((Plan.allShots c).flatMap fun s => conflictTests [] s.firings) := by
  refine Plan.allShots_spans c (fun s => conflictTests [] s.firings) fun s hs => ?_
  have hl : laidOut FiringDesc.offset FiringDesc.bytes (s.offset + 4) s.firings := by
    rw [hs]
    exact Plan.shotAt_laidOut c s.offset
  exact spans_mono (conflictTests_spans _ [] _ hl) (by omega) (by rw [ShotDesc.bytes]; omega)

theorem windowTests_spans (c : List Byte) :
    spans Prod.fst (704 + 32 * byteAt c 15) (Plan.size c) ((Plan.allShots c).flatMap windowTests) := by
  refine Plan.allShots_spans c windowTests fun s hs => spans_mono (Plan.shotAt_spans c s hs _ fun f hf => ?_) (by omega) le_rfl
  rw [List.map_eq_flatMap]
  exact spans_mono (Plan.firingAt_spans c f hf _ fun g => spans_singleton le_rfl (by simp)) (by omega) le_rfl

theorem roleTests_spans (c : List Byte) :
    spans Prod.fst (704 + 32 * byteAt c 15) (Plan.size c) ((Plan.allShots c).flatMap roleTests) := by
  refine Plan.allShots_spans c roleTests fun s hs => ?_
  rw [roleTests, List.map_eq_flatMap]
  refine spans_mono (Plan.shotAt_spans c s hs _ fun f _ => spans_singleton le_rfl ?_) (by omega) le_rfl
  simp only [FiringDesc.bytes]
  omega

theorem shotTests_spans (c : List Byte) : spans Prod.fst 13 15 [(13, byteAt c 13 != 0), (14, byteAt c 14 != 0)] := by
  simp [spans]

theorem factorTests_spans (c : List Byte) : spans Prod.fst 64 448 (factorTests c) := by
  have rail (r : Rail) (b : Nat) (hb : Plan.elementBase r 0 = b) : spans Prod.fst b (b + 192)
      ((List.range 12).map fun e => (Plan.elementBase r e, !Plan.hasGate c r e .flaw ||
        (Plan.element c r e).depthFactor != 0 || (Plan.element c r e).alongFactor != 0)) := by
    refine spans_map_range b 16 12 _ fun e => ?_
    simp only [Plan.elementBase] at hb ⊢
    omega
  have tests := spans_append (rail .A 64 rfl) (rail .B 256 rfl)
  simpa [factorTests] using tests

theorem classTests_spans (c : List Byte) : spans Prod.fst 704 (704 + 32 * byteAt c 15) (classTests c) :=
  spans_map_range 704 32 _ _ fun j => by simp [Plan.ruleBase, Config.planFixedBytes]

theorem nozzleTests_spans (c : List Byte) : spans Prod.fst 32 (704 + 32 * byteAt c 15) (nozzleTests c) := by
  have rails : spans Prod.fst 32 704
      ([Rail.A, Rail.B].map fun r => (Plan.railBase r, namedDefined c r (Plan.defaultNozzle c r))) := by
    simp [spans, Plan.railBase, Rail.idx]
  exact spans_append rails (spans_map_range 704 32 _ _ fun j => by simp [Plan.ruleBase, Config.planFixedBytes])

/-- The tests of every check lie in ascending order of offset. -/
theorem Plan.tests_ascend (c : List Byte) (code : PlanFaultCode) : (Plan.tests c code).Pairwise fun x y => x.1 ≤ y.1 := by
  cases code with
  | none => exact List.Pairwise.nil
  | badLayout => exact List.Pairwise.nil
  | range => exact (rangeTests_spans c).2.2
  | groupUndefined => exact (groupTests_spans c).2.2
  | channelConflict => exact (channelTests_spans c).2.2
  | gateWindow => exact (windowTests_spans c).2.2
  | gateRole => exact (roleTests_spans c).2.2
  | noShots => exact (shotTests_spans c).2.2
  | factor => exact (factorTests_spans c).2.2
  | classRule => exact (classTests_spans c).2.2
  | nozzle => exact (nozzleTests_spans c).2.2

/-! ## The fault that validation gives -/

/-- The header's tests (R22). -/
def headerTests (c : List Byte) (len : Nat) : List (Nat × Bool) :=
  [(0, u16At c 0 == 1), (4, u32At c 4 == len), (13, decide (byteAt c 13 ≤ 8)), (14, decide (byteAt c 14 ≤ 8)),
   (15, decide (byteAt c 15 ≤ 16))]

/-- A place that holds no firing or gate count of 1..4 within the length. -/
def wrongCount (c : List Byte) (len p : Nat) : Prop := len ≤ p ∨ byteAt c p = 0 ∨ 4 < byteAt c p

theorem validate_header (c : List Byte) (len i o : Nat) (hi : (headerTests c len)[i]? = some (o, false))
    (h : ∀ (j : Nat) x, j < i → (headerTests c len)[j]? = some x → x.2 = true) : validate c len = (.badLayout, o) := by
  have hf : firstBad (headerTests c len) = some o := firstBad_getElem? _ i o hi h
  unfold headerTests at hf
  rw [validate, layoutFault, hf]

/-- Behind the header's tests the counts are followed, then the size is compared. -/
theorem layoutFault_eq (c : List Byte) (len : Nat) (h : ∀ x ∈ headerTests c len, x.2 = true) : layoutFault c len =
    match walkSteps c len (Plan.size c) (Plan.steps c) (fixedEnds (Plan.ruleCount c)) with
    | .fails o => some o
    | .reaches size ends =>
      if len < size then some (lastComplete len ends) else if size < len then some 4 else none := by
  have hf : firstBad (headerTests c len) = none := firstBad_eq_none _ h
  unfold headerTests at hf
  rw [layoutFault, hf, walkShots_eq, Plan.allShots_eq, Plan.size_eq]
  rfl

theorem Plan.countPlaces_getElem? (c : List Byte) (i : Nat) : (Plan.countPlaces c)[i]? = (Plan.steps c)[i]?.map Prod.fst := by
  rw [Plan.countPlaces_eq, List.getElem?_map]

/-- The first wrong count gives its place, or the end of the last part that is complete. -/
theorem validate_count (c : List Byte) (len : Nat) (h : ∀ x ∈ headerTests c len, x.2 = true) (i p : Nat)
    (hi : (Plan.countPlaces c)[i]? = some p) (hp : wrongCount c len p)
    (hbefore : ∀ (j : Nat) q, j < i → (Plan.countPlaces c)[j]? = some q → ¬ wrongCount c len q) :
    (p < len → validate c len = (.badLayout, p)) ∧
      (len ≤ p → ∀ o, Plan.lastPart c len o → validate c len = (.badLayout, o)) := by
  rw [Plan.countPlaces_getElem?] at hi
  obtain ⟨x, hx, rfl⟩ := Option.map_eq_some_iff.mp hi
  have hw := walkSteps_fails c len (Plan.size c) (Plan.steps c) (fixedEnds (Plan.ruleCount c)) i x hx hp fun j y hj hy =>
    hbefore j y.1 hj (by rw [Plan.countPlaces_getElem?, hy]; rfl)
  rw [validate, layoutFault_eq c len h, hw]
  refine ⟨fun hlt => by rw [if_neg (by omega)], fun hle o ho => ?_⟩
  rw [if_pos hle, Plan.lastComplete_of_lastPart c len o i x hx hle ho]

/-- Where no count is wrong the walk reaches the end of the plan. -/
theorem walkSteps_counts (c : List Byte) (len : Nat) (h : ∀ p ∈ Plan.countPlaces c, ¬ wrongCount c len p) :
    walkSteps c len (Plan.size c) (Plan.steps c) (fixedEnds (Plan.ruleCount c)) =
      .reaches (Plan.size c) (Plan.partEnds c) := by
  rw [walkSteps_all, Plan.partEnds_eq]
  intro y hy
  exact h y.1 (by rw [Plan.countPlaces_eq]; exact List.mem_map_of_mem hy)

theorem validate_short (c : List Byte) (len : Nat) (h : ∀ x ∈ headerTests c len, x.2 = true)
    (hc : ∀ p ∈ Plan.countPlaces c, ¬ wrongCount c len p) (hlt : len < Plan.size c) (o : Nat) (ho : Plan.lastPart c len o) :
    validate c len = (.badLayout, o) := by
  obtain ⟨hmem, hle, hmax⟩ := ho
  rw [validate, layoutFault_eq c len h, walkSteps_counts c len hc]
  simp only [if_pos hlt, lastComplete_eq len o _ hmem hle hmax]

theorem validate_long (c : List Byte) (len : Nat) (h : ∀ x ∈ headerTests c len, x.2 = true)
    (hc : ∀ p ∈ Plan.countPlaces c, ¬ wrongCount c len p) (hlt : Plan.size c < len) : validate c len = (.badLayout, 4) := by
  rw [validate, layoutFault_eq c len h, walkSteps_counts c len hc]
  simp only [if_neg (not_lt.mpr hlt.le), if_pos hlt]

theorem validate_sized (c : List Byte) (len : Nat) (h : ∀ x ∈ headerTests c len, x.2 = true)
    (hc : ∀ p ∈ Plan.countPlaces c, ¬ wrongCount c len p) (he : Plan.size c = len) :
    validate c len = firstFault (laterChecks c) := by
  rw [validate, layoutFault_eq c len h, walkSteps_counts c len hc]
  simp only [he, lt_irrefl, if_false]

theorem firstBad_tests_eq_none (c : List Byte) (code : PlanFaultCode) (hn : code = .nozzle → ∀ o, ¬ Plan.outOfRange c o)
    (h : ∀ o, ¬ Plan.faultAt c code o) : firstBad (Plan.tests c code) = none := by
  refine firstBad_eq_none _ fun ⟨o, ok⟩ hx => ?_
  cases ok with
  | true => rfl
  | false => exact absurd ((mem_tests c code o hn).mp hx) (h o)

/-- NOZZLE stands behind RANGE. -/
theorem laterCodes_nozzle (i : Nat) (h : laterCodes[i]? = some .nozzle) : 0 < i := by
  rcases Nat.eq_zero_or_pos i with rfl | hi
  · exact absurd h (by decide)
  · exact hi

theorem firstFault_laterChecks (c : List Byte) (i : Nat) (code : PlanFaultCode) (o : Nat) (hi : laterCodes[i]? = some code)
    (ho : Plan.faultAt c code o) (hleast : ∀ o', Plan.faultAt c code o' → o ≤ o')
    (h : ∀ (j : Nat) code' o', j < i → laterCodes[j]? = some code' → ¬ Plan.faultAt c code' o') :
    firstFault (laterChecks c) = (code, o) := by
  have range (k : Nat) (hk : k ≤ i) (code' : PlanFaultCode) (hc : laterCodes[k]? = some code') (hn : code' = .nozzle) :
      ∀ o, ¬ Plan.outOfRange c o := by
    subst hn
    exact fun o' => h 0 .range o' (lt_of_lt_of_le (laterCodes_nozzle k hc) hk) rfl
  rw [laterChecks_eq]
  refine firstFault_getElem? _ i o code (Plan.tests c code) (by rw [List.getElem?_map, hi]; rfl) ?_ fun j x hj hx => ?_
  · exact firstBad_of_least _ (Plan.tests_ascend c code) o ((mem_tests c code o (range i le_rfl code hi)).mpr ho)
      fun o' hm => hleast o' ((mem_tests c code o' (range i le_rfl code hi)).mp hm)
  · rw [List.getElem?_map] at hx
    obtain ⟨code', hc, rfl⟩ := Option.map_eq_some_iff.mp hx
    exact firstBad_tests_eq_none c code' (range j hj.le code' hc) fun o' => h j code' o' hj hc

theorem firstFault_laterChecks_none (c : List Byte) (h : ∀ code ∈ laterCodes, ∀ o, ¬ Plan.faultAt c code o) :
    firstFault (laterChecks c) = (.none, 0) := by
  rw [laterChecks_eq]
  refine firstFault_none _ fun x hx => ?_
  obtain ⟨code, hc, rfl⟩ := List.mem_map.mp hx
  exact firstBad_tests_eq_none c code (fun _ => h .range (by decide)) (h code hc)

/-! ## Where the parts lie -/

theorem Plan.shots_length (c : List Byte) :
    (Plan.shots c .A).length = byteAt c 13 ∧ (Plan.shots c .B).length = byteAt c 14 :=
  ⟨Plan.shotsAt_length c _ _, Plan.shotsAt_length c _ _⟩

/-- What a gate's bytes give. -/
theorem Plan.gateAt_reads (c : List Byte) (o : Nat) :
    (byteAt c o = 0 → (Plan.gateAt c o).role = .flaw) ∧ (byteAt c o = 1 → (Plan.gateAt c o).role = .coupling) ∧
    (byteAt c o = 2 → (Plan.gateAt c o).role = .backwall) ∧ (byteAt c (o + 1) = 0 → (Plan.gateAt c o).mode = .first) ∧
    (byteAt c (o + 1) = 1 → (Plan.gateAt c o).mode = .peak) := by
  refine ⟨fun h => ?_, fun h => ?_, fun h => ?_, fun h => ?_, fun h => ?_⟩ <;> simp [Plan.gateAt, gateRoleOf, h]

/-- Settles O47: each check's tests ascend and fail where Safety.lean finds its faults, so that the first test that fails is
the fault of the lowest offset; the walk of the counts is followed count by count. -/
theorem validationGivesTheFirstFault : Obligations.ValidationGivesTheFirstFault := by
  unfold Obligations.ValidationGivesTheFirstFault
  refine ⟨fun c len => ?_, fun c => ?_⟩
  · intro tests gives wrong places later
    refine ⟨fun i o hi h => validate_header c len i o hi h, fun h => ⟨fun i p hi hp hb => validate_count c len h i p hi hp hb,
      fun hc => ⟨fun hlt o ho => validate_short c len h hc hlt o ho, fun hlt => validate_long c len h hc hlt, fun he => ?_⟩⟩⟩
    have sized := validate_sized c len h hc he
    exact ⟨fun i code o hi ho hleast hb => sized.trans (firstFault_laterChecks c i code o hi ho hleast hb),
      fun hn => sized.trans (firstFault_laterChecks_none c hn)⟩
  · intro shots
    refine ⟨(Plan.shots_length c).1, (Plan.shots_length c).2, fun i s hs => ?_⟩
    have place := laidOut_getElem? _ _ _ _ (Plan.allShots_laidOut c) i s hs
    have reads := Plan.allShots_mem c s (List.mem_of_getElem? hs)
    refine ⟨place, congrArg ShotDesc.listen reads, ?_, fun k f hf => ?_⟩
    · rw [reads]
      exact Plan.firingsAt_length c _ _
    have firings := Plan.shotAt_laidOut c s.offset
    have members := Plan.shotAt_firings_mem c s.offset
    rw [← reads] at firings members
    have reads' := members f (List.mem_of_getElem? hf)
    refine ⟨laidOut_getElem? _ _ _ _ firings k f hf, congrArg FiringDesc.element reads', congrArg FiringDesc.channel reads', ?_,
      fun n g hg => ?_⟩
    · rw [reads']
      simp [Plan.firingAt]
    have gates := Plan.firingAt_laidOut c f.offset
    have members' := Plan.firingAt_gates_mem c f.offset
    rw [← reads'] at gates members'
    have reads'' := members' g (List.mem_of_getElem? hg)
    have offset : g.offset = f.offset + 4 + 8 * n := by
      have hn : n ≤ f.gates.length := (List.getElem?_eq_some_iff.mp hg).1.le
      rw [laidOut_getElem? _ _ _ _ gates n g hg]
      simp [hn, Nat.mul_comm]
    have fields := Plan.gateAt_reads c g.offset
    rw [← reads''] at fields
    exact ⟨offset, congrArg GateDesc.threshold reads'', congrArg GateDesc.start reads'', congrArg GateDesc.length reads'',
      fields⟩

end Sys2Proof.Machine
end

section
/-! PROOFS. What completions and soft levels leave unchanged, and the steps of a switch (O49). -/

namespace Sys2Proof.Machine

/-! ## Entry writes: the requests and the link only -/

/-- A state with the requests and the link of another. -/
def State.onto (w s : State) : State := { w with req := s.req, bus := s.bus }

theorem State.setCause_onto (w s : State) (c : AttnCause) : (w.onto s).setCause c = w.onto (s.setCause c) := by
  unfold State.setCause
  dsimp only
  rw [show (w.onto s).bus = s.bus from rfl]
  split
  · rfl
  · rw [apply_ite (w.onto ·)]
    rfl

theorem State.announceEntry_onto (w s : State) (start stop : Nat) :
    (w.onto s).announceEntry start stop = w.onto (s.announceEntry start stop) := by
  unfold State.announceEntry
  dsimp only
  rw [← w.setCause_onto]
  rfl

theorem State.issueEntry_onto (w s : State) (i : Nat) (x : EntryWrite) (repeated : Bool) :
    (w.onto s).issueEntry i x repeated = w.onto (s.issueEntry i x repeated) := by
  unfold State.issueEntry
  dsimp only
  rw [apply_ite (w.onto ·), ← w.announceEntry_onto]
  rfl

theorem State.writeEntry_onto (w s : State) (i : Nat) (x : EntryWrite) (h : w.device = s.device) :
    (w.onto s).writeEntry i x = w.onto (s.writeEntry i x) := by
  unfold State.writeEntry
  rw [apply_ite (w.onto ·), ← w.issueEntry_onto, ← h]
  rfl

theorem State.complete_onto (w s : State) (i : Nat) (state : ReqState) (code : ResultCode) (words : List Byte)
    (h : w.device = s.device) : (w.onto s).complete i state code words = w.onto (s.complete i state code words) :=
  w.writeEntry_onto s i _ h

/-- A completion reads the device, the requests and the link, and changes the last two. -/
theorem State.complete_frame (s : State) (i : Nat) (state : ReqState) (code : ResultCode) (words : List Byte) :
    ∃ q b, ∀ w : State, w.device = s.device → w.req = s.req → w.bus = s.bus →
      w.complete i state code words = { w with req := q, bus := b } := by
  refine ⟨(s.complete i state code words).req, (s.complete i state code words).bus, fun w hd hq hb => ?_⟩
  have e : w.onto s = w := by rw [State.onto, ← hq, ← hb]
  exact (congrArg (State.complete · i state code words) e.symm).trans (w.complete_onto s i state code words hd)

/-! ## Soft levels: the sources, the records and the causes only -/

/-- A state without what the soft levels change. -/
def State.aloof (s : State) : State :=
  { s with alarm := { s.alarm with sources := [], suppressedCount := 0 }, jrn := { s.jrn with presented := [] },
           bus := { s.bus with causes := State.reset.bus.causes, trace := [] } }

@[simp] theorem State.modSource_aloof (s : State) (src : Source) (f : SourceRecord → SourceRecord) :
    (s.modSource src f).aloof = s.aloof := rfl

@[simp] theorem State.offer_aloof (s : State) (who : Producer) (x : Rec) : (s.offer who x).aloof = s.aloof := by
  unfold State.offer
  split <;> rfl

@[simp] theorem State.setCause_aloof (s : State) (c : AttnCause) : (s.setCause c).aloof = s.aloof := by
  unfold State.setCause
  dsimp only
  (repeat' split) <;> rfl

@[simp] theorem State.alarmRecord_aloof (s : State) (src : Source) (action : AlarmAction) (raises : Nat) (conflict : Bool) :
    (s.alarmRecord src action raises conflict).aloof = s.aloof := s.offer_aloof ..

@[simp] theorem State.formed_aloof (before : Nat) (s : State) : (s.formed before).aloof = s.aloof := by
  unfold State.formed
  split <;> simp

@[simp] theorem State.pend_aloof (s : State) (src : Source) : (s.pend src).aloof = s.aloof := rfl

@[simp] theorem State.countRaise_aloof (s : State) (src : Source) : (s.countRaise src).aloof = s.aloof := rfl

@[simp] theorem State.suppressRaise_aloof (s : State) (src : Source) : (s.suppressRaise src).aloof = s.aloof := by
  rw [State.suppressRaise, State.alarmRecord_aloof]
  rfl

@[simp] theorem State.raiseSoft_aloof (s : State) (src : Source) : (s.raiseSoft src).aloof = s.aloof := by
  unfold State.raiseSoft
  split <;> simp

@[simp] theorem State.clearDisabled_aloof (s : State) (src : Source) : (s.clearDisabled src).aloof = s.aloof := by
  unfold State.clearDisabled
  dsimp only
  split <;> simp

@[simp] theorem State.raiseWaiting_aloof (s : State) (src : Source) : (s.raiseWaiting src).aloof = s.aloof := by
  unfold State.raiseWaiting
  split <;> simp

theorem State.eachSource_aloof (s : State) (f : State → Source → State) (h : ∀ s x, (f s x).aloof = s.aloof) :
    (s.eachSource f).aloof = s.aloof := by
  have key : ∀ (xs : List Source) (s : State), (xs.foldl f s).aloof = s.aloof := by
    intro xs
    induction xs with
    | nil => exact fun _ => rfl
    | cons x xs ih => exact fun s => (ih _).trans (h s x)
  exact key _ s

theorem State.setSoftLevels_aloof (s : State) (levels : List Nat) : (s.setSoftLevels levels).aloof = s.aloof := by
  unfold State.setSoftLevels
  dsimp only
  rw [State.formed_aloof, State.eachSource_aloof _ _ State.raiseWaiting_aloof,
    State.eachSource_aloof _ _ State.clearDisabled_aloof]
  rfl

/-- The soft levels change the sources and the count of what is suppressed, the records presented, the causes and the
trace. -/
theorem State.setSoftLevels_frame (s : State) (levels : List Nat) : ∃ sources suppressed presented causes trace,
    s.setSoftLevels levels =
      { s with alarm := { s.alarm with sources := sources, suppressedCount := suppressed },
               jrn := { s.jrn with presented := presented }, bus := { s.bus with causes := causes, trace := trace } } := by
  refine ⟨(s.setSoftLevels levels).alarm.sources, (s.setSoftLevels levels).alarm.suppressedCount,
    (s.setSoftLevels levels).jrn.presented, (s.setSoftLevels levels).bus.causes, (s.setSoftLevels levels).bus.trace, ?_⟩
  exact congrArg (fun x : State =>
    { x with alarm := { x.alarm with sources := (s.setSoftLevels levels).alarm.sources,
                                     suppressedCount := (s.setSoftLevels levels).alarm.suppressedCount },
             jrn := { x.jrn with presented := (s.setSoftLevels levels).jrn.presented },
             bus := { x.bus with causes := (s.setSoftLevels levels).bus.causes,
                                 trace := (s.setSoftLevels levels).bus.trace } }) (s.setSoftLevels_aloof levels)

end Sys2Proof.Machine
end

section
/-! PROOFS. The steps of a switch (O49). -/

namespace Sys2Proof.Machine

/-! ## Reports to the Plan Store -/

theorem Both.modify_pred (x : Both Nat) (r : Rail) (n : Nat) (h : x.get r = n + 1) : x.modify r (· - 1) = x.set r n := by
  show x.set r (x.get r - 1) = _
  rw [h]
  rfl

/-- A step report taken leads to the switch-point test. -/
theorem exec_sweepStepReport (r : Rail) (n : Nat) (s : State) (h : s.plans.stepReports.get r = n + 1) :
    exec (.sweepStepReport r) s =
      .next (s.modPlans fun p => { p with stepReports := p.stepReports.set r n }).testSwitch := by
  show execSweepStepReport r s = _
  rw [execSweepStepReport, if_neg (by omega),
    s.modPlans_congr _ (fun p => { p with stepReports := p.stepReports.set r n }) (by rw [Both.modify_pred _ r n h])]

theorem exec_railHeldReport (r : Rail) (n : Nat) (s : State) (h : s.plans.heldReports.get r = n + 1) :
    exec (.railHeldReport r) s =
      .next ((s.modPlans fun p => { p with heldReports := p.heldReports.set r n }).railHeld r) := by
  show execRailHeldReport r s = _
  rw [execRailHeldReport, if_neg (by omega),
    s.modPlans_congr _ (fun p => { p with heldReports := p.heldReports.set r n }) (by rw [Both.modify_pred _ r n h])]

theorem exec_switchFlushDone (r : Rail) (n : Nat) (s : State) (h : s.plans.switchDone.get r = n + 1) :
    exec (.switchFlushDone r) s =
      .next ((s.modPlans fun p => { p with switchDone := p.switchDone.set r n }).switchFlushed r) := by
  show execSwitchFlushDone r s = _
  rw [execSwitchFlushDone, if_neg (by omega),
    s.modPlans_congr _ (fun p => { p with switchDone := p.switchDone.set r n }) (by rw [Both.modify_pred _ r n h])]

theorem exec_couplingResetDone (n : Nat) (s : State) (h : s.plans.resetDone = n + 1) :
    exec .couplingResetDone s = .next (s.modPlans fun p => { p with resetDone := n }).resetDone := by
  show execCouplingResetDone s = _
  rw [execCouplingResetDone, if_neg (by omega), s.modPlans_congr _ (fun p => { p with resetDone := n }) (by rw [h]; rfl)]

theorem State.modProtocol_eq (s : State) (x : SwitchProtocol) (f : SwitchProtocol → SwitchProtocol)
    (h : s.plans.protocol = some x) : s.modProtocol f = s.modPlans fun p => { p with protocol := some (f x) } :=
  s.modPlans_congr _ _ (by rw [h]; rfl)

theorem State.modStop_eq (s : State) (x : StopInProgress) (f : StopInProgress → StopInProgress)
    (h : s.plans.stop = some x) : s.modStop f = s.modPlans fun p => { p with stop := some (f x) } :=
  s.modPlans_congr _ _ (by rw [h]; rfl)

/-! ## The switch begins (R31, R32) -/

theorem State.beyond_iff (s : State) (n : Nat) : s.beyond n = true ↔
    (s.pos.dir = .increasing ∧ n ≤ s.pos.p ∨ s.pos.dir = .decreasing ∧ s.pos.p ≤ n) := by
  unfold State.beyond
  cases s.pos.dir <;> simp

/-- A protocol at its beginning. -/
def SwitchProtocol.first (index : Nat) : SwitchProtocol :=
  { index := index, step := 1, held := ⟨false, false⟩, flushed := ⟨false, false⟩, swapT := 0 }

/-- An order on its way to a rail's Sequencer. -/
def RailBlocks.order (o : SeqOrder) (b : RailBlocks) : RailBlocks := { b with seq := { b.seq with orders := b.seq.orders ++ [o] } }

theorem State.startReached_of (s : State) (a : PendingActivation) (h : s.plans.pendingActivation = some a) :
    s.startReached =
      if a.fromActive = true ∧ a.reached = true ∧ s.device = .active ∧ s.plans.protocol = none then s.beginSwitch a.index
      else s := by
  rw [State.startReached, h]

theorem State.startReached_none (s : State) (h : s.plans.pendingActivation = none) : s.startReached = s := by
  rw [State.startReached, h]

/-- The pending activation is noted as having reached its point. -/
def State.noteReached (s : State) (a : PendingActivation) : State :=
  s.modPlans fun p => { p with pendingActivation := some { a with reached := true } }

theorem State.testSwitch_none (s : State) (h : s.plans.pendingActivation = none) : s.testSwitch = s := by
  rw [State.testSwitch, h]

/-- The switch-point test of a switch that is pending and not yet reached. -/
theorem State.testSwitch_of (s : State) (a : PendingActivation) (h : s.plans.pendingActivation = some a)
    (ha : a.fromActive = true) (hr : a.reached = false) : s.testSwitch =
      if a.mode = .immediate ∨ s.beyond a.position = true then
        if s.device = .active ∧ s.plans.protocol = none then (s.noteReached a).beginSwitch a.index else s.noteReached a
      else s := by
  have reached := State.startReached_of (s.noteReached a) { a with reached := true } rfl
  simp only [ha, true_and] at reached
  rw [State.testSwitch, h]
  exact (if_congr (by simp only [ha, hr, true_and]) reached rfl)

/-- A rail held is ordered cut (R32). -/
theorem State.railHeld_switch (s : State) (r : Rail) (x : SwitchProtocol) (hl : s.device ≠ .locked)
    (hx : s.plans.protocol = some x) (h4 : x.step < 4) (hh : x.held.get r = false) : s.railHeld r =
      (s.modPlans fun p => { p with protocol := some { x with held := x.held.set r true, step := max 2 x.step } }).orderTrack
        r .cut := by
  rw [State.railHeld, if_neg hl, hx]
  simp only [h4, hh, and_self, if_true]
  rw [State.modProtocol_eq s x _ hx]

/-! ## The swap (R33) -/

/-- A rail as the banks are swapped: its marks, and the order of the nozzle check. -/
def RailBlocks.swapped (t : Nat) (plan : List Byte) (r : Rail) (b : RailBlocks) : RailBlocks :=
  { b with seq := { b.seq with nextMark := min 4294967295 (t + Plan.step plan r),
                               surveyMark := min 4294967295 (t + Plan.surveyInterval plan) },
           mrk := { b.mrk with orders := b.mrk.orders ++ [.nozzleCheck] } }

theorem State.swapPlans_eq (s : State) (y : SwitchProtocol) (hy : s.plans.protocol = some y) :
    let plan := s.plans.standby.contents
    let swapped := s.swapBanks.setSoftLevels (Plan.alarmLevels plan)
    s.swapPlans = { swapped with
      plans := { swapped.plans with protocol := some { y with step := 6, swapT := s.pos.t } }
      coupling := { s.coupling with orders := s.coupling.orders ++ [CouplingOrder.planReset] }
      rails := ⟨s.rails.a.swapped s.pos.t plan .A, s.rails.b.swapped s.pos.t plan .B⟩ }.announce := by
  intro plan swapped
  obtain ⟨sources, suppressed, presented, causes, trace, e⟩ := s.swapBanks.setSoftLevels_frame (Plan.alarmLevels plan)
  have e' : s.swapBanks.setSoftLevels (Plan.alarmLevels s.swapBanks.plan) = _ := e
  simp only [State.swapPlans, State.planInForce, swapped]
  rw [e, e', State.modProtocol_eq _ y]
  · rfl
  · exact hy

theorem State.switchFlushed_eq (s : State) (r : Rail) (x : SwitchProtocol) (hx : s.plans.protocol = some x)
    (hl : s.device ≠ .locked) :
    let y := { x with flushed := x.flushed.set r true, step := max 3 x.step }
    let u := s.modPlans fun p => { p with protocol := some y }
    s.switchFlushed r = if y.step < 4 ∧ y.flushed.a = true ∧ y.flushed.b = true ∧ s.device = .active then u.swapPlans else u := by
  intro y u
  rw [State.switchFlushed, if_neg hl, State.modProtocol_eq _ x _ hx]
  rfl

/-! ## The end of a switch (R33, R34) -/

/-- A rail as a stop begins to be carried out. -/
def RailBlocks.stopBegins (b : RailBlocks) : RailBlocks :=
  { b.order .hold with asm := { b.asm with orders := b.asm.orders ++ [.stopBegun] } }

theorem State.beginStop_eq (s : State) (y : StopInProgress) (h : s.plans.stop = some y) : s.beginStop =
    State.snapshotsCancelled { s.modPlans (fun p => { p with stop := some { y with begun := true } }) with
      rails := ⟨s.rails.a.stopBegins, s.rails.b.stopBegins⟩ } := by
  rw [State.beginStop, State.modStop_eq s y _ h]
  rfl

/-- The switch done: both holds are released and the request is answered. -/
def State.switchDone (s : State) (x : SwitchProtocol) (n : Nat) : State :=
  (({ s with rails := ⟨s.rails.a.order .release, s.rails.b.order .release⟩ } : State).complete x.index .done .ok
    (le32 s.plans.active.planId ++ le32 x.swapT)).modPlans fun p => { p with resetDone := n, protocol := none }

theorem State.switchDone_frame (s : State) (x : SwitchProtocol) (n : Nat) : ∃ q b, s.switchDone x n =
    { s with plans := { s.plans with resetDone := n, protocol := none },
             rails := ⟨s.rails.a.order .release, s.rails.b.order .release⟩, req := q, bus := b } := by
  obtain ⟨q, b, e⟩ := s.complete_frame x.index .done .ok (le32 s.plans.active.planId ++ le32 x.swapT)
  refine ⟨q, b, ?_⟩
  rw [State.switchDone, e] <;> rfl

theorem State.finishSwitch_eq (s : State) (x : SwitchProtocol) (n : Nat) :
    (s.modPlans fun p => { p with resetDone := n }).finishSwitch x =
      if s.plans.stop.isSome = true then (s.switchDone x n).beginStop else (s.switchDone x n).startReached := by
  obtain ⟨q, b, e⟩ := s.complete_frame x.index .done .ok (le32 s.plans.active.planId ++ le32 x.swapT)
  have done : (((s.modPlans fun p => { p with resetDone := n }).bothRails fun r s => s.orderSeq .release r).complete x.index
      .done .ok (activationWords s.plans.active.planId x.swapT)).modPlans (fun p => { p with protocol := none }) =
      s.switchDone x n := by
    rw [activationWords, State.switchDone, e, e] <;> rfl
  have stop : (s.switchDone x n).plans.stop = s.plans.stop := by
    obtain ⟨q, b, e⟩ := s.switchDone_frame x n
    rw [e]
  rw [← stop, ← done]
  rfl

/-- Settles O49. -/
theorem switchStepsFollowTheirReports : Obligations.SwitchStepsFollowTheirReports := by
  intro r n s hold started others
  refine ⟨fun h => ?_, fun x hx hl => ⟨fun h h4 hh => ?held, fun h h4 => ?flushed, fun h h4 => ?done⟩⟩
  · intro u
    rw [exec_sweepStepReport r n s h]
    refine ⟨fun hn => congrArg Host.Outcome.next (State.testSwitch_none u hn), fun a ha hf hr hm => ?_⟩
    intro beyond
    have test := State.testSwitch_of u a ha hf hr
    have hb : u.beyond a.position = true ↔ beyond := u.beyond_iff a.position
    simp only [hb, hm, reduceCtorEq, false_or] at test
    refine ⟨fun nb => congrArg Host.Outcome.next ?_, fun yb hor => congrArg Host.Outcome.next ?_,
      fun yb hd hp => congrArg Host.Outcome.next ?_⟩
    · exact test.trans (if_neg nb)
    · have no : ¬ (u.device = .active ∧ u.plans.protocol = none) := fun ⟨hd, hp⟩ =>
        hor.elim (fun k => k hd) fun k => by rw [show s.plans.protocol = none from hp] at k; cases k
      exact test.trans ((if_pos yb).trans (if_neg no))
    · exact test.trans ((if_pos yb).trans (if_pos ⟨hd, hp⟩))
  case held =>
    exact (exec_railHeldReport r n s h).trans (congrArg Host.Outcome.next (State.railHeld_switch
      (s.modPlans fun p => { p with heldReports := p.heldReports.set r n }) r x hl hx h4 hh))
  case flushed =>
    intro y u
    have hs := State.switchFlushed_eq (s.modPlans fun p => { p with switchDone := p.switchDone.set r n }) r x hx hl
    rw [exec_switchFlushDone r n s h]
    have hstep : y.step < 4 := by simp only [y]; omega
    have both : y.flushed.a = true ∧ y.flushed.b = true ↔ others x.flushed = true := by
      cases r <;> simp [y, others, Both.set, Both.get]
    refine ⟨fun hor => congrArg Host.Outcome.next ?_, fun ho hd => congrArg Host.Outcome.next ?_⟩
    · have no : ¬ (y.step < 4 ∧ y.flushed.a = true ∧ y.flushed.b = true ∧ s.device = .active) := by
        rintro ⟨-, ha, hb, hd⟩
        rcases hor with hor | hor
        · rw [both.mp ⟨ha, hb⟩] at hor
          cases hor
        · rw [hd] at hor
          cases hor
      exact hs.trans (if_neg no)
    · obtain ⟨ha, hb⟩ := both.mpr ho
      exact hs.trans ((if_pos ⟨hstep, ha, hb, hd⟩).trans (State.swapPlans_eq u y rfl))
  case done =>
    intro done reached does
    have e : exec .couplingResetDone s = .next (if s.plans.stop.isSome = true then done.beginStop else done.startReached) := by
      rw [exec_couplingResetDone n s h, State.resetDone]
      simp only [State.modPlans_plans, hx, State.modPlans_device, h4, hl, ne_eq, not_false_eq_true, and_self, if_true]
      exact congrArg Host.Outcome.next (s.finishSwitch_eq x n)
    obtain ⟨q, b, frame⟩ : ∃ q b, done = _ := s.switchDone_frame x n
    have plans : done.plans = { s.plans with resetDone := n, protocol := none } := by rw [frame]
    have device : done.device = s.device := by rw [frame]
    refine ⟨fun hs ha => e.trans (congrArg Host.Outcome.next ?_), fun y hy => e.trans (congrArg Host.Outcome.next ?_),
      fun a hs ha hr => e.trans (congrArg Host.Outcome.next ?_)⟩
    · rw [hs, if_neg (by simp)]
      cases hp : s.plans.pendingActivation with
      | none => exact State.startReached_none done (by rw [plans, hp])
      | some a =>
        rw [State.startReached_of done a (by rw [plans, hp]), if_neg]
        rintro ⟨h1, h2, h3, -⟩
        exact ha a hp ⟨h1, h2, device ▸ h3⟩
    · rw [hy, if_pos (by simp)]
      exact State.beginStop_eq done y (by rw [plans, hy])
    · obtain ⟨h1, h2, h3⟩ := hr
      rw [hs, if_neg (by simp), State.startReached_of done a (by rw [plans, ha]),
        if_pos ⟨h1, h2, device.trans h3, by rw [plans]⟩]
      rfl

end Sys2Proof.Machine
end

section
/-! PROOFS. The steps of a stop (O50). -/

namespace Sys2Proof.Machine

/-! ## The request (R35) -/

theorem State.complete_modPlans (s : State) (f : PlanStore → PlanStore) (i : Nat) (state : ReqState) (code : ResultCode)
    (words : List Byte) : (s.modPlans f).complete i state code words = (s.complete i state code words).modPlans f := by
  obtain ⟨q, b, e⟩ := s.complete_frame i state code words
  rw [e, e] <;> rfl

theorem State.complete_rails (s : State) (i : Nat) (state : ReqState) (code : ResultCode) (words : List Byte) :
    (s.complete i state code words).rails = s.rails := by
  obtain ⟨q, b, e⟩ := s.complete_frame i state code words
  rw [e s rfl rfl rfl]

theorem State.complete_plans (s : State) (i : Nat) (state : ReqState) (code : ResultCode) (words : List Byte) :
    (s.complete i state code words).plans = s.plans := by
  obtain ⟨q, b, e⟩ := s.complete_frame i state code words
  rw [e s rfl rfl rfl]

theorem State.take_frame (s : State) (q : Request) : ∃ h b, s.take q = { s with req := h, bus := b } := by
  refine ⟨(s.take q).req, (s.take q).bus, ?_⟩
  exact State.writeEntry_onto s (s.modReq fun h => { h with taken := h.taken.set q.index (some q) }) q.index _ rfl

/-- The switch protocol runs and has not swapped the banks. -/
def PlanStore.switching (p : PlanStore) : Bool := p.protocol.any fun x => decide (x.step < 4)

/-- A pending switch refused with CANCELLED. -/
def State.unswitched (s : State) (a : PendingActivation) : State :=
  (s.modPlans fun p => { p with pendingActivation := none, standby := .cleared }).complete a.index .refused .cancelled []

/-- A load refused with CANCELLED. -/
def State.unloaded (s : State) (l : Load) : State :=
  (s.modPlans fun p => { p with load := none, standby := .cleared }).complete l.index .refused .cancelled []

theorem State.cancelPending_none (s : State) (h : s.plans.pendingActivation = none) : s.cancelPending = s := by
  rw [State.cancelPending, h]

theorem State.cancelPending_some (s : State) (a : PendingActivation) (h : s.plans.pendingActivation = some a) :
    s.cancelPending = if (a.fromActive && !s.plans.switching) = true then s.unswitched a else s := by
  rw [State.cancelPending, h, PlanStore.switching]
  refine if_congr ?_ rfl rfl
  cases s.plans.protocol <;> simp

theorem State.cancelLoad_none (s : State) (h : s.plans.load = none) : s.cancelLoad = s := by
  rw [State.cancelLoad, h]

theorem State.cancelLoad_check (s : State) (l : Load) (h : s.plans.load = some l) (hc : l.purpose = .check) :
    s.cancelLoad = s := by
  simp only [State.cancelLoad, h, hc]

theorem State.cancelLoad_activate (s : State) (l : Load) (h : s.plans.load = some l) (origin : Bool) (mode : SwitchMode)
    (position : Nat) (hc : l.purpose = .activate origin mode position) : s.cancelLoad = s.unloaded l := by
  simp only [State.cancelLoad, h, hc]
  rfl

/-- The stop in progress replaced. -/
def State.putStop (s : State) (y : Option StopInProgress) : State := s.modPlans fun p => { p with stop := y }

theorem State.unswitched_putStop (s : State) (y : Option StopInProgress) (a : PendingActivation) :
    (s.putStop y).unswitched a = (s.unswitched a).putStop y := by
  rw [State.unswitched, State.unswitched, State.putStop, State.putStop, ← State.complete_modPlans]
  rfl

theorem State.unloaded_putStop (s : State) (y : Option StopInProgress) (l : Load) :
    (s.putStop y).unloaded l = (s.unloaded l).putStop y := by
  rw [State.unloaded, State.unloaded, State.putStop, State.putStop, ← State.complete_modPlans]
  rfl

theorem State.cancelPending_putStop (s : State) (y : Option StopInProgress) :
    (s.putStop y).cancelPending = s.cancelPending.putStop y := by
  cases hp : s.plans.pendingActivation with
  | none => rw [s.cancelPending_none hp, (s.putStop y).cancelPending_none hp]
  | some a =>
    rw [s.cancelPending_some a hp, (s.putStop y).cancelPending_some a hp, s.unswitched_putStop, apply_ite (State.putStop · y)]
    rfl

theorem State.cancelLoad_putStop (s : State) (y : Option StopInProgress) :
    (s.putStop y).cancelLoad = s.cancelLoad.putStop y := by
  cases hl : s.plans.load with
  | none => rw [s.cancelLoad_none hl, (s.putStop y).cancelLoad_none hl]
  | some l =>
    cases hc : l.purpose with
    | check => rw [s.cancelLoad_check l hl hc, (s.putStop y).cancelLoad_check l hl hc]
    | activate origin mode position =>
      rw [s.cancelLoad_activate l hl origin mode position hc, (s.putStop y).cancelLoad_activate l hl origin mode position hc,
        s.unloaded_putStop]

theorem State.cancelPending_rails (s : State) : s.cancelPending.rails = s.rails := by
  unfold State.cancelPending
  dsimp only
  (repeat' split) <;> simp [State.complete_rails]

theorem State.cancelLoad_rails (s : State) : s.cancelLoad.rails = s.rails := by
  unfold State.cancelLoad
  (repeat' split) <;> simp [State.complete_rails, State.dropLoad]

theorem State.cancelPending_protocol (s : State) : s.cancelPending.plans.protocol = s.plans.protocol := by
  unfold State.cancelPending
  dsimp only
  (repeat' split) <;> simp [State.complete_plans]

theorem State.cancelLoad_protocol (s : State) : s.cancelLoad.plans.protocol = s.plans.protocol := by
  unfold State.cancelLoad
  (repeat' split) <;> simp [State.complete_plans, State.dropLoad]

theorem State.cancelPending_load (s : State) : s.cancelPending.plans.load = s.plans.load := by
  unfold State.cancelPending
  dsimp only
  (repeat' split) <;> simp [State.complete_plans]

theorem State.cancelPending_scan (s : State) : s.cancelPending.req.scan = s.req.scan := by
  unfold State.cancelPending
  dsimp only
  (repeat' split) <;> simp

theorem State.cancelLoad_scan (s : State) : s.cancelLoad.req.scan = s.req.scan := by
  unfold State.cancelLoad
  (repeat' split) <;> simp [State.dropLoad]

theorem State.cancelPending_device (s : State) : s.cancelPending.device = s.device :=
  congrArg View.device s.cancelPending_view

theorem State.cancelLoad_device (s : State) : s.cancelLoad.device = s.device := congrArg View.device s.cancelLoad_view

theorem State.snapshotsCancelled_device (s : State) : s.snapshotsCancelled.device = s.device :=
  congrArg View.device s.cancelSnapshots_view

theorem State.cancelSnapshot_scan (s : State) (r : Rail) : (s.cancelSnapshot r).req.scan = s.req.scan := by
  unfold State.cancelSnapshot
  split <;> simp

theorem State.snapshotsCancelled_scan (s : State) : s.snapshotsCancelled.req.scan = s.req.scan := by
  have e : s.snapshotsCancelled = (s.cancelSnapshot .A).cancelSnapshot .B := rfl
  rw [e, State.cancelSnapshot_scan, State.cancelSnapshot_scan]

/-- What a stop cancels of a pending switch, by the plans it finds. -/
def State.dropSwitch (p : PlanStore) (s : State) : State :=
  match p.pendingActivation with
  | none => s
  | some a => if (a.fromActive && !p.switching) = true then s.unswitched a else s

/-- What a stop cancels of a load, by the plans it finds. -/
def State.dropActivation (p : PlanStore) (s : State) : State :=
  match p.load with
  | none => s
  | some l =>
    match l.purpose with
    | .check => s
    | .activate _ _ _ => s.unloaded l

theorem State.cancelPending_eq (s : State) : s.cancelPending = s.dropSwitch s.plans := by
  unfold State.dropSwitch
  split
  next hp => exact s.cancelPending_none hp
  next a hp => exact s.cancelPending_some a hp

theorem State.cancelLoad_eq (s : State) : s.cancelLoad = s.dropActivation s.plans := by
  unfold State.dropActivation
  split
  next hl => exact s.cancelLoad_none hl
  next l hl =>
    split
    next hc => exact s.cancelLoad_check l hl hc
    next origin mode position hc => exact s.cancelLoad_activate l hl origin mode position hc

/-- What a stop cancels is told by the plans as the request finds them. -/
theorem State.cancelled_eq (s : State) (q : Request) (y : Option StopInProgress) :
    ((s.take q).putStop y).cancelPending.cancelLoad =
      (((s.take q).putStop y).dropSwitch s.plans).dropActivation s.plans := by
  obtain ⟨h, b, take⟩ := s.take_frame q
  have plans : ((s.take q).putStop y).plans = { s.plans with stop := y } := by
    rw [take]
    rfl
  have switch : ((s.take q).putStop y).cancelPending = ((s.take q).putStop y).dropSwitch s.plans := by
    rw [State.cancelPending_eq, plans]
    rfl
  rw [State.cancelLoad_eq, ← switch, State.dropActivation, State.dropActivation, State.cancelPending_load, plans]

/-- A STOP that is taken: what it cancels, and its place in the Plan Store. -/
theorem State.stopRequest_taken (s : State) (q : Request) (ha : s.device = .active) (hn : s.plans.stop = none) :
    let start (begun : Bool) : StopInProgress :=
      { index := q.index, begun := begun, step := 1, held := ⟨false, false⟩, flushed := ⟨false, false⟩,
        purged := ⟨false, false⟩ }
    let taken (begun : Bool) : State := ((s.take q).putStop (some (start begun))).cancelPending.cancelLoad
    s.stopRequest q = if s.plans.protocol.isNone = true then
      State.snapshotsCancelled { taken true with rails := ⟨s.rails.a.stopBegins, s.rails.b.stopBegins⟩ } else taken false := by
  intro start taken
  obtain ⟨h, b, take⟩ := s.take_frame q
  have moved (begun : Bool) : taken begun = (s.take q).cancelPending.cancelLoad.putStop (some (start begun)) := by
    simp only [taken]
    rw [State.cancelPending_putStop, State.cancelLoad_putStop]
  have protocol : (taken false).plans.protocol = s.plans.protocol := by
    simp only [taken]
    rw [State.cancelLoad_protocol, State.cancelPending_protocol, take]
    rfl
  have rails : (taken false).rails = s.rails := by
    simp only [taken]
    rw [State.cancelLoad_rails, State.cancelPending_rails, take]
    rfl
  have stop : (taken false).plans.stop = some (start false) := by
    rw [moved]
    rfl
  have unfolded : s.stopRequest q = if (taken false).plans.protocol.isNone = true then (taken false).beginStop else taken false := by
    rw [State.stopRequest, if_neg (by simp [ha]), if_neg (by simp [hn])]
    rfl
  have begun : (taken false).modPlans (fun p => { p with stop := some { start false with begun := true } }) = taken true := by
    rw [moved, moved]
    rfl
  rw [unfolded, protocol, State.beginStop_eq _ _ stop, begun, rails]

/-! ## Rails held and flushed (R36) -/

/-- A rail held is ordered to close its tracks with FLUSHED. -/
theorem State.railHeld_stop (s : State) (r : Rail) (x : StopInProgress) (hl : s.device ≠ .locked)
    (hp : s.plans.protocol = none) (hx : s.plans.stop = some x) (hb : x.begun = true) (hh : x.held.get r = false) :
    s.railHeld r =
      (s.modPlans fun p => { p with stop := some { x with held := x.held.set r true, step := max 2 x.step } }).orderTrack
        r .stop := by
  rw [State.railHeld, if_neg hl, hp, hx]
  dsimp only
  rw [if_pos ⟨hb, hh⟩, State.modStop_eq s x _ hx]

theorem exec_stopFlushDone (r : Rail) (n : Nat) (s : State) (x : StopInProgress) (h : s.plans.stopDone.get r = n + 1)
    (hl : s.device ≠ .locked) (hx : s.plans.stop = some x) : exec (.stopFlushDone r) s =
      .next ((s.modPlans fun p =>
        { p with stopDone := p.stopDone.set r n,
                 stop := some { x with flushed := x.flushed.set r true, step := max 4 x.step } }).orderMark r .stopPurge) := by
  show execStopFlushDone r s = _
  rw [execStopFlushDone, if_neg (by omega),
    s.modPlans_congr _ (fun p => { p with stopDone := p.stopDone.set r n }) (by rw [Both.modify_pred _ r n h])]
  simp only [State.modPlans_device, State.modPlans_plans, hl, hx, Option.isNone_some, Bool.false_eq_true, or_self, if_false]
  rw [State.modStop_eq _ x]
  · rfl
  · exact hx

end Sys2Proof.Machine
end

section
/-! PROOFS. The end of a stop (O50). -/

namespace Sys2Proof.Machine

/-! ## Rails turned off (R36, R43) -/

/-- A rail without what the end of its shot and of its link changes. -/
def RailBlocks.eased (b : RailBlocks) : RailBlocks :=
  { b with seq := { b.seq with state := .off, counters := .zero }, shot := none, link := (State.reset.rail .A).link }

/-- A snapshot without the sweeps it has counted. -/
def Snapshot.eased (x : Snapshot) : Snapshot := { x with sweeps := 0 }

/-- A state without what turning a rail off changes. -/
def State.eased (s : State) : State :=
  { s with rails := ⟨s.rails.a.eased, s.rails.b.eased⟩, alarm := { s.alarm with reports := [] },
           req := { s.req with snapshot := ⟨s.req.snapshot.a.map Snapshot.eased, s.req.snapshot.b.map Snapshot.eased⟩ } }

theorem State.count_eased (s : State) (r : Rail) (f : SurveyCounters → SurveyCounters) : (s.count r f).eased = s.eased := by
  cases r <;> rfl

theorem State.sweepEnded_eased (s : State) (r : Rail) : (s.sweepEnded r).eased = s.eased := by
  have key (o : Option Snapshot) : (o.map fun x => if x.capture.isNone = true then
      { x with sweeps := min Config.snapshotSweeps (x.sweeps + 1) } else x).map Snapshot.eased = o.map Snapshot.eased := by
    cases o with
    | none => rfl
    | some x =>
      simp only [Option.map_some, Option.some.injEq]
      split <;> rfl
  cases r <;> simp only [State.eased, State.sweepEnded, State.modReq, Both.modify, Both.set, Both.get, key]

theorem State.countSweepOf_eased (s : State) (r : Rail) (x : Shot) : (s.countSweepOf r x).eased = s.eased := by
  unfold State.countSweepOf
  split <;> exact (State.sweepEnded_eased _ r).trans (s.count_eased r _)

theorem State.abandonShot_eased (s : State) (r : Rail) : (s.abandonShot r).eased = s.eased := by
  unfold State.abandonShot
  split
  · rfl
  · dsimp only
    rw [State.countSweepOf_eased, State.count_eased]
    cases r <;> rfl

theorem State.holdLink_eased (s : State) (r : Rail) : (s.holdLink r).eased = s.eased := by
  unfold State.holdLink
  dsimp only
  split <;> cases r <;> rfl

theorem State.held_eased (s : State) (r : Rail) : (s.eased.rail r).seq.held = (s.rail r).seq.held := by
  cases r <;> rfl

theorem State.reportHeld_of_free (s : State) (r : Rail) (h : (s.rail r).seq.held = false) : s.reportHeld r = s := by
  unfold State.reportHeld
  dsimp only
  rw [if_neg (by simp [h])]

/-- A rail not held and turned off. -/
theorem State.railOff_eased (s : State) (r : Rail) (h : (s.rail r).seq.held = false) : (s.railOff r).eased = s.eased := by
  have e : (((s.abandonShot r).modSeq r fun q => { q with state := .off }).holdLink r).eased = s.eased := by
    rw [State.holdLink_eased, ← s.abandonShot_eased r]
    cases r <;> rfl
  rw [State.railOff, State.reportHeld_of_free, e]
  rw [← State.held_eased, e, State.held_eased, h]

/-! ## The rails as a stop ends (R36) -/

/-- A rail as a stop leaves it. -/
def RailBlocks.stopped (b : RailBlocks) : RailBlocks :=
  { b with seq := { b.seq with held := false, heldReported := false, orders := [] },
           asm := { b.asm with stopping := false, orders := b.asm.orders.filter (· != .stopBegun) },
           mrk := { b.mrk with nozzles := b.mrk.nozzles.map Nozzle.drop } }

theorem State.stopRail_eased (s : State) (r : Rail) :
    ((((s.clearStopping r).dropNozzles r).freeSeq r).railOff r).eased = (s.eased.modRail r RailBlocks.stopped) := by
  rw [State.railOff_eased]
  · cases r <;> rfl
  · simp [State.freeSeq]

theorem State.stopRails_eased (s : State) :
    (s.bothRails fun r s => (((s.clearStopping r).dropNozzles r).freeSeq r).railOff r).eased =
      { s.eased with rails := ⟨s.eased.rails.a.stopped, s.eased.rails.b.stopped⟩ } := by
  rw [State.bothRails, State.stopRail_eased, State.stopRail_eased]
  rfl

/-! ## The levels of the sources (R146, R151) -/

/-- The levels of the alarm sources. -/
def State.levels (s : State) : List Nat := s.alarm.sources.map SourceRecord.level

theorem State.modSource_levels (s : State) (src : Source) (f : SourceRecord → SourceRecord) (h : ∀ x, (f x).level = x.level) :
    (s.modSource src f).levels = s.levels := by
  refine List.ext_getElem? fun i => ?_
  simp only [State.levels, State.modSource, State.modAlarm, AlarmUnit.modSource, List.getElem?_map, List.getElem?_modify]
  cases s.alarm.sources[i]? with
  | none => simp
  | some x =>
    simp only [Option.map_eq_map, Option.map_some]
    split <;> simp [h]

theorem State.offer_levels (s : State) (who : Producer) (x : Rec) : (s.offer who x).levels = s.levels := by
  unfold State.offer
  split <;> rfl

theorem State.setCause_levels (s : State) (c : AttnCause) : (s.setCause c).levels = s.levels := by
  unfold State.setCause
  dsimp only
  (repeat' split) <;> rfl

theorem State.alarmRecord_levels (s : State) (src : Source) (action : AlarmAction) (raises : Nat) (conflict : Bool) :
    (s.alarmRecord src action raises conflict).levels = s.levels := s.offer_levels ..

theorem State.raiseSoft_levels (s : State) (src : Source) : (s.raiseSoft src).levels = s.levels := by
  unfold State.raiseSoft
  split
  · rfl
  · exact s.modSource_levels src _ fun _ => rfl
  · exact s.modSource_levels src _ fun _ => rfl
  · exact State.alarmRecord_levels ..
  · rw [State.alarmRecord_levels]
    exact s.modSource_levels src _ fun _ => rfl

theorem State.clearDisabled_levels (s : State) (src : Source) : (s.clearDisabled src).levels = s.levels := by
  unfold State.clearDisabled
  dsimp only
  split
  · rw [State.alarmRecord_levels]
    exact s.modSource_levels src _ fun _ => rfl
  · rfl

theorem State.raiseWaiting_levels (s : State) (src : Source) : (s.raiseWaiting src).levels = s.levels := by
  unfold State.raiseWaiting
  split
  · exact s.raiseSoft_levels src
  · rfl

theorem State.eachSource_levels (s : State) (f : State → Source → State) (h : ∀ s x, (f s x).levels = s.levels) :
    (s.eachSource f).levels = s.levels := by
  have key : ∀ (xs : List Source) (s : State), (xs.foldl f s).levels = s.levels := by
    intro xs
    induction xs with
    | nil => exact fun _ => rfl
    | cons x xs ih => exact fun s => (ih _).trans (h s x)
  exact key _ s

theorem State.setSoftLevels_levels (s : State) (levels : List Nat) : (s.setSoftLevels levels).levels =
    (indexed s.alarm.sources).map fun x => if x.1 < 12 then levels.getD x.1 0 else x.2.level := by
  unfold State.setSoftLevels State.formed
  dsimp only
  rw [apply_ite State.levels, State.setCause_levels, ite_self, State.eachSource_levels _ _ State.raiseWaiting_levels,
    State.eachSource_levels _ _ State.clearDisabled_levels]
  simp only [State.levels, State.modAlarm, List.map_map]
  refine List.map_congr_left fun x _ => ?_
  simp only [Function.comp_apply]
  split <;> rfl

/-- Every soft level is 4 once the ACTIVE bank is empty. -/
theorem State.defaultLevels_level (s : State) (h : s.alarm.sources.length = 15) (i : Nat) (hi : i < 12) :
    (s.defaultLevels.alarm.sources.getD i (.cleared 0)).level = 4 := by
  obtain ⟨x, hx⟩ : ∃ x, s.alarm.sources[i]? = some x := ⟨_, List.getElem?_eq_getElem (by omega)⟩
  have hi' : (List.range s.alarm.sources.length)[i]? = some i := List.getElem?_range (by omega)
  have he : (indexed s.alarm.sources)[i]? = some (i, x) := List.getElem?_zip_eq_some.mpr ⟨hi', hx⟩
  have hs : (s.setSoftLevels (List.replicate 12 Config.defaultSoftLevel)).levels[i]? = some 4 := by
    rw [State.setSoftLevels_levels, List.getElem?_map, he]
    simp only [Option.map_some, hi, if_true]
    rw [List.getD_eq_getElem?_getD, List.getElem?_replicate, if_pos hi]
    rfl
  rw [State.levels, List.getElem?_map] at hs
  obtain ⟨y, hy, hl⟩ := Option.map_eq_some_iff.mp hs
  rw [State.defaultLevels, List.getD_eq_getElem?_getD, hy]
  exact hl

/-! ## The request written DONE (R166) -/

/-- The request at an index is over: its copy is forgotten, and its entry stands in the trace with DONE. -/
def State.finished (s : State) (i address : Nat) : Prop :=
  s.req.taken.getD i none = none ∧ s.bus.causes.request = true ∧
    ∃ w, s.req.issued.getD i none = some w ∧ w.write.state = .done ∧ w.write.code = .ok ∧
      s.bus.trace[w.start + 3]? = some (.write address (le8 ReqState.done.code))

/-- What later writes keep of a request that is over. -/
theorem State.finished_of_append (s t : State) (i address : Nat) (h : s.finished i address)
    (taken : t.req.taken.getD i none = none) (issued : t.req.issued.getD i none = s.req.issued.getD i none)
    (causes : s.bus.causes.request = true → t.bus.causes.request = true)
    (trace : ∃ xs, t.bus.trace = s.bus.trace ++ xs) : t.finished i address := by
  obtain ⟨-, hc, w, hw, hs, ho, ht⟩ := h
  obtain ⟨xs, hx⟩ := trace
  refine ⟨taken, causes hc, w, issued.trans hw, hs, ho, ?_⟩
  rw [hx, List.getElem?_append_left (List.getElem?_eq_some_iff.mp ht).1, ht]

theorem State.setCause_request (s : State) (c : AttnCause) (h : s.bus.causes.request = true) :
    (s.setCause c).bus.causes.request = true := by
  unfold State.setCause
  dsimp only
  cases c <;> (repeat' split) <;> simp_all [State.modBus, State.issue, AttnBits.put]

theorem State.setCause_trace (s : State) (c : AttnCause) : ∃ xs, (s.setCause c).bus.trace = s.bus.trace ++ xs := by
  unfold State.setCause
  dsimp only
  split
  · exact ⟨[], (List.append_nil _).symm⟩
  · split
    · exact ⟨[.message c], rfl⟩
    · exact ⟨[], (List.append_nil _).symm⟩

theorem State.setCause_finished (s : State) (c : AttnCause) (i address : Nat) (h : s.finished i address) :
    (s.setCause c).finished i address :=
  s.finished_of_append _ i address h (by rw [State.setCause_req]; exact h.1) (by rw [State.setCause_req])
    (s.setCause_request c) (s.setCause_trace c)

theorem State.announce_finished (s : State) (i address : Nat) (h : s.finished i address) :
    s.announce.finished i address := by
  refine State.setCause_finished _ .state i address (s.finished_of_append _ i address h h.1 rfl id ⟨_, rfl⟩)

theorem getD_set_ne {α : Type} (xs : List (Option α)) (i j : Nat) (x : Option α) (h : j ≠ i) :
    (xs.set j x).getD i none = xs.getD i none := by
  rw [List.getD_eq_getElem?_getD, List.getElem?_set_ne h, List.getD_eq_getElem?_getD]

/-- The entry written, its result not yet announced. -/
def State.entered (s : State) (i : Nat) (w : EntryWrite) : State :=
  (s.issue (entryAccesses (s.entryAddress i) w)).modReq fun q =>
    { q with pendingWrites := q.pendingWrites.set i none,
             issued := q.issued.set i (some { write := w, start := s.bus.trace.length,
                                              count := (entryAccesses (s.entryAddress i) w).length })
             taken := q.taken.set i none }

theorem State.complete_of_unlocked (s : State) (i : Nat) (state : ReqState) (code : ResultCode) (words : List Byte)
    (hl : s.device ≠ .locked) (hs : state ≠ .taken) : ∃ announced tag, s.complete i state code words =
      ((s.entered i { state := state, code := code, words := words, tag := tag }).modReq fun q =>
        { q with announced := announced }).setCause .request := by
  rw [State.complete, State.writeEntry, if_neg hl, State.issueEntry]
  dsimp only
  simp only [if_neg hs]
  rw [if_pos (Or.inl hs), State.announceEntry]
  exact ⟨_, _, rfl⟩

theorem State.setCause_set (s : State) (c : AttnCause) : (s.setCause c).bus.causes.get c = true := by
  unfold State.setCause
  dsimp only
  split
  · assumption
  · cases c <;> split <;> rfl

/-- A completion elsewhere leaves a request over. -/
theorem State.complete_finished_of_ne (s : State) (i j address : Nat) (state : ReqState) (code : ResultCode)
    (words : List Byte) (hl : s.device ≠ .locked) (hs : state ≠ .taken) (hj : j ≠ i) (h : s.finished i address) :
    (s.complete j state code words).finished i address := by
  obtain ⟨announced, tag, e⟩ := s.complete_of_unlocked j state code words hl hs
  rw [e]
  refine State.setCause_finished _ .request i address (s.finished_of_append _ i address h ?_ ?_ id ⟨_, rfl⟩)
  · exact (getD_set_ne s.req.taken i j none hj).trans h.1
  · exact getD_set_ne s.req.issued i j _ hj

/-- A completion with DONE. -/
theorem State.complete_finished (s : State) (i : Nat) (words : List Byte) (hl : s.device ≠ .locked) (hi : i < 8)
    (hn : s.req.issued.length = 8) :
    (s.complete i .done .ok words).finished i (s.bus.context + 256 + 64 * i) := by
  obtain ⟨announced, tag, e⟩ := s.complete_of_unlocked i .done .ok words hl nofun
  rw [e]
  refine ⟨?_, State.setCause_set _ .request, ?_⟩
  · rw [State.setCause_req]
    exact (getD_set_none s.req.taken i i).trans (if_pos rfl)
  · refine ⟨{ write := { state := .done, code := .ok, words := words, tag := tag }, start := s.bus.trace.length,
              count := 4 }, ?_, rfl, rfl, ?_⟩
    · rw [State.setCause_req]
      show (s.req.issued.set i _).getD i none = _
      rw [List.getD_eq_getElem?_getD, List.getElem?_set_self (by omega)]
      rfl
    · obtain ⟨xs, hx⟩ := State.setCause_trace _ .request
      rw [hx]
      show ((s.bus.trace ++ entryAccesses (s.entryAddress i) _) ++ xs)[s.bus.trace.length + 3]? = _
      rw [List.append_assoc, List.getElem?_append_right (by omega)]
      simp [entryAccesses, State.entryAddress]

theorem State.cancelSnapshot_finished (s : State) (r : Rail) (i address : Nat) (hl : s.device ≠ .locked)
    (hs : ∀ k, s.req.snapshot.get r = some k → k.index ≠ i) (h : s.finished i address) :
    (s.cancelSnapshot r).finished i address := by
  unfold State.cancelSnapshot
  split
  · exact h
  next k hk => exact State.complete_finished_of_ne _ i k.index address .refused .cancelled [] hl nofun (hs k hk) h

theorem Both.set_get {α : Type} (x : Both α) (r : Rail) : x.set r (x.get r) = x := by
  cases r <;> rfl

theorem State.complete_snapshot (s : State) (i : Nat) (state : ReqState) (code : ResultCode) (words : List Byte) :
    (s.complete i state code words).req.snapshot = s.req.snapshot := by
  unfold State.complete State.writeEntry State.issueEntry State.announceEntry
  dsimp only
  (repeat' split) <;> simp [State.modReq, State.issue, State.modBus]

theorem State.cancelSnapshot_snapshot (s : State) (r : Rail) :
    (s.cancelSnapshot r).req.snapshot = s.req.snapshot.set r none := by
  unfold State.cancelSnapshot
  split
  next hk => rw [← hk, Both.set_get]
  next k hk => rw [State.complete_snapshot]; rfl

/-! ## What changes the requests and the link only -/

/-- A state differs from another in the requests and the link only. -/
def State.writesTo (s t : State) : Prop := t = s.onto t

theorem State.writesTo_trans {s t u : State} (h : s.writesTo t) (k : t.writesTo u) : s.writesTo u := by
  unfold State.writesTo at *
  rw [k, h]
  rfl

theorem State.writesTo_blocks {s t : State} (h : s.writesTo t) : t.device = s.device ∧ t.pos = s.pos ∧ t.plans = s.plans ∧
    t.rails = s.rails ∧ t.coupling = s.coupling ∧ t.alarm = s.alarm := by
  unfold State.writesTo at h
  rw [h]
  exact ⟨rfl, rfl, rfl, rfl, rfl, rfl⟩

theorem State.complete_writesTo (s : State) (i : Nat) (state : ReqState) (code : ResultCode) (words : List Byte) :
    s.writesTo (s.complete i state code words) := (s.complete_onto s i state code words rfl)

theorem State.cancelSnapshot_writesTo (s : State) (r : Rail) : s.writesTo (s.cancelSnapshot r) := by
  unfold State.cancelSnapshot
  split
  · rfl
  · refine State.writesTo_trans (t := s.modReq _) rfl (State.complete_writesTo _ _ _ _ _)

theorem State.cancelInBound_writesTo (s : State) : s.writesTo s.cancelInBound := by
  unfold State.cancelInBound
  split
  · exact State.writesTo_trans (s.cancelSnapshot_writesTo .A) (State.cancelSnapshot_writesTo _ .B)
  · rfl

theorem State.announce_writesTo (s : State) : s.writesTo s.announce :=
  State.writesTo_trans (t := s.rewriteStatus) rfl (State.setCause_onto s.rewriteStatus s.rewriteStatus .state)

/-- The end of a stop: its request is written DONE, snapshots are cancelled in BOUND, and the state is announced. -/
def State.closeStop (s : State) (i : Nat) : State := (s.complete i .done .ok []).cancelInBound.announce

theorem State.closeStop_writesTo (s : State) (i : Nat) : s.writesTo (s.closeStop i) :=
  State.writesTo_trans (s.complete_writesTo i .done .ok [])
    (State.writesTo_trans (State.cancelInBound_writesTo _) (State.announce_writesTo _))

theorem State.announce_snapshot (s : State) : s.announce.req.snapshot = s.req.snapshot := by
  rw [State.announce, State.setCause_req]
  rfl

theorem State.closeStop_snapshot (s : State) (i : Nat) (h : s.device = .bound) :
    (s.closeStop i).req.snapshot = ⟨none, none⟩ := by
  rw [State.closeStop, State.announce_snapshot, State.cancelInBound, if_pos (by rw [State.complete_device, h]),
    State.cancelSnapshots, State.bothRails, State.cancelSnapshot_snapshot, State.cancelSnapshot_snapshot]
  rfl

theorem State.cancelSnapshot_device (s : State) (r : Rail) : (s.cancelSnapshot r).device = s.device :=
  congrArg View.device (s.cancelSnapshot_view r)

theorem State.closeStop_finished (s : State) (i : Nat) (hl : s.device ≠ .locked) (hi : i < 8)
    (hn : s.req.issued.length = 8) (hs : ∀ o k, s.req.snapshot.get o = some k → k.index ≠ i) :
    (s.closeStop i).finished i (s.bus.context + 256 + 64 * i) := by
  have done := s.complete_finished i [] hl hi hn
  refine State.announce_finished _ i _ ?_
  unfold State.cancelInBound
  split
  next hb =>
    have first : ((s.complete i .done .ok []).cancelSnapshot .A).finished i (s.bus.context + 256 + 64 * i) :=
      State.cancelSnapshot_finished _ .A i _ (by rw [hb]; nofun) (by rw [State.complete_snapshot]; exact hs .A) done
    refine State.cancelSnapshot_finished _ .B i _ (by rw [State.cancelSnapshot_device, hb]; nofun) (fun k hk => ?_) first
    rw [State.cancelSnapshot_snapshot, State.complete_snapshot] at hk
    exact hs .B k hk
  · exact done

/-! ## The end of a stop -/

theorem State.leaveActive_eq (s : State) : s.leaveActive =
    { s with device := if s.device = .faulted then .faulted else .bound,
             alarm := { s.alarm with remembered := if s.device = .faulted then some .bound else s.alarm.remembered } } := by
  unfold State.leaveActive
  split
  next h =>
    rw [State.modAlarm, ← h]
  next h => rfl

/-- The ACTIVE bank emptied, and the Coupling Monitor told. -/
def State.emptied (s : State) : State := s.emptyActive.orderCoupling .planEnded

/-- The rails as a stop leaves them. -/
def State.railsStopped (s : State) : State :=
  s.bothRails fun r s => (((s.clearStopping r).dropNozzles r).freeSeq r).railOff r

theorem State.finishStop_eq (s : State) (i : Nat) :
    s.finishStop i = (s.emptied.railsStopped.putStop none).leaveActive.closeStop i := rfl

theorem State.emptied_blocks (s : State) : s.emptied.device = s.device ∧ s.emptied.pos = s.pos ∧
    s.emptied.plans = { s.plans with active := .cleared } ∧
    s.emptied.coupling = { s.coupling with orders := s.coupling.orders ++ [.planEnded] } ∧ s.emptied.req = s.req ∧
    s.emptied.rails = s.rails ∧ s.emptied.bus.context = s.bus.context := by
  obtain ⟨sources, suppressed, presented, causes, trace, e⟩ :=
    (s.modPlans fun p => { p with active := .cleared }).setSoftLevels_frame (List.replicate 12 Config.defaultSoftLevel)
  rw [State.emptied, State.emptyActive, State.defaultLevels, e]
  exact ⟨rfl, rfl, rfl, rfl, rfl, rfl, rfl⟩

/-- The state before a stop's requests are written. -/
def State.stopped (s : State) : State := (s.emptied.railsStopped.putStop none).leaveActive

/-- What a stop does outside the rails, its requests apart. -/
theorem State.stopped_blocks (s : State) : s.stopped.pos = s.pos ∧ s.stopped.plans.active = .cleared ∧
    s.stopped.plans.stop = none ∧
    s.stopped.coupling = { s.coupling with orders := s.coupling.orders ++ [.planEnded] } ∧
    s.stopped.device = (if s.device = .faulted then .faulted else .bound) ∧
    (s.device = .faulted → s.stopped.alarm.remembered = some .bound) ∧
    s.stopped.bus.context = s.bus.context ∧ s.stopped.req.issued = s.req.issued := by
  have rails := State.stopRails_eased s.emptied
  obtain ⟨device, pos, plans, coupling, req, -, context⟩ := s.emptied_blocks
  have device' : s.emptied.railsStopped.device = s.device := (congrArg State.device rails).trans device
  have plans' : s.emptied.railsStopped.plans = { s.plans with active := .cleared } := (congrArg State.plans rails).trans plans
  have issued : s.emptied.railsStopped.req.issued = s.emptied.req.issued := congrArg (fun x => x.req.issued) rails
  rw [State.stopped, State.leaveActive_eq]
  refine ⟨(congrArg State.pos rails).trans pos, congrArg PlanStore.active plans', rfl,
    (congrArg State.coupling rails).trans coupling, ?_, fun h => if_pos (device'.trans h),
    (congrArg (fun x => x.bus.context) rails).trans context, issued.trans (by rw [req])⟩
  exact congrArg (fun d => if d = OpState.faulted then OpState.faulted else .bound) device'

theorem State.stopped_sources (s : State) : s.stopped.alarm.sources = s.emptied.alarm.sources := by
  rw [State.stopped, State.leaveActive_eq]
  exact congrArg (fun x => x.alarm.sources) (State.stopRails_eased s.emptied)

/-- The snapshots in flight are those there were. -/
theorem State.stopped_snapshot (s : State) (o : Rail) :
    (s.stopped.req.snapshot.get o).map Snapshot.index = (s.req.snapshot.get o).map Snapshot.index := by
  have index (x : Both (Option Snapshot)) : (x.get o).map Snapshot.index =
      (((⟨x.a.map Snapshot.eased, x.b.map Snapshot.eased⟩ : Both (Option Snapshot)).get o).map Snapshot.index) := by
    cases o <;> simp only [Both.get, Option.map_map] <;> rfl
  obtain ⟨-, -, -, -, req, -, -⟩ := s.emptied_blocks
  rw [State.stopped, State.leaveActive_eq]
  show (s.emptied.railsStopped.req.snapshot.get o).map Snapshot.index = _
  rw [index, ← req, index s.emptied.req.snapshot]
  exact congrArg (fun x : State => (x.req.snapshot.get o).map Snapshot.index) (State.stopRails_eased s.emptied)

theorem State.eased_rail (s : State) (o : Rail) : s.eased.rail o = (s.rail o).eased := by
  cases o <;> rfl

theorem State.stopped_rail (s : State) (o : Rail) : (s.stopped.rail o).eased = (s.rail o).eased.stopped := by
  obtain ⟨-, -, -, -, -, emptied, -⟩ := s.emptied_blocks
  have same : s.stopped.rail o = s.emptied.railsStopped.rail o := by
    rw [State.stopped, State.leaveActive_eq]
    rfl
  have rail : s.emptied.rail o = s.rail o := congrArg (Both.get · o) emptied
  rw [same, ← State.eased_rail, State.railsStopped, State.stopRails_eased, ← rail, ← State.eased_rail]
  cases o <;> rfl

theorem Nozzle.drop_desc (z : Nozzle) : z.drop.desc = none ∧ z.drop.position = none := ⟨rfl, rfl⟩

/-- What a stop leaves of a rail. -/
theorem State.stopped_railBlocks (s : State) (o : Rail) : (s.stopped.rail o).seq.held = false ∧
    (s.stopped.rail o).asm.stopping = false ∧ (s.stopped.rail o).mrk.queue = (s.rail o).mrk.queue ∧
    ∀ z ∈ (s.stopped.rail o).mrk.nozzles, z.desc = none ∧ z.position = none := by
  have e := s.stopped_rail o
  have mrk : (s.stopped.rail o).mrk = { (s.rail o).mrk with nozzles := (s.rail o).mrk.nozzles.map Nozzle.drop } :=
    congrArg RailBlocks.mrk e
  refine ⟨congrArg (fun b => b.seq.held) e, congrArg (fun b => b.asm.stopping) e, by rw [mrk], fun z hz => ?_⟩
  rw [mrk] at hz
  obtain ⟨y, -, rfl⟩ := List.mem_map.mp hz
  exact y.drop_desc

/-! ## The second purge (R36, R139) -/

/-- The rail whose purge is the second, purged. -/
def State.lastPurged (s : State) (r : Rail) (rest : List MarkerOrder) (x : StopInProgress) : State :=
  ((s.putMarkOrders r rest).purge r .stopped).putStop (some { x with purged := x.purged.set r true })

theorem exec_markerStopPurge_last (r : Rail) (s : State) (x : StopInProgress) (rest : List MarkerOrder)
    (h : (s.rail r).mrk.orders = .stopPurge :: rest) (hx : s.plans.stop = some x) (hl : s.device ≠ .locked)
    (hother : ∀ other, other ≠ r → x.purged.get other = true) :
    exec (.markerStopPurge r) s = .next ((s.lastPurged r rest x).stopped.closeStop x.index) := by
  have both : (x.purged.set r true).a = true ∧ (x.purged.set r true).b = true := by
    cases r with
    | A => exact ⟨rfl, hother .B nofun⟩
    | B => exact ⟨hother .A nofun, rfl⟩
  have plans : ((s.putMarkOrders r rest).purge r .stopped).plans = s.plans := by
    rw [State.purge_eq]
    rfl
  have device : ((s.putMarkOrders r rest).purge r .stopped).device = s.device := by
    rw [State.purge_eq]
    rfl
  show execMarkerStopPurge r s = _
  unfold execMarkerStopPurge
  rw [h]
  dsimp only
  rw [State.railPurged, plans, hx]
  dsimp only
  rw [if_pos ⟨both.1, both.2, by rw [State.modStop, State.modPlans_device, device]; exact hl⟩,
    State.finishStop_eq, State.modStop_eq _ x _ (by rw [plans, hx])]
  rfl

/-- A purge changes its rail's queue, outputs and what it hands on. -/
theorem State.lastPurged_blocks (s : State) (r : Rail) (rest : List MarkerOrder) (x : StopInProgress) :
    (s.lastPurged r rest x).device = s.device ∧ (s.lastPurged r rest x).pos = s.pos ∧
    (s.lastPurged r rest x).coupling = s.coupling ∧ (s.lastPurged r rest x).req = s.req ∧
    (s.lastPurged r rest x).bus = s.bus ∧ (s.lastPurged r rest x).alarm.sources = s.alarm.sources ∧
    ((s.lastPurged r rest x).rail r).mrk.queue = [] := by
  rw [State.lastPurged, State.purge_eq]
  refine ⟨rfl, rfl, rfl, rfl, rfl, rfl, ?_⟩
  simp [State.putStop]

/-- A rail at the end of a stop. -/
def RailBlocks.atRest (b : RailBlocks) : Prop :=
  b.seq.state = .off ∧ b.seq.held = false ∧ b.asm.stopping = false ∧ b.shot = none ∧
    ∀ z ∈ b.mrk.nozzles, z.desc = none ∧ z.position = none

theorem State.closeStop_rails (s : State) (i : Nat) : (s.stopped.closeStop i).rails = s.stopped.rails :=
  (State.writesTo_blocks (s.stopped.closeStop_writesTo i)).2.2.2.1

theorem State.closeStop_atRest (s : State) (i : Nat) (o : Rail) : ((s.stopped.closeStop i).rail o).atRest := by
  have view : (s.stopped.closeStop i).view =
      { s.view with device := if s.device = OpState.faulted then .faulted else .bound, stop := false }.railsOff :=
    s.finishStop_view i
  have same : (s.stopped.closeStop i).rail o = s.stopped.rail o := congrArg (Both.get · o) (s.closeStop_rails i)
  obtain ⟨held, stopping, -, nozzles⟩ := s.stopped_railBlocks o
  rw [← same] at held stopping nozzles
  generalize s.stopped.closeStop i = t at view same held stopping nozzles ⊢
  have rails := congrArg View.rails view
  have off : (t.rail o).seq.state = .off ∧ (t.rail o).shot.isSome = false := by
    cases o with
    | A => exact ⟨congrArg (fun x => x.a.state) rails, congrArg (fun x => x.a.shot) rails⟩
    | B => exact ⟨congrArg (fun x => x.b.state) rails, congrArg (fun x => x.b.shot) rails⟩
  exact ⟨off.1, held, stopping, by simpa using off.2, nozzles⟩

theorem State.closeStop_queue (s : State) (i : Nat) (r : Rail) :
    ((s.stopped.closeStop i).rail r).mrk.queue = (s.rail r).mrk.queue := by
  obtain ⟨-, -, queue, -⟩ := s.stopped_railBlocks r
  rw [← queue]
  exact congrArg (fun x => (x.get r).mrk.queue) (s.closeStop_rails i)

theorem State.closeStop_blocks (s : State) (i : Nat) :
    (s.stopped.closeStop i).device = (if s.device = .faulted then .faulted else .bound) ∧
    (s.stopped.closeStop i).pos = s.pos ∧ (s.stopped.closeStop i).plans.active = .cleared ∧
    (s.stopped.closeStop i).plans.stop = none ∧
    (s.stopped.closeStop i).coupling = { s.coupling with orders := s.coupling.orders ++ [.planEnded] } ∧
    (s.device = .faulted → (s.stopped.closeStop i).alarm.remembered = some .bound) := by
  obtain ⟨device, pos, plans, -, coupling, alarm⟩ := State.writesTo_blocks (s.stopped.closeStop_writesTo i)
  obtain ⟨pos', active', stop', coupling', device', remembered', -, -⟩ := s.stopped_blocks
  rw [device, pos, plans, coupling, alarm]
  exact ⟨device', pos', active', stop', coupling', remembered'⟩

theorem State.closeStop_bound (s : State) (i : Nat) (h : s.device ≠ .faulted) :
    (s.stopped.closeStop i).req.snapshot = ⟨none, none⟩ := by
  obtain ⟨-, -, -, -, device, -, -, -⟩ := s.stopped_blocks
  exact s.stopped.closeStop_snapshot i (device.trans (if_neg h))

theorem State.closeStop_done (s : State) (i : Nat) (hi : i < 8)
    (hn : s.req.issued.length = 8) (hs : ∀ o k, s.req.snapshot.get o = some k → k.index ≠ i) :
    (s.stopped.closeStop i).finished i (s.bus.context + 256 + 64 * i) := by
  obtain ⟨-, -, -, -, device, -, context, issued⟩ := s.stopped_blocks
  rw [← context]
  refine s.stopped.closeStop_finished i ?_ hi (by rw [issued, hn]) fun o k ho hx => ?_
  · rw [device]
    split <;> nofun
  · have same := s.stopped_snapshot o
    rw [ho] at same
    obtain ⟨k', hk', e⟩ := Option.map_eq_some_iff.mp same.symm
    exact hs o k' hk' (e.trans hx)

theorem State.closeStop_level (s : State) (i : Nat) (h : s.alarm.sources.length = 15) (n : Nat) (hn : n < 12) :
    ((s.stopped.closeStop i).alarm.sources.getD n (.cleared 0)).level = 4 := by
  obtain ⟨-, -, -, -, -, alarm⟩ := State.writesTo_blocks (s.stopped.closeStop_writesTo i)
  rw [alarm, State.stopped_sources]
  exact State.defaultLevels_level (s.modPlans fun p => { p with active := .cleared }) h n hn

/-- Settles O50. -/
theorem stopRunsItsSteps : Obligations.StopRunsItsSteps := by
  intro r n s start begin_
  refine ⟨fun q rest hs hd hk => ?_, fun x hx hl => ⟨fun h hp hb hh => ?_, fun h => ?_, fun rest h hother => ?_⟩⟩
  · intro u
    have row : ∀ w : State, u.stopRequest q = w → w.req.scan = rest → w.device.scans = true →
        exec .stop s = .next (closeScan rest w) := fun w hw h1 h2 =>
      congrArg Host.Outcome.next (s.takeRequest_eq q rest _ _ hs (by simp [hk]) w hw h1 h2)
    have hu : u.device.scans = true := hd
    refine ⟨fun ha => row _ (if_pos ha) (by simp [u]) (by simpa using hu), fun ha hb => ?_, fun ha hn => ?_⟩
    · exact row _ ((if_neg (not_not.mpr ha)).trans (if_pos hb)) (by simp [u]) (by simpa using hu)
    intro running unswitched unloaded taken
    have stop := u.stopRequest_taken q ha hn
    have cancelled (begun : Bool) :
        ((u.take q).putStop (some (start begun q))).cancelPending.cancelLoad = taken begun :=
      u.cancelled_eq q (some (start begun q))
    have scan (begun : Bool) : (taken begun).req.scan = rest := by
      rw [← cancelled, State.cancelLoad_scan, State.cancelPending_scan]
      exact u.take_scan q
    have scans (begun : Bool) : (taken begun).device.scans = true := by
      rw [← cancelled, State.cancelLoad_device, State.cancelPending_device]
      exact (congrArg OpState.scans (u.take_device q)).trans hu
    refine ⟨fun hp => row _ (stop.trans ((if_neg ?_).trans (cancelled false))) (scan false) (scans false),
      fun hp => row _ (stop.trans ((if_pos ?_).trans ?_)) ?_ ?_⟩
    · intro k
      rw [show s.plans.protocol = none from Option.isNone_iff_eq_none.mp k] at hp
      cases hp
    · exact Option.isNone_iff_eq_none.mpr hp
    · exact congrArg (fun w : State => State.snapshotsCancelled
        { w with rails := ⟨s.rails.a.stopBegins, s.rails.b.stopBegins⟩ }) (cancelled true)
    · rw [State.snapshotsCancelled_scan]
      exact scan true
    · rw [State.snapshotsCancelled_device]
      exact scans true
  · exact (exec_railHeldReport r n s h).trans (congrArg Host.Outcome.next (State.railHeld_stop
      (s.modPlans fun p => { p with heldReports := p.heldReports.set r n }) r x hl hp hx hb hh))
  · exact exec_stopFlushDone r n s x h hl hx
  · refine ⟨_, exec_markerStopPurge_last r s x rest h hx hl hother, ?_⟩
    obtain ⟨device, pos, coupling, req, bus, sources, queue⟩ := s.lastPurged_blocks r rest x
    generalize s.lastPurged r rest x = v at device pos coupling req bus sources queue ⊢
    have atRest := v.closeStop_atRest x.index
    have done := v.closeStop_done x.index
    have bound := v.closeStop_bound x.index
    have level := v.closeStop_level x.index
    have queue' := (v.closeStop_queue x.index r).trans queue
    obtain ⟨device', pos', active', stop', coupling', remembered'⟩ := v.closeStop_blocks x.index
    generalize v.stopped.closeStop x.index = t at *
    rw [device] at device' remembered' bound
    rw [sources] at level
    rw [req, bus] at done
    exact ⟨device', remembered', active', stop', pos'.trans pos, by rw [coupling', coupling], bound,
      done, queue', level, atRest⟩

end Sys2Proof.Machine
end

section
/-! PROOFS. What the endings of an earlier plan leave of the banks (O48): taking them changes no plan, and of the Plan Store
only the reports on their way to it. -/

namespace Sys2Proof.Machine

/-! ## Handing on -/

@[simp] theorem State.offer_plans (s : State) (who : Producer) (x : Rec) : (s.offer who x).plans = s.plans := by
  unfold State.offer
  split <;> simp

@[simp] theorem State.raiseReport_plans (s : State) (who : Raiser) (src : Source) (d : Detail) :
    (s.raiseReport who src d).plans = s.plans := rfl

@[simp] theorem State.report_plans (s : State) (who : Raiser) (x : Report) : (s.report who x).plans = s.plans := rfl

theorem State.foldl_plans {α : Type} (f : State → α → State) (h : ∀ s x, (f s x).plans = s.plans) (xs : List α) (s : State) :
    (xs.foldl f s).plans = s.plans := by
  induction xs generalizing s with
  | nil => rfl
  | cons x xs ih => rw [List.foldl_cons, ih, h]

/-! ## The Coupling Monitor -/

@[simp] theorem State.setElement_plans (s : State) (r : Rail) (e : Nat) (x : ElementRecord) :
    (s.setElement r e x).plans = s.plans := rfl

@[simp] theorem State.recordLoss_plans (s : State) (r : Rail) (e : Nat) (reason : CouplingReason) (restored : Option Nat) :
    (s.recordLoss r e reason restored).plans = s.plans := by
  unfold State.recordLoss
  (repeat' split) <;> simp

@[simp] theorem State.reportLossEnd_plans (s : State) : (s.reportLossEnd).plans = s.plans := by
  unfold State.reportLossEnd
  (repeat' split) <;> simp

@[simp] theorem State.resetElement_plans (s : State) (r : Rail) (reason : CouplingReason) (f : Nat → CouplingState) (e : Nat) :
    (s.resetElement r reason f e).plans = s.plans := by
  simp [State.resetElement]

@[simp] theorem State.resetElements_plans (s : State) (r : Rail) (reason : CouplingReason) (f : Nat → CouplingState) :
    (s.resetElements r reason f).plans = s.plans :=
  State.foldl_plans _ (fun s e => s.resetElement_plans r reason f e) _ s

@[simp] theorem State.couplingEnds_plans (s : State) : (s.couplingEnds).plans = s.plans := by
  simp [State.couplingEnds]

@[simp] theorem State.judgeResult_plans (s : State) (r : Rail) (e : Nat) (present : Bool) (pc : Nat) :
    (s.judgeResult r e present pc).plans = s.plans := by
  unfold State.judgeResult
  dsimp only
  (repeat' split) <;> simp

@[simp] theorem State.filterHit_plans (s : State) (r : Rail) (h : Hit) : (s.filterHit r h).plans = s.plans := by
  unfold State.filterHit
  (repeat' split) <;> simp

/-! ## The Track Correlator -/

@[simp] theorem State.putTrack_plans (s : State) (r : Rail) (i : Nat) (x : Option Track) :
    (s.putTrack r i x).plans = s.plans := by
  simp [State.putTrack]

@[simp] theorem State.sendPath_plans (s : State) (r : Rail) (x : PathItem) : (s.sendPath r x).plans = s.plans := by
  simp [State.sendPath]

@[simp] theorem State.dropTrack_plans (s : State) (r : Rail) (i : Nat) (x : Track) (reason : DropReason) (cause : Option DropCause) :
    (s.dropTrack r i x reason cause).plans = s.plans := by
  simp [State.dropTrack]

@[simp] theorem State.closeTrack_plans (s : State) (r : Rail) (i : Nat) (x : Track) (reason : DropReason) (cause : Option DropCause) :
    (s.closeTrack r i x reason cause).plans = s.plans := by
  unfold State.closeTrack
  (repeat' split) <;> simp

@[simp] theorem State.joinTrack_plans (s : State) (r : Rail) (i : Nat) (k : Track) (h : Hit) :
    (s.joinTrack r i k h).plans = s.plans := by
  unfold State.joinTrack
  dsimp only
  (repeat' split) <;> simp

@[simp] theorem State.openTrack_plans (s : State) (r : Rail) (h : Hit) : (s.openTrack r h).plans = s.plans := by
  unfold State.openTrack
  dsimp only
  (repeat' split) <;> simp

@[simp] theorem State.takeHit_plans (s : State) (r : Rail) (h : Hit) : (s.takeHit r h).plans = s.plans := by
  unfold State.takeHit
  dsimp only
  (repeat' split) <;> simp

@[simp] theorem State.discardTracks_plans (s : State) (r : Rail) : (s.discardTracks r).plans = s.plans :=
  State.foldl_plans _ (fun s i => by split <;> simp) _ s

/-! ## The Marker Controller -/

@[simp] theorem State.modNozzle_plans (s : State) (r : Rail) (j : Nat) (f : Nozzle → Nozzle) :
    (s.modNozzle r j f).plans = s.plans := by
  simp [State.modNozzle]

@[simp] theorem State.unmark_plans (s : State) (r : Rail) (e : MarkEntry) (reason : UnmarkedReason) :
    (s.unmark r e reason).plans = s.plans := by
  simp [State.unmark]

@[simp] theorem State.sprayed_plans (s : State) (r : Rail) (e : MarkEntry) : (s.sprayed r e).plans = s.plans := by
  simp [State.sprayed]

@[simp] theorem State.putQueue_plans (s : State) (r : Rail) (xs : List MarkEntry) : (s.putQueue r xs).plans = s.plans := by
  simp [State.putQueue]

theorem State.eachMark_plans (s : State) (r : Rail) (f : State → MarkEntry → State × Option MarkEntry)
    (h : ∀ s e, (f s e).1.plans = s.plans) : (s.eachMark r f).plans = s.plans := by
  have key : ∀ (xs : List MarkEntry) (acc : State × List MarkEntry),
      (xs.foldl (fun acc e => ((f acc.1 e).1, acc.2 ++ (f acc.1 e).2.toList)) acc).1.plans = acc.1.plans := by
    intro xs
    induction xs with
    | nil => exact fun _ => rfl
    | cons e es ih => exact fun acc => (ih _).trans (h _ _)
  exact key _ (s, [])

@[simp] theorem State.placeMark_plans (s : State) (r : Rail) (e : MarkEntry) (queue : List MarkEntry) (sprayedBefore : Bool) :
    (s.placeMark r e queue sprayedBefore).plans = s.plans := by
  unfold State.placeMark
  (repeat' split) <;> simp

@[simp] theorem State.answerMark_plans (s : State) (r : Rail) (x : MarkerStatus) : (s.answerMark r x).plans = s.plans := by
  simp [State.answerMark]

@[simp] theorem State.rejectMark_plans (s : State) (r : Rail) (e : MarkEntry) (reason : UnmarkedReason) (x : MarkerStatus) :
    (s.rejectMark r e reason x).plans = s.plans := by
  simp [State.rejectMark]

@[simp] theorem State.mergeMark_plans (s : State) (r : Rail) (e : MarkEntry) (n : Int) (within : Nat) :
    (s.mergeMark r e n within).plans = s.plans := by
  simp [State.mergeMark]

@[simp] theorem State.insertRequest_plans (s : State) (r : Rail) (e : MarkEntry) (n : Int) :
    (s.insertRequest r e n).plans = s.plans := by
  unfold State.insertRequest
  (repeat' split) <;> simp

@[simp] theorem State.judgeRequest_plans (s : State) (r : Rail) (e : MarkEntry) : (s.judgeRequest r e).plans = s.plans := by
  unfold State.judgeRequest
  dsimp only
  (repeat' split) <;> simp

@[simp] theorem State.purge_plans (s : State) (r : Rail) (reason : UnmarkedReason) : (s.purge r reason).plans = s.plans := by
  rw [State.purge_eq]
  rfl

@[simp] theorem State.removeUndefined_plans (s : State) (r : Rail) (descs : List (Option NozzleDesc)) :
    (s.removeUndefined r descs).plans = s.plans :=
  s.eachMark_plans r _ fun s e => by split <;> simp

@[simp] theorem State.translateEntry_plans (s : State) (r : Rail) (delta : Int) (e : MarkEntry) :
    (s.translateEntry r delta e).1.plans = s.plans := by
  unfold State.translateEntry
  dsimp only
  (repeat' split) <;> simp

@[simp] theorem State.rejudge_plans (s : State) (r : Rail) (old : List Nozzle) (e : MarkEntry) :
    (s.rejudge r old e).1.plans = s.plans := by
  unfold State.rejudge
  dsimp only
  (repeat' split) <;> simp

@[simp] theorem State.remerge_plans (r : Rail) (fuel : Nat) (todo kept merged : List MarkEntry) (s : State) :
    (State.remerge r fuel todo kept merged s).plans = s.plans := by
  induction fuel generalizing todo kept merged s with
  | zero => rfl
  | succ n ih =>
    cases todo with
    | nil => rfl
    | cons e es =>
      unfold State.remerge
      dsimp only
      split
      · exact ih _ _ _ _
      · rw [ih]
        split <;> simp

@[simp] theorem State.checkNozzles_plans (s : State) (r : Rail) : (s.checkNozzles r).plans = s.plans := by
  unfold State.checkNozzles
  dsimp only
  rw [State.remerge_plans, State.eachMark_plans _ _ _ fun s e => State.rejudge_plans s r _ e]
  simp

@[simp] theorem State.takeNozzleChecks_plans (r : Rail) (orders : List MarkerOrder) (s : State) :
    (State.takeNozzleChecks r orders s).plans = s.plans := by
  induction orders generalizing s with
  | nil => rfl
  | cons o rest ih => cases o <;> simp [State.takeNozzleChecks, State.putMarkOrders, ih]

@[simp] theorem State.answerRequest_plans (s : State) (r : Rail) : (s.answerRequest r).plans = s.plans := by
  unfold State.answerRequest
  dsimp only
  (repeat' split) <;> simp

/-! ## The Indication Assembler -/

@[simp] theorem State.drawNumber_plans (s : State) : s.drawNumber.plans = s.plans := rfl

@[simp] theorem State.endFinal_plans (s : State) (r : Rail) (f : Finalizing) (status : MarkerStatus) (requested : Bool) :
    (s.endFinal r f status requested).plans = s.plans := by
  unfold State.endFinal
  dsimp only
  (repeat' split) <;> simp

@[simp] theorem State.reportFlush_standby (s : State) (r : Rail) (m : FlushMark) :
    (s.reportFlush r m).plans.standby = s.plans.standby := by
  unfold State.reportFlush
  (repeat' split) <;> simp


@[simp] theorem State.finishJob_standby (s : State) (r : Rail) (after : AfterJob) :
    (s.finishJob r after).plans.standby = s.plans.standby := by
  unfold State.finishJob
  dsimp only
  (repeat' split) <;> simp


@[simp] theorem State.runJob_standby (r : Rail) (after : AfterJob) (todo : List (Entry × FinalCause)) (s : State) :
    (State.runJob r after todo s).plans.standby = s.plans.standby := by
  induction todo generalizing s with
  | nil => simp [State.runJob]
  | cons x xs ih =>
    obtain ⟨e, cause⟩ := x
    simp only [State.runJob]
    split
    · simp [ih]
    · simp

@[simp] theorem State.takeAnswer_standby (s : State) (r : Rail) : (s.takeAnswer r).plans.standby = s.plans.standby := by
  unfold State.takeAnswer
  (repeat' split) <;> simp


@[simp] theorem State.arriveAlone_standby (s : State) (r : Rail) (u : Entry) :
    (s.arriveAlone r u).plans.standby = s.plans.standby := by
  unfold State.arriveAlone
  dsimp only
  (repeat' split) <;> simp


@[simp] theorem State.arrive_standby (s : State) (r : Rail) (u : Entry) :
    (s.arrive r u).plans.standby = s.plans.standby := by
  unfold State.arrive
  dsimp only
  (repeat' split) <;> simp


@[simp] theorem State.takeSummary_standby (s : State) (r : Rail) (k : Track) :
    (s.takeSummary r k).plans.standby = s.plans.standby := by
  unfold State.takeSummary
  dsimp only
  (repeat' split) <;> simp


@[simp] theorem State.takeMarker_standby (s : State) (r : Rail) (m : FlushMark) :
    (s.takeMarker r m).plans.standby = s.plans.standby := by
  simp [State.takeMarker]


@[simp] theorem State.takePath_standby (r : Rail) (s : State) (x : PathItem) :
    (State.takePath r s x).plans.standby = s.plans.standby := by
  cases x <;> simp [State.takePath]


@[simp] theorem State.endEntries_standby (s : State) (r : Rail) : (s.endEntries r).plans.standby = s.plans.standby := by
  simp [State.endEntries]


/-! ## The endings of an earlier plan -/

@[simp] theorem State.reportHeld_standby (s : State) (r : Rail) : (s.reportHeld r).plans.standby = s.plans.standby := by
  unfold State.reportHeld
  dsimp only
  (repeat' split) <;> simp


@[simp] theorem State.takeReleased_standby (r : Rail) (s : State) (x : ReleaseItem) :
    (State.takeReleased r s x).plans.standby = s.plans.standby := by
  cases x <;> simp [State.takeReleased]


theorem State.foldl_standby {α : Type} (f : State → α → State) (h : ∀ s x, (f s x).plans.standby = s.plans.standby)
    (xs : List α) (s : State) : (xs.foldl f s).plans.standby = s.plans.standby := by
  induction xs generalizing s with
  | nil => rfl
  | cons x xs ih => rw [List.foldl_cons, ih, h]

@[simp] theorem State.drainReleases_standby (s : State) (r : Rail) :
    (s.drainReleases r).plans.standby = s.plans.standby := by
  unfold State.drainReleases
  dsimp only
  rw [State.foldl_plans _ fun s h => State.takeHit_plans s r h, State.modTrk_plans,
    State.foldl_standby _ fun s x => State.takeReleased_standby r s x]
  rfl

@[simp] theorem State.drainPath_standby (s : State) (r : Rail) : (s.drainPath r).plans.standby = s.plans.standby := by
  unfold State.drainPath
  dsimp only
  rw [State.foldl_standby _ fun s x => State.takePath_standby r s x]
  simp [State.putPath]

@[simp] theorem State.endTracks_standby (s : State) (r : Rail) : (s.endTracks r).plans.standby = s.plans.standby := by
  unfold State.endTracks
  dsimp only
  split <;> simp [State.putTrackOrders]


@[simp] theorem State.endMarks_standby (s : State) (r : Rail) : (s.endMarks r).plans.standby = s.plans.standby := by
  unfold State.endMarks
  dsimp only
  split <;> simp [State.putMarkOrders, State.dropNozzles]


@[simp] theorem State.endAssembly_standby (s : State) (r : Rail) : (s.endAssembly r).plans.standby = s.plans.standby := by
  unfold State.endAssembly
  dsimp only
  split <;> simp [State.putAsmOrders]


@[simp] theorem State.takeEndings_standby (s : State) (r : Rail) : (s.takeEndings r).plans.standby = s.plans.standby := by
  simp [State.takeEndings]


/-- What is left of an earlier plan leaves the STANDBY bank as it is. -/
theorem State.takeAllEndings_standby (s : State) : s.takeAllEndings.plans.standby = s.plans.standby := by
  unfold State.takeAllEndings State.bothRails
  dsimp only
  rw [State.takeEndings_standby, State.takeEndings_standby]
  split <;> simp

end Sys2Proof.Machine
end

section
/-! PROOFS. Loads and the activation from BOUND (O48). -/

namespace Sys2Proof.Machine

/-! ## Elements set afresh (R87, R88) -/

/-- The COUPLING records, of the elements of a list, that leave LOST. -/
def State.lossesOf (s : State) (r : Rail) (reason : CouplingReason) (es : List Nat) : List (Producer × Rec) :=
  if s.device = .unbound ∨ readerMask s.jrn.consumers .coupling = 0 then []
  else es.filterMap fun e =>
    if (s.coupling.element r e).state = .lost then
      some (.couplingMonitor, .coupling (s.couplingRecord r e reason none))
    else none

theorem State.lossesOf_range (s : State) (r : Rail) (reason : CouplingReason) :
    s.lossesOf r reason (List.range 12) = s.lossRecords r reason := by
  unfold State.lossesOf State.lossRecords
  rfl

/-- A rail's elements, and the records presented, replaced. -/
def State.setElements (s : State) (r : Rail) (xs : List ElementRecord) (records : List (Producer × Rec)) : State :=
  { s with coupling := { s.coupling with elements := s.coupling.elements.set r xs },
           jrn := { s.jrn with presented := s.jrn.presented ++ records } }

/-- The records depend on the elements, the position and who subscribes. -/
theorem State.lossesOf_congr {s t : State} (r : Rail) (reason : CouplingReason) (es : List Nat) (hd : t.device = s.device)
    (hc : t.jrn.consumers = s.jrn.consumers) (hp : t.pos = s.pos)
    (he : ∀ e ∈ es, t.coupling.element r e = s.coupling.element r e) : t.lossesOf r reason es = s.lossesOf r reason es := by
  unfold State.lossesOf
  rw [hd, hc]
  refine if_congr Iff.rfl rfl (List.filterMap_congr fun e h => ?_)
  rw [State.couplingRecord, State.couplingRecord, he e h, hp]

theorem State.lossesOf_append (s : State) (r : Rail) (reason : CouplingReason) (es fs : List Nat) :
    s.lossesOf r reason (es ++ fs) = s.lossesOf r reason es ++ s.lossesOf r reason fs := by
  unfold State.lossesOf
  split
  · rfl
  · exact List.filterMap_append

theorem State.recordLoss_eq (s : State) (r : Rail) (e : Nat) (reason : CouplingReason) :
    s.recordLoss r e reason none = { s with jrn := { s.jrn with presented := s.jrn.presented ++ s.lossesOf r reason [e] } } := by
  unfold State.recordLoss State.lossesOf State.offer
  by_cases hl : (s.coupling.element r e).state = .lost
  · have kind : (Rec.coupling (s.couplingRecord r e reason none)).kind = .coupling := rfl
    rw [if_pos hl, kind]
    by_cases hu : s.device = .unbound ∨ readerMask s.jrn.consumers .coupling = 0
    · rw [if_pos hu, if_pos hu, List.append_nil]
    · rw [if_neg hu, if_neg hu]
      simp [hl, State.modJrn]
  · simp [hl]

theorem State.setElements_element (s : State) (r : Rail) (xs : List ElementRecord) (records : List (Producer × Rec)) (e : Nat)
    (h : xs[e]? = (s.coupling.elements.get r)[e]?) :
    (s.setElements r xs records).coupling.element r e = s.coupling.element r e := by
  simp only [CouplingMonitor.element, State.setElements, Both.get_set_same, List.getD_eq_getElem?_getD, h]

/-- One element more set afresh. -/
theorem State.setElements_resetElement (s : State) (r : Rail) (reason : CouplingReason) (f : Nat → CouplingState)
    (xs : List ElementRecord) (records : List (Producer × Rec)) (e : Nat)
    (h : xs[e]? = (s.coupling.elements.get r)[e]?) : (s.setElements r xs records).resetElement r reason f e =
      s.setElements r (xs.set e (.fresh (f e))) (records ++ s.lossesOf r reason [e]) := by
  have losses : (s.setElements r xs records).lossesOf r reason [e] = s.lossesOf r reason [e] :=
    State.lossesOf_congr r reason [e] rfl rfl rfl fun x hx => by
      rw [List.mem_singleton.mp hx, s.setElements_element r xs records e h]
  rw [State.resetElement, State.recordLoss_eq, losses]
  simp only [State.setElement, State.setElements, State.modCoupling, List.append_assoc]
  cases r <;> rfl

/-- The first elements of a rail set afresh. -/
theorem State.resetElements_first (s : State) (r : Rail) (reason : CouplingReason) (f : Nat → CouplingState) (n : Nat)
    (hn : n ≤ (s.coupling.elements.get r).length) :
    (List.range n).foldl (fun s e => s.resetElement r reason f e) s =
      s.setElements r ((List.range n).map (fun e => .fresh (f e)) ++ (s.coupling.elements.get r).drop n)
        (s.lossesOf r reason (List.range n)) := by
  induction n with
  | zero =>
    have none_ : s.lossesOf r reason [] = [] := by
      unfold State.lossesOf
      split <;> rfl
    cases r <;> simp [State.setElements, none_, Both.set, Both.get]
  | succ n ih =>
    have next : (s.coupling.elements.get r).drop n =
        (s.coupling.elements.get r)[n] :: (s.coupling.elements.get r).drop (n + 1) := List.drop_eq_getElem_cons hn
    rw [List.range_succ, List.foldl_append, ih (by omega), List.foldl_cons, List.foldl_nil,
      State.setElements_resetElement, State.lossesOf_append, next, List.map_append, List.append_assoc]
    · congr 1
      rw [List.set_append_right _ _ (by simp), List.length_map, List.length_range, Nat.sub_self]
      rfl
    · rw [List.getElem?_append_right (by simp), next]
      simp

/-- Elements of a rail, all set afresh. -/
def freshElements (f : Nat → CouplingState) : List ElementRecord := (List.range 12).map fun e => .fresh (f e)

theorem freshElements_length (f : Nat → CouplingState) : (freshElements f).length = 12 := by
  simp [freshElements]

theorem mem_freshElements (f : Nat → CouplingState) (x : ElementRecord) (h : x ∈ freshElements f) :
    ∃ e, x = .fresh (f e) := by
  obtain ⟨e, -, rfl⟩ := List.mem_map.mp h
  exact ⟨e, rfl⟩

theorem State.resetElements_eq (s : State) (r : Rail) (reason : CouplingReason) (f : Nat → CouplingState)
    (h : (s.coupling.elements.get r).length = 12) : s.resetElements r reason f =
      s.setElements r (freshElements f) (s.lossRecords r reason) := by
  rw [State.resetElements, State.resetElements_first s r reason f 12 (by omega), State.lossesOf_range,
    List.drop_eq_nil_of_le (by omega), List.append_nil, freshElements]

/-! ## The rails as a plan comes into force (R29, R30, R133) -/

/-- The nozzles of a rail under a plan. -/
def Marker.adopted (m : Marker) (c : List Byte) (r : Rail) : Marker :=
  { m with
    sense := Plan.sense c
    nozzles := (indexed m.nozzles).map fun x =>
      let d := if x.1 < 4 then Plan.nozzle c r x.1 else none
      { x.2 with desc := d, position := d.map fun d => (m.p : Int) + Plan.sense c * d.offset } }

/-- A rail whose survey begins under a plan, at a T. -/
def RailBlocks.begun (b : RailBlocks) (c : List Byte) (t : Nat) (r : Rail) : RailBlocks :=
  { b with
    seq := { b.seq with
      counters := .zero
      nextMark := min 4294967295 (t + Plan.step c r)
      surveyMark := min 4294967295 (t + Plan.surveyInterval c) }
    eval := { b.eval with wedge := 0, beyond := 0 }
    trk := { b.trk with lost := 0 }
    mrk := b.mrk.adopted c r }

/-- A rail let on. -/
def RailBlocks.on (b : RailBlocks) : RailBlocks :=
  { b with
    seq := { b.seq with state := if b.seq.lift then .lifted else if b.link.state = .down then .linkDown else .waiting }
    link := { b.link with presence := true, good := 0, upSinceEntry := false } }

theorem State.nozzleDescs_getD (s : State) (r : Rail) (h : s.inForce = true) (j : Nat) :
    (s.nozzleDescs r).getD j none = if j < 4 then Plan.nozzle s.plan r j else none := by
  unfold State.nozzleDescs
  rw [List.getD_eq_getElem?_getD, List.getElem?_map]
  by_cases hj : j < 4
  · rw [List.getElem?_range hj, if_pos hj]
    simp [h]
  · rw [List.getElem?_eq_none (by simpa using hj), if_neg hj]
    rfl

theorem State.adoptNozzles_eq (s : State) (r : Rail) (h : s.inForce = true) :
    s.adoptNozzles r = s.modMrk r fun m => m.adopted s.plan r := by
  unfold State.adoptNozzles Marker.adopted
  simp only [s.nozzleDescs_getD r h]
  rfl

@[simp] theorem State.setMarks_plans (s : State) (r : Rail) : (s.setMarks r).plans = s.plans := rfl

@[simp] theorem State.startRail_plans (s : State) (r : Rail) : (s.startRail r).plans = s.plans := by
  simp [State.startRail, State.adoptNozzles, State.clearRailCounts, State.count]

/-- A rail whose survey begins, its marks set. -/
theorem State.startRail_eq (s : State) (r : Rail) (h : s.plans.active.state = .valid) : s.startRail r =
    (s.modRail r fun b =>
      { b with seq := { b.seq with counters := .zero }, eval := { b.eval with wedge := 0, beyond := 0 },
               trk := { b.trk with lost := 0 }, mrk := b.mrk.adopted s.plans.active.contents r }).modCoupling fun m =>
      { m with suppressed := m.suppressed.set r 0 } := by
  have plans : ((s.count r fun _ => .zero).clearRailCounts r).plans = s.plans := by
    simp [State.clearRailCounts, State.count]
  rw [State.startRail, State.adoptNozzles_eq _ r (by rw [State.inForce, plans, h]; rfl), State.plan, plans]
  cases r <;> rfl

theorem State.startRails_eq (s : State) (h : s.plans.active.state = .valid) :
    ((s.setMarks .A).setMarks .B).bothRails (fun r s => s.startRail r) =
      { s with rails := ⟨s.rails.a.begun s.plan s.pos.t .A, s.rails.b.begun s.plan s.pos.t .B⟩,
               coupling := { s.coupling with suppressed := ⟨0, 0⟩ } } := by
  rw [State.bothRails, State.startRail_eq _ .B (by simpa using h), State.startRail_plans, State.startRail_eq _ .A (by simpa using h),
    State.setMarks_plans, State.setMarks_plans]
  simp only [State.modCoupling, State.modRail, State.setMarks, State.modSeq, Both.modify, Both.set, Both.get, add32, State.plan,
    RailBlocks.begun, Config.maxU32]

/-! ## The Coupling Monitor at an activation (R88) -/

theorem ElementRecord.fresh_state (c : CouplingState) : (ElementRecord.fresh c).state = c := rfl

theorem State.lossesOf_none (s : State) (r : Rail) (reason : CouplingReason) (es : List Nat)
    (h : ∀ e ∈ es, (s.coupling.element r e).state ≠ .lost) : s.lossesOf r reason es = [] := by
  unfold State.lossesOf
  split
  · rfl
  · exact List.filterMap_eq_nil_iff.mpr fun e he => if_neg (h e he)

theorem State.lossRecords_congr {s t : State} (r : Rail) (reason : CouplingReason) (hd : t.device = s.device)
    (hc : t.jrn.consumers = s.jrn.consumers) (hp : t.pos = s.pos)
    (he : ∀ e, t.coupling.element r e = s.coupling.element r e) : t.lossRecords r reason = s.lossRecords r reason := by
  rw [← State.lossesOf_range, ← State.lossesOf_range]
  exact State.lossesOf_congr r reason _ hd hc hp fun e _ => he e

/-- The end of the loss condition, where it is held. -/
theorem State.reportLossEnd_eq (s : State) (h : s.coupling.anyLost = false) : s.reportLossEnd = { s with
    coupling := { s.coupling with lossFlag := false }
    alarm := { s.alarm with reports := s.alarm.reports ++
      if s.coupling.lossFlag then [(Raiser.couplingMonitor, Report.condEnd .couplingLoss none)] else [] } } := by
  unfold State.reportLossEnd
  by_cases hf : s.coupling.lossFlag = true
  · rw [if_pos ⟨hf, h⟩, if_pos hf]
    rfl
  · rw [if_neg fun k => hf k.1, if_neg hf, List.append_nil, ← Bool.not_eq_true _ |>.mp hf]

theorem CouplingMonitor.anyLost_fresh (m : CouplingMonitor) (f g : Nat → CouplingState) (hf : ∀ e, f e ≠ .lost)
    (hg : ∀ e, g e ≠ .lost) (h : m.elements = ⟨freshElements f, freshElements g⟩) : m.anyLost = false := by
  rw [CouplingMonitor.anyLost, CouplingMonitor.allElements, h, List.any_eq_false]
  intro x hx
  rcases List.mem_append.mp hx with hx | hx <;> obtain ⟨e, rfl⟩ := mem_freshElements _ x hx
  · simpa [ElementRecord.fresh] using hf e
  · simpa [ElementRecord.fresh] using hg e

theorem State.freshState_ne_lost (s : State) (r : Rail) (e : Nat) : s.freshState r e ≠ .lost := by
  unfold State.freshState
  split <;> nofun

/-- Both rails' elements set afresh by the plan in force, and the end of a loss reported. -/
theorem State.couplingReset_eq (s : State) (ha : s.coupling.elements.a.length = 12) (hb : s.coupling.elements.b.length = 12) :
    s.couplingReset = { s with
      coupling := { s.coupling with
        elements := ⟨freshElements (s.freshState .A), freshElements (s.freshState .B)⟩
        lossFlag := false }
      jrn := { s.jrn with presented :=
        s.jrn.presented ++ (s.lossRecords .A .planSwitch ++ s.lossRecords .B .planSwitch) }
      alarm := { s.alarm with reports := s.alarm.reports ++
        if s.coupling.lossFlag then [(Raiser.couplingMonitor, Report.condEnd .couplingLoss none)] else [] } } := by
  let first := s.setElements .A (freshElements (s.freshState .A)) (s.lossRecords .A .planSwitch)
  have second : first.resetElements .B .planSwitch (s.freshState .B) =
      first.setElements .B (freshElements (s.freshState .B)) (s.lossRecords .B .planSwitch) := by
    rw [first.resetElements_eq .B .planSwitch _ hb]
    exact congrArg _ (State.lossRecords_congr .B .planSwitch rfl rfl rfl fun _ => rfl)
  rw [State.couplingReset, s.resetElements_eq .A _ _ ha, second, State.reportLossEnd_eq]
  · simp only [first, State.setElements, List.append_assoc]
    rfl
  · exact CouplingMonitor.anyLost_fresh _ _ _ (s.freshState_ne_lost .A) (s.freshState_ne_lost .B) rfl

/-! ## In step with the carriages (R88) -/

theorem freshElements_getD (f : Nat → CouplingState) (e : Nat) :
    ((freshElements f).getD e (.fresh .unmonitored)) = .fresh (if e < 12 then f e else .unmonitored) := by
  rw [List.getD_eq_getElem?_getD, freshElements, List.getElem?_map]
  by_cases h : e < 12
  · rw [List.getElem?_range h, if_pos h]
    rfl
  · rw [List.getElem?_eq_none (by simpa using h), if_neg h]
    rfl

/-- A rail just reset is brought in step with its carriage: where it is lifted, so are its elements. -/
theorem State.carriageInStep_eq (s : State) (r : Rail) (f : Nat → CouplingState) (hc : s.coupling.carriage.get r = [])
    (he : s.coupling.elements.get r = freshElements f) (hf : ∀ e, f e ≠ .lost ∧ f e ≠ .lifted)
    (hl : s.coupling.lossFlag = false) : s.carriageInStep r =
      s.setElements r (freshElements fun e => if (s.rail r).seq.state = .lifted then .lifted else f e) [] := by
  have state (e : Nat) : (s.coupling.element r e).state ≠ .lost ∧ (s.coupling.element r e).state ≠ .lifted := by
    rw [CouplingMonitor.element, he, freshElements_getD, ElementRecord.fresh_state]
    split
    · exact hf e
    · exact ⟨nofun, nofun⟩
  have same : (s.modCoupling fun m => { m with carriage := m.carriage.set r [] }) = s := by
    rw [State.modCoupling, ← hc, Both.set_get]
  unfold State.carriageInStep
  rw [hc]
  dsimp only [List.foldl_nil]
  rw [same]
  by_cases h : (s.rail r).seq.state = .lifted
  · simp only [h, if_true]
    rw [State.liftRail, s.resetElements_eq r _ _ (by rw [he, freshElements_length]), ← State.lossesOf_range,
      s.lossesOf_none r .lifted _ fun e _ => (state e).1, State.reportLossEnd, if_neg]
    simp [State.setElements, hl]
  · simp only [h, if_false]
    rw [State.setElements, ← he, Both.set_get, List.append_nil]
    have idle : ∀ (es : List Nat), es.foldl (fun s e =>
        if (s.coupling.element r e).state = .lifted then s.setElement r e (.fresh (s.freshState r e)) else s) s = s := by
      intro es
      induction es with
      | nil => rfl
      | cons e es ih => rw [List.foldl_cons, if_neg (state e).2, ih]
    exact idle _

end Sys2Proof.Machine
end

section
/-! PROOFS. The end of a load (O48). -/

namespace Sys2Proof.Machine

/-! ## The activation from BOUND (R30) -/

theorem Both.eq_mk {α : Type} {a b : α} (x : Both α) (ha : x.a = a) (hb : x.b = b) : x = ⟨a, b⟩ := by
  rw [← ha, ← hb]

theorem RailBlocks.on_lifted (b : RailBlocks) : b.on.seq.state = .lifted ↔ b.seq.lift = true := by
  unfold RailBlocks.on
  dsimp only
  split
  next h => exact iff_of_true rfl h
  next h =>
    refine iff_of_false ?_ h
    split <;> nofun

/-- UNKNOWN for an element with a COUPLING gate in a plan, else UNMONITORED. -/
def gateState (c : List Byte) (r : Rail) (e : Nat) : CouplingState :=
  if Plan.hasGate c r e .coupling then .unknown else .unmonitored

theorem gateState_ne (c : List Byte) (r : Rail) (e : Nat) : gateState c r e ≠ .lost ∧ gateState c r e ≠ .lifted := by
  unfold gateState
  split <;> exact ⟨nofun, nofun⟩

theorem State.freshState_eq (s : State) (r : Rail) (h : s.plans.active.state = .valid) :
    s.freshState r = gateState s.plans.active.contents r := by
  funext e
  unfold State.freshState State.monitors State.inForce gateState
  rw [h]
  rfl

/-- The elements of a rail by a plan and its LIFT level. -/
def RailBlocks.asked (b : RailBlocks) (c : List Byte) (r : Rail) : List ElementRecord :=
  freshElements fun e => if b.seq.lift then .lifted else gateState c r e

/-- Both rails let on, just reset by a plan: lifted rails have their elements LIFTED. -/
theorem State.railsOn_eq (s : State) (c : List Byte) (hc : s.coupling.carriage = ⟨[], []⟩)
    (he : s.coupling.elements = ⟨freshElements (gateState c .A), freshElements (gateState c .B)⟩)
    (hl : s.coupling.lossFlag = false) : s.railsOn = { s with
      rails := ⟨s.rails.a.on, s.rails.b.on⟩
      coupling := { s.coupling with elements := ⟨s.rails.a.asked c .A, s.rails.b.asked c .B⟩ } } := by
  let u : State := { s with rails := ⟨s.rails.a.on, s.rails.b.on⟩ }
  have on : (s.bothRails fun r s => s.railOn r) = u := rfl
  have first := u.carriageInStep_eq .A (gateState c .A) (by rw [show u.coupling = s.coupling from rfl, hc]; rfl)
    (by rw [show u.coupling = s.coupling from rfl, he]; rfl) (gateState_ne c .A) hl
  let t := u.setElements .A (freshElements fun e => if (u.rail .A).seq.state = .lifted then .lifted else gateState c .A e) []
  have second := t.carriageInStep_eq .B (gateState c .B) (congrArg Both.b hc) (congrArg Both.b he) (gateState_ne c .B) hl
  have a : (freshElements fun e => if (u.rail .A).seq.state = .lifted then .lifted else gateState c .A e) =
      s.rails.a.asked c .A :=
    congrArg freshElements (funext fun _ => if_congr s.rails.a.on_lifted rfl rfl)
  have b : (freshElements fun e => if (t.rail .B).seq.state = .lifted then .lifted else gateState c .B e) =
      s.rails.b.asked c .B :=
    congrArg freshElements (funext fun _ => if_congr s.rails.b.on_lifted rfl rfl)
  rw [State.railsOn, on, State.bothRails, first, second, b]
  simp only [t, a, u, State.setElements, List.append_nil, Both.set]

/-- What a plan coming into force from BOUND does to the state that the endings of an earlier plan have left. -/
theorem State.activated_eq (v : State) (c : List Byte) (ha : v.coupling.carriage.a = []) (hb : v.coupling.carriage.b = [])
    (hla : v.coupling.elements.a.length = 12) (hlb : v.coupling.elements.b.length = 12)
    (hc : v.plans.standby.contents = c) :
    let w := v.swapBanks.setSoftLevels (Plan.alarmLevels c)
    ({ (v.swapBanks.planInForce.bothRails fun r s => s.startRail r).couplingReset with device := .active } : State).railsOn =
      { w with
        device := .active
        rails := ⟨(v.rails.a.begun c v.pos.t .A).on, (v.rails.b.begun c v.pos.t .B).on⟩
        coupling := { v.coupling with elements := ⟨v.rails.a.asked c .A, v.rails.b.asked c .B⟩, suppressed := ⟨0, 0⟩,
                                      lossFlag := false }
        jrn := { w.jrn with presented :=
          w.jrn.presented ++ (v.lossRecords .A .planSwitch ++ v.lossRecords .B .planSwitch) }
        alarm := { w.alarm with reports := w.alarm.reports ++
          if v.coupling.lossFlag then [(Raiser.couplingMonitor, Report.condEnd .couplingLoss none)] else [] } } := by
  intro w
  obtain ⟨sources, suppressed, presented, causes, trace, frame⟩ := v.swapBanks.setSoftLevels_frame (Plan.alarmLevels c)
  have valid : w.plans.active.state = .valid := by rw [show w = _ from frame]; rfl
  have contents : w.plans.active.contents = c := by rw [show w = _ from frame]; exact hc
  have rails : w.rails = v.rails := by rw [show w = _ from frame]; rfl
  have coupling : w.coupling = v.coupling := by rw [show w = _ from frame]; rfl
  have pos : w.pos = v.pos := by rw [show w = _ from frame]; rfl
  have device : w.device = v.device := by rw [show w = _ from frame]; rfl
  have consumers : w.jrn.consumers = v.jrn.consumers := by rw [show w = _ from frame]; rfl
  have force : v.swapBanks.planInForce = (w.setMarks .A).setMarks .B := by
    rw [State.planInForce, show v.swapBanks.plan = c from hc]
  clear_value w
  clear frame
  let x : State := { w with rails := ⟨w.rails.a.begun w.plan w.pos.t .A, w.rails.b.begun w.plan w.pos.t .B⟩,
                            coupling := { w.coupling with suppressed := ⟨0, 0⟩ } }
  have started : v.swapBanks.planInForce.bothRails (fun r s => s.startRail r) = x := by
    rw [force, State.startRails_eq w valid]
  have losses (r : Rail) : x.lossRecords r .planSwitch = v.lossRecords r .planSwitch :=
    State.lossRecords_congr r .planSwitch device consumers pos fun e =>
      congrArg (fun m : CouplingMonitor => CouplingMonitor.element { m with suppressed := ⟨0, 0⟩ } r e) coupling
  have fresh (r : Rail) : x.freshState r = gateState c r := (x.freshState_eq r valid).trans (by rw [contents])
  have reset := x.couplingReset_eq (by rw [← hla, ← coupling]) (by rw [← hlb, ← coupling])
  rw [losses, losses, fresh, fresh] at reset
  rw [started, reset, State.railsOn_eq _ c]
  · simp only [x, rails, coupling, pos, show w.plan = c from contents]
    rfl
  · exact (congrArg CouplingMonitor.carriage coupling).trans (Both.eq_mk _ ha hb)
  · rfl
  · rfl

/-! ## Nothing left of an earlier plan (log entry 28) -/

theorem State.modRail_same (s : State) (r : Rail) (f : RailBlocks → RailBlocks) (h : f (s.rail r) = s.rail r) :
    s.modRail r f = s := by
  have h' : f (s.rails.get r) = s.rails.get r := h
  rw [State.modRail, Both.modify, h', Both.set_get]

/-- A rail that has taken everything an earlier plan left. -/
def RailBlocks.drained (b : RailBlocks) : Prop :=
  b.eval.release = [] ∧ b.trk.hits = [] ∧ b.trk.path = [] ∧ b.asm.job = none ∧ .planEnded ∉ b.trk.orders ∧
    .planEnded ∉ b.mrk.orders ∧ .planEnded ∉ b.asm.orders

theorem State.drainReleases_same (s : State) (r : Rail) (hr : (s.rail r).eval.release = []) (hh : (s.rail r).trk.hits = []) :
    s.drainReleases r = s := by
  have release : s.putRelease r [] = s := s.modRail_same r _ (by rw [← hr])
  have hits : (s.modTrk r fun k => { k with hits := [] }) = s := s.modRail_same r _ (by rw [← hh])
  rw [State.drainReleases, hr, List.foldl_nil, release, hh, List.foldl_nil, hits]

theorem State.drainPath_same (s : State) (r : Rail) (hj : (s.rail r).asm.job = none) (hp : (s.rail r).trk.path = []) :
    s.drainPath r = s := by
  have path : s.putPath r [] = s := s.modRail_same r _ (by rw [← hp])
  have answer : s.answerRequest r = s := by
    unfold State.answerRequest
    rw [hj]
  have taken : s.takeAnswer r = s := by
    unfold State.takeAnswer
    rw [hj]
  rw [State.drainPath, answer, taken, hp, List.foldl_nil, path]

theorem State.takeEndings_same (s : State) (r : Rail) (h : (s.rail r).drained) : s.takeEndings r = s := by
  obtain ⟨release, hits, path, job, trk, mrk, asm⟩ := h
  have tracks : s.endTracks r = s := if_neg (by simpa using trk)
  have marks : s.endMarks r = s := if_neg (by simpa using mrk)
  have assembly : s.endAssembly r = s := if_neg (by simpa using asm)
  rw [State.takeEndings, s.drainReleases_same r release hits, tracks, marks, s.drainPath_same r job path, assembly]

theorem State.takeAllEndings_same (s : State) (hc : .planEnded ∉ s.coupling.orders) (h : ∀ r, (s.rail r).drained) :
    s.takeAllEndings = s := by
  unfold State.takeAllEndings
  rw [if_neg (by simpa using hc)]
  dsimp only
  rw [State.bothRails, s.takeEndings_same .A (h .A), s.takeEndings_same .B (h .B)]

/-! ## The end of a load (R27, R28) -/

theorem exec_planLoadComplete_check (l : Load) (bytes : List Byte) (s : State) (h : s.plans.load = some l)
    (hp : l.purpose = .check) : exec (.planLoadComplete bytes) s = .next (s.endCheck l (fitBytes l.length bytes)) := by
  show execPlanLoadComplete bytes s = _
  simp only [execPlanLoadComplete, h, hp]

theorem exec_planLoadComplete_activate (l : Load) (bytes : List Byte) (s : State) (h : s.plans.load = some l) (origin : Bool)
    (mode : SwitchMode) (position : Nat) (hp : l.purpose = .activate origin mode position) :
    exec (.planLoadComplete bytes) s = .next (s.endActivationLoad l (fitBytes l.length bytes) origin mode position) := by
  show execPlanLoadComplete bytes s = _
  simp only [execPlanLoadComplete, h, hp]

/-- The STANDBY bank holds a validated plan for a pending activation. -/
def State.pendingPlan (s : State) (c : List Byte) (a : PendingActivation) : State :=
  s.modPlans fun p =>
    { p with load := none, pendingActivation := some a, standby :=
        { state := .pending, contents := c, planId := Plan.planId c,
          codes := ⟨some (Plan.checkCode c .A), some (Plan.checkCode c .B)⟩ } }

theorem State.endActivationLoad_eq (s : State) (l : Load) (c : List Byte) (origin : Bool) (mode : SwitchMode) (position : Nat)
    (hf : (validate c l.length).1 = .none) (hb : ¬ (origin = true ∧ s.device = .bound)) :
    let a : PendingActivation :=
      { index := l.index, fromActive := origin, mode := mode, position := position, reached := false }
    s.endActivationLoad l c origin mode position =
      if origin = true then (s.pendingPlan c a).testSwitch
      else if s.device = .bound then (s.pendingPlan c a).activateFromBound a else s.pendingPlan c a := by
  intro a
  rw [State.endActivationLoad, if_neg (not_not.mpr hf), if_neg hb]
  rfl

theorem State.takeAllEndings_pos (s : State) : s.takeAllEndings.pos = s.pos := by
  have view := congrArg View.pos s.takeAllEndings_view
  simpa only [State.view] using view

theorem State.activateFromBound_of (s v t : State) (a : PendingActivation) (hv : s.takeAllEndings = v)
    (ht : ({ (v.swapBanks.planInForce.bothRails fun r s => s.startRail r).couplingReset with device := .active } : State).railsOn
      = t) :
    s.activateFromBound a =
      (t.complete a.index .done .ok (activationWords t.plans.active.planId t.pos.t)).announce := by
  unfold State.activateFromBound
  rw [hv]
  dsimp only
  rw [ht]

/-- An activation from BOUND, by what the endings of an earlier plan leave. -/
theorem State.activateFromBound_eq (s v : State) (c : List Byte) (a : PendingActivation)
    (hv : (s.pendingPlan c a).takeAllEndings = v) :
    let w := ({ v with plans := { v.plans with
      active := { state := .valid, contents := c, planId := Plan.planId c,
                  codes := ⟨some (Plan.checkCode c .A), some (Plan.checkCode c .B)⟩ }
      standby := .cleared
      pendingActivation := none } } : State).setSoftLevels (Plan.alarmLevels c)
    (∀ r, v.coupling.carriage.get r = [] ∧ (v.coupling.elements.get r).length = 12) →
    (s.pendingPlan c a).activateFromBound a = (({ w with
      device := .active
      rails := ⟨(v.rails.a.begun c s.pos.t .A).on, (v.rails.b.begun c s.pos.t .B).on⟩
      coupling := { v.coupling with elements := ⟨v.rails.a.asked c .A, v.rails.b.asked c .B⟩, suppressed := ⟨0, 0⟩,
                                    lossFlag := false }
      jrn := { w.jrn with presented :=
        w.jrn.presented ++ (v.lossRecords .A .planSwitch ++ v.lossRecords .B .planSwitch) }
      alarm := { w.alarm with reports := w.alarm.reports ++
        if v.coupling.lossFlag then [(Raiser.couplingMonitor, Report.condEnd .couplingLoss none)] else [] }
      } : State).complete a.index .done .ok (le32 (Plan.planId c) ++ le32 s.pos.t)).announce := by
  intro w h
  have standby : v.plans.standby = .validated c := by
    simp only [← hv, State.takeAllEndings_standby, State.pendingPlan, State.modPlans_plans, Bank.validated]
  have pos : v.pos = s.pos := by
    rw [← hv, State.takeAllEndings_pos]
    rfl
  have unfolded (t : State) := (s.pendingPlan c a).activateFromBound_of v t a hv
  have swapped : v.swapBanks = { v with plans := { v.plans with
      active := { state := .valid, contents := c, planId := Plan.planId c,
                  codes := ⟨some (Plan.checkCode c .A), some (Plan.checkCode c .B)⟩ }
      standby := .cleared
      pendingActivation := none } } := by
    rw [State.swapBanks, State.modPlans, standby]
    rfl
  have activated := v.activated_eq c (h .A).1 (h .B).1 (h .A).2 (h .B).2 (by rw [standby]; rfl)
  rw [pos] at activated
  have levels : w = v.swapBanks.setSoftLevels (Plan.alarmLevels c) := by rw [swapped]
  obtain ⟨sources, suppressed, presented, causes, trace, frame⟩ := v.swapBanks.setSoftLevels_frame (Plan.alarmLevels c)
  have bank : w.plans.active = v.swapBanks.plans.active := by rw [levels, frame]
  have planId : w.plans.active.planId = Plan.planId c := by rw [bank, swapped]
  have now : w.pos = s.pos := by rw [levels, frame, ← pos]; rfl
  rw [← levels] at activated
  rw [unfolded _ activated]
  dsimp only
  rw [activationWords, planId, now]

/-- A plan for a switch becomes PENDING: it waits for its point, is noted as having reached it, or begins. -/
theorem State.pendingPlan_testSwitch (s : State) (c : List Byte) (a : PendingActivation) (ha : a.fromActive = true)
    (hr : a.reached = false) : (s.pendingPlan c a).testSwitch =
      if a.mode = .immediate ∨ (s.pos.dir = .increasing ∧ a.position ≤ s.pos.p ∨
          s.pos.dir = .decreasing ∧ s.pos.p ≤ a.position) then
        if s.device = .active ∧ s.plans.protocol = none then
          (s.pendingPlan c { a with reached := true }).beginSwitch a.index
        else s.pendingPlan c { a with reached := true }
      else s.pendingPlan c a := by
  rw [State.testSwitch_of _ a rfl ha hr]
  exact if_congr (or_congr Iff.rfl (State.beyond_iff _ _)) rfl rfl

/-- Settles O48. -/
theorem loadsEndInAnAnswerOrAPendingPlan : Obligations.LoadsEndInAnAnswerOrAPendingPlan := by
  intro l bytes s hl c fault dropped words code pending does
  refine ⟨?_, fun hp => exec_planLoadComplete_check l bytes s hl hp, fun origin mode position hp => ?_⟩
  · show execPlanLoadError s = _
    rw [execPlanLoadError, hl]
    rfl
  intro a beyond
  have e := exec_planLoadComplete_activate l bytes s hl origin mode position hp
  have valid (hf : fault.1 = .none) (hb : ¬ (origin = true ∧ s.device = .bound)) :=
    e.trans (congrArg Host.Outcome.next (s.endActivationLoad_eq l c origin mode position hf hb))
  have unbound (hf : fault.1 = .none) (ho : origin = true) (hd : s.device ≠ .bound) :
      exec (.planLoadComplete bytes) s = .next (s.pendingPlan c a).testSwitch :=
    (valid hf fun h => hd h.2).trans (congrArg Host.Outcome.next (if_pos ho))
  have switch := s.pendingPlan_testSwitch c a
  have reached (h : mode = .immediate ∨ beyond = true) := h.imp_right fun k => of_decide_eq_true k
  refine ⟨fun hf => e.trans (congrArg Host.Outcome.next (if_pos hf)), fun hf ho hd => ?_, fun hf ho hd => ?_,
    fun hc hr => State.takeAllEndings_same (pending a) hc hr, fun hf ho hd => ?_, fun hf ho hd hm hb => ?_,
    fun hf ho hd hm hn => ?_, fun hf ho hd hm hn => ?_⟩
  · refine (valid hf fun h => hd h.2).trans (congrArg Host.Outcome.next ?_)
    exact (if_neg (by simp [ho])).trans (if_neg hd)
  · intro v asked elements rail w h
    refine (valid hf fun h => by rw [ho] at h; cases h.1).trans (congrArg Host.Outcome.next ?_)
    refine (if_neg (by simp [ho])).trans ((if_pos hd).trans ?_)
    have hv : (s.pendingPlan c a).takeAllEndings = v := rfl
    clear_value v
    exact s.activateFromBound_eq v c a hv h
  · exact e.trans (congrArg Host.Outcome.next ((if_neg (not_not.mpr hf)).trans (if_pos ⟨ho, hd⟩)))
  · refine (unbound hf ho hd).trans (congrArg Host.Outcome.next ((switch ho rfl).trans (if_neg ?_)))
    rintro (hi | k)
    · rw [show mode = _ from hi] at hm
      cases hm
    · rw [show beyond = true from decide_eq_true k] at hb
      cases hb
  · refine (unbound hf ho hd).trans (congrArg Host.Outcome.next ((switch ho rfl).trans ((if_pos (reached hm)).trans (if_neg ?_))))
    rintro ⟨h1, h2⟩
    rcases hn with hn | hn
    · exact hn h1
    · rw [h2] at hn
      cases hn
  · have unbound' := unbound hf ho (by rw [hd]; nofun)
    exact unbound'.trans (congrArg Host.Outcome.next ((switch ho rfl).trans ((if_pos (reached hm)).trans (if_pos ⟨hd, hn⟩))))

end Sys2Proof.Machine
end

section
/-! PROOFS. Sequencers in step with R40 (O6), and the FIRE frames that leave a rail (O7): R40's table read off the view of
Laws/Frame.lean, what each row of the table does to it, and the rows that may fire. -/

namespace Sys2Proof.Machine

/-! ## The table of R40 on the view -/

/-- The state R40's table gives a Sequencer in ACTIVE. -/
def RailView.activeState (x : RailView) : SeqState :=
  if x.lift then .lifted else if x.link = .down then .linkDown else if x.shot then .shot else .waiting

/-- A rail in ACTIVE is in step: its Sequencer has the state of the table, and a shot is in flight only with LIFT released
and the link UP. -/
def RailView.live (x : RailView) : Prop := x.state = x.activeState ∧ (x.shot = true → x.lift = false ∧ x.link = .up)

/-- A rail outside ACTIVE is in step: OFF, with no shot in flight and the link held DOWN. -/
def RailView.resting (x : RailView) : Prop :=
  x.state = .off ∧ x.shot = false ∧ x.link = .down ∧ x.presence = false

/-- A rail is in step with an operating state. -/
def RailView.inStep (d : OpState) (x : RailView) : Prop := if d = .active then x.live else x.resting

theorem RailView.inStep_active {d : OpState} (x : RailView) (h : d = .active) : x.inStep d ↔ x.live := by
  rw [RailView.inStep, if_pos h]

theorem RailView.inStep_outside {d : OpState} (x : RailView) (h : d ≠ .active) : x.inStep d ↔ x.resting := by
  rw [RailView.inStep, if_neg h]

/-- A view is in step. -/
def View.inStep (v : View) : Prop :=
  (∀ r, (v.rails.get r).inStep v.device) ∧ (v.binding.isSome = true → v.device = .unbound) ∧
    (v.device = .unbound → v.stop = false)

theorem LinkState.ne_down {k : LinkState} : k ≠ .down ↔ k = .up := by
  cases k <;> simp

/-- Outside ACTIVE R40's table leaves OFF alone. -/
theorem State.railInStep_outside (s : State) (r : Rail) (h : s.device ≠ .active) :
    s.railInStep r ↔ (s.rail r).view.resting := by
  unfold State.railInStep State.sequencerHolds RailView.resting
  cases hq : (s.rail r).seq.state <;> simp [RailBlocks.view, h, hq]

/-- In ACTIVE LIFT, the link and the shot in flight decide the state. -/
theorem State.railInStep_active (s : State) (r : Rail) (h : s.device = .active) :
    s.railInStep r ↔ (s.rail r).view.live := by
  unfold State.railInStep State.sequencerHolds RailView.live RailView.activeState
  have hk := LinkState.ne_down (k := (s.rail r).link.state)
  cases hq : (s.rail r).seq.state <;> grind [RailBlocks.view]

theorem State.railInStep_iff (s : State) (r : Rail) : s.railInStep r ↔ (s.rail r).view.inStep s.device := by
  by_cases h : s.device = .active
  · exact (s.railInStep_active r h).trans (RailView.inStep_active _ h).symm
  · exact (s.railInStep_outside r h).trans (RailView.inStep_outside _ h).symm

theorem State.inStep_iff (s : State) : s.inStep ↔ s.view.inStep := by
  simp only [State.inStep, View.inStep, State.railInStep_iff, State.view_rail, State.view_device, State.view_binding,
    State.view_stop]

/-! ## Views in step, one after another -/

/-- From a view in step to one in step, with no frame sent on either link. -/
def View.keeps (v w : View) : Prop := v.inStep → w.inStep ∧ ∀ r, (w.rails.get r).sent = (v.rails.get r).sent

theorem View.keeps.refl (v : View) : v.keeps v := fun h => ⟨h, fun _ => rfl⟩

theorem View.keeps_of_eq {v w : View} (h : w = v) : v.keeps w := h ▸ .refl v

theorem View.keeps.trans {u v w : View} (h : u.keeps v) (k : v.keeps w) : u.keeps w := fun i =>
  ⟨(k (h i).1).1, fun r => ((k (h i).1).2 r).trans ((h i).2 r)⟩

/-- One rail changed, without sending. -/
theorem View.keeps_modRail (v : View) (r : Rail) (f : RailView → RailView) (sent : ∀ x, (f x).sent = x.sent)
    (h : (v.rails.get r).inStep v.device → (f (v.rails.get r)).inStep v.device) : v.keeps (v.modRail r f) := by
  rintro ⟨rails, binding, stop⟩
  refine ⟨⟨fun q => ?_, binding, stop⟩, fun q => ?_⟩
  · simp only [View.modRail, Both.get_modify]
    split
    · rename_i e
      exact e ▸ h (rails r)
    · exact rails q
  · simp only [View.modRail, Both.get_modify]
    split
    · exact sent _
    · rfl

/-- The Position Unit and the outbound queue are no part of what is in step. -/
theorem View.keeps_pos (v : View) (pos : PositionUnit) : v.keeps { v with pos := pos } := fun h => ⟨h, fun _ => rfl⟩

theorem View.keeps_queue (v : View) (queue : List Rec) : v.keeps { v with queue := queue } := fun h => ⟨h, fun _ => rfl⟩

/-- Both rails taken off in a state that is neither ACTIVE nor UNBOUND. -/
theorem View.keeps_railsOff (v : View) (d : OpState) (stop : Bool) (hd : d ≠ .active ∧ d ≠ .unbound)
    (hv : v.device ≠ .unbound) : v.keeps { v with device := d, stop := stop }.railsOff := by
  rintro ⟨-, binding, -⟩
  refine ⟨⟨fun r => ?_, fun h => absurd (binding h) hv, fun h => absurd h hd.2⟩, fun r => by cases r <;> rfl⟩
  refine (RailView.inStep_outside _ hd.1).mpr ?_
  cases r <;> exact ⟨rfl, rfl, rfl, rfl⟩

/-- A rail at rest let on takes the state its LIFT calls for. -/
theorem RailView.resting.on {x : RailView} (h : x.resting) : { x with state := x.idleState, presence := true }.live := by
  obtain ⟨-, shot, link, -⟩ := h
  simp [RailView.live, RailView.activeState, RailView.idleState, shot, link]

/-- Both rails let on, from a state that is neither ACTIVE nor UNBOUND. -/
theorem View.keeps_railsOn (v : View) (stop : Bool) (ha : v.device ≠ .active) (hu : v.device ≠ .unbound) :
    v.keeps { v with device := .active, stop := stop }.railsOn := by
  rintro ⟨rails, binding, -⟩
  have resting (r : Rail) : (v.rails.get r).resting := (RailView.inStep_outside _ ha).mp (rails r)
  refine ⟨⟨fun r => ?_, fun h => absurd (binding h) hu, nofun⟩, fun r => by cases r <;> rfl⟩
  cases r
  · exact (resting .A).on
  · exact (resting .B).on

/-- From one state outside ACTIVE to another. -/
theorem View.keeps_device (v : View) (d : OpState) (stop : Bool) (hd : d ≠ .active ∧ d ≠ .unbound)
    (ha : v.device ≠ .active) (hu : v.device ≠ .unbound) : v.keeps { v with device := d, stop := stop } := by
  rintro ⟨rails, binding, -⟩
  exact ⟨⟨fun r => (RailView.inStep_outside _ hd.1).mpr ((RailView.inStep_outside _ ha).mp (rails r)),
    fun h => absurd (binding h) hu, fun h => absurd h hd.2⟩, fun _ => rfl⟩

theorem View.faultedFrom.keeps {v w : View} (h : v.faultedFrom w) : v.keeps w := by
  rcases h with ⟨hd, rfl⟩ | ⟨hd, rfl⟩
  · exact v.keeps_railsOff .faulted v.stop (by decide) (by rcases hd with h | h <;> simp [h])
  · exact v.keeps_railsOff .locked v.stop (by decide) (by simp [hd])

/-- A return from FAULTED, with any stop at its end or going on. -/
theorem View.returned.keeps {v w : View} (stop : Bool) (h : { v with stop := stop }.returned w)
    (hd : v.device = .faulted) : v.keeps w := by
  rcases h with rfl | rfl
  · exact v.keeps_device .bound stop (by decide) (by simp [hd]) (by simp [hd])
  · exact v.keeps_railsOn stop (by simp [hd]) (by simp [hd])

/-! ## The operating state under the rows that change it -/

theorem State.takeRaise_keeps (s : State) (src : Source) (d : Detail) : s.view.keeps (s.takeRaise src d).view := by
  rcases s.takeRaise_view src d with h | h
  · exact View.keeps_of_eq h
  · exact h.keeps

theorem State.leaveFaulted_keeps (s : State) : s.view.keeps s.leaveFaulted.view := by
  rcases s.leaveFaulted_view with h | ⟨hd, h | h⟩
  · exact View.keeps_of_eq h
  · exact h.keeps false hd
  · exact View.returned.keeps s.view.stop h hd

theorem State.ackAlarm_keeps (s : State) (q : Request) : s.view.keeps (s.ackAlarm q).view := by
  rcases s.ackAlarm_view q with h | ⟨u, hu, h⟩
  · exact View.keeps_of_eq h
  · rw [h, ← hu]
    exact u.leaveFaulted_keeps

theorem State.railPurged_keeps (s : State) (r : Rail) : s.view.keeps (s.railPurged r).view := by
  rcases s.railPurged_view r with h | ⟨-, hs, h⟩
  · exact View.keeps_of_eq h
  · rw [h]
    intro i
    have hu : s.view.device ≠ .unbound := fun e => by simpa [hs] using i.2.2 e
    exact s.view.keeps_railsOff _ false (by split <;> decide) hu i

theorem State.stopRequest_keeps (s : State) (q : Request) : s.view.keeps (s.stopRequest q).view := by
  rcases s.stopRequest_view q with h | ⟨hd, h⟩
  · exact View.keeps_of_eq h
  · rw [h]
    rintro ⟨rails, binding, -⟩
    exact ⟨⟨rails, binding, fun e => by simp [hd] at e⟩, fun _ => rfl⟩

theorem State.endActivationLoad_keeps (s : State) (l : Load) (c : List Byte) (fromActive : Bool) (mode : SwitchMode)
    (position : Nat) : s.view.keeps (s.endActivationLoad l c fromActive mode position).view := by
  rcases s.endActivationLoad_view l c fromActive mode position with h | ⟨hd, h⟩
  · exact View.keeps_of_eq h
  · rw [h]
    exact s.view.keeps_railsOn s.view.stop (by simp [hd]) (by simp [hd])

theorem State.takeRequest_keeps (s : State) (kind : Request → Bool) (owner : State → Request → State)
    (h : ∀ (u : State) (q : Request), u.view.keeps (owner u q).view) : s.view.keeps (s.takeRequest kind owner).view := by
  unfold State.takeRequest
  split
  · exact .refl _
  · rename_i q rest _
    have k := h (s.modReq fun h => { h with scan := rest }) q
    split
    · dsimp only
      split
      · rw [State.endScan_view]
        exact k
      · exact k
    · exact .refl _

theorem State.movesInRange.keeps {s t : State} (h : s.movesInRange t) : s.view.keeps t.view := by
  rw [h.1]
  exact s.view.keeps_pos t.pos

/-! ## Binding and the resets -/

theorem State.raisePresent_keeps (s : State) : s.view.keeps s.raisePresent.view := by
  unfold State.raisePresent State.eachSource
  induction Source.all generalizing s with
  | nil => exact .refl _
  | cons src rest ih =>
    rw [List.foldl_cons]
    refine View.keeps.trans ?_ (ih _)
    dsimp only
    (repeat' split)
    · exact .refl _
    · exact s.takeRaise_keeps src _
    · exact .refl _

/-- A device that leaves UNBOUND at the end of a BIND. -/
theorem View.keeps_bound (v : View) (queue : List Rec) (h : v.device = .unbound) :
    v.keeps { v with device := .bound, binding := none, queue := queue } := by
  rintro ⟨rails, -, -⟩
  have outside : v.device ≠ .active := by simp [h]
  have bound : OpState.bound ≠ .active := nofun
  exact ⟨⟨fun r => (RailView.inStep_outside _ bound).mpr ((RailView.inStep_outside _ outside).mp (rails r)), nofun,
    nofun⟩, fun _ => rfl⟩

theorem View.keeps_unbinding (v : View) : v.keeps { v with binding := none } := fun ⟨rails, _, stop⟩ =>
  ⟨⟨rails, nofun, stop⟩, fun _ => rfl⟩

theorem State.bindSucceeds_keeps (s : State) (address : Nat) (f : ContextFields) (h : s.device = .unbound)
    (hb : s.bus.binding = none) : s.view.keeps (s.bindSucceeds address f).view := by
  have due := s.acceptDue_moves false
  unfold State.bindSucceeds
  dsimp only
  generalize hu : State.modReq _ _ = u
  have bound : (s.acceptDue false).view.keeps u.view := by
    rw [← hu]
    refine View.keeps.trans ((s.acceptDue false).view.keeps_bound [] ?_) (View.keeps_of_eq ?_)
    · rw [due.1]
      exact h
    · have e : (s.acceptDue false).bus.binding = none := (congrArg View.binding due.1).trans hb
      simp [State.view, e, JournalWriter.bound, JournalWriter.cleared, State.modBus, State.modReq, State.modAlarm]
  refine ((due.keeps.trans bound).trans (u.loadSettings_moves f.settings).keeps).trans ?_
  rw [← State.announce_view]
  exact State.raisePresent_keeps _

theorem State.endBind_keeps (s : State) (address : Nat) (block : Option (List Byte)) (h : s.bus.binding = some address) :
    s.view.keeps (s.endBind address block).view := by
  intro i
  have hu : s.device = .unbound := i.2.1 (by simp [h])
  revert i
  show s.view.keeps _
  have unbinding : s.view.keeps (s.modBus fun b => { b with binding := none }).view := s.view.keeps_unbinding
  unfold State.endBind
  dsimp only
  (repeat' split)
  · rw [State.bindFails_view]
    exact unbinding
  · exact unbinding.trans (State.bindSucceeds_keeps _ _ _ hu rfl)
  · rw [State.bindFails_view]
    exact unbinding

theorem State.beginBind_keeps (s : State) : s.view.keeps s.beginBind.view := by
  unfold State.beginBind
  split
  · rename_i h
    exact fun ⟨rails, _, stop⟩ => ⟨⟨rails, fun _ => h.1, stop⟩, fun _ => rfl⟩
  · exact .refl _

/-- A device reset leaves both rails OFF, UNBOUND, with no BIND and no stop in progress. -/
theorem State.deviceReset_keeps (s : State) : s.view.keeps s.deviceReset.view := fun _ =>
  ⟨⟨fun r => by cases r <;> exact ⟨rfl, rfl, rfl, rfl⟩, nofun, fun _ => rfl⟩, fun r => by cases r <;> rfl⟩

theorem exec_hardwareReset_keeps (pins : Pins) (s : State) :
    ∃ t, exec (.hardwareReset pins) s = .next t ∧ s.view.keeps t.view :=
  ⟨_, rfl, fun _ =>
    ⟨⟨fun r => by cases r <;> exact ⟨rfl, rfl, rfl, rfl⟩, nofun, fun _ => rfl⟩, fun r => by cases r <;> rfl⟩⟩

theorem State.writeControl_keeps (s : State) (v : Word) : s.view.keeps (s.writeControl v).view := by
  have h : s.view.keeps (s.writeEnables (enablesOf v)).view := View.keeps_of_eq (s.writeEnables_view _)
  unfold State.writeControl
  dsimp only
  (repeat' split)
  · exact h.trans (State.beginBind_keeps _)
  · exact h.trans (State.deviceReset_keeps _)
  · exact h

theorem State.writeRegister_keeps (s : State) (offset : Nat) (v : Word) :
    s.view.keeps (s.writeRegister offset v).view := by
  unfold State.writeRegister
  split
  · exact s.writeControl_keeps v
  · (repeat' split) <;> exact View.keeps_of_eq rfl

end Sys2Proof.Machine
end

section
/-! PROOFS. The rows of a rail and the rows that may fire, and with them the two invariants: O6 and O7. -/

namespace Sys2Proof.Machine

/-! ## A rail in ACTIVE under the rows of its link and its carriage -/

/-- A Sequencer's state changed. -/
theorem State.modSeq_state_view (s : State) (r : Rail) (f : SeqState → SeqState) :
    (s.modSeq r fun q => { q with state := f q.state }).view = s.view.modRail r fun v => { v with state := f v.state } :=
  s.modRail_viewBy r _ _ rfl

/-- LIFT is asserted, and a shot in flight is given up. -/
theorem RailView.lifted_live (x : RailView) : { x with lift := true, shot := false, state := .lifted }.live := by
  simp [RailView.live, RailView.activeState]

section
variable {x : RailView} (h : x.live)
include h

/-- A shot ends on a link that is UP. -/
theorem RailView.live.shotEnds : { x with
    shot := false, state := if x.state = SeqState.shot then SeqState.waiting else x.state }.live := by
  have hk := LinkState.ne_down (k := x.link)
  grind [RailView.live, RailView.activeState]

/-- The link goes DOWN, and a shot in flight is given up. -/
theorem RailView.live.linkDown : { x with
    shot := false, link := .down
    state := if x.state = SeqState.waiting ∨ x.state = SeqState.shot then SeqState.linkDown else x.state }.live := by
  grind [RailView.live, RailView.activeState]

/-- A link comes UP. -/
theorem RailView.live.linkUp (hd : x.link = .down) :
    { x with link := .up, state := if x.state = SeqState.linkDown then SeqState.waiting else x.state }.live := by
  grind [RailView.live, RailView.activeState]

/-- LIFT is released. -/
theorem RailView.live.released (hl : x.lift = true) :
    { x with lift := false, state := { x with lift := false }.idleState }.live := by
  grind [RailView.live, RailView.activeState, RailView.idleState]

/-- A Sequencer in WAITING or SHOT has its link UP and its LIFT released. -/
theorem RailView.live.isUp (hs : x.state = .waiting ∨ x.state = .shot) : x.link = .up ∧ x.lift = false := by
  have hk := LinkState.ne_down (k := x.link)
  grind [RailView.live, RailView.activeState]

/-- A shot in flight has its Sequencer in SHOT. -/
theorem RailView.live.inShot (hx : x.shot = true) : x.state = .shot := by
  grind [RailView.live, RailView.activeState]

theorem RailView.live.ne_off : x.state ≠ .off := by
  grind [RailView.live, RailView.activeState]

end

theorem View.inStep.live {v : View} (h : v.inStep) (hd : v.device = .active) (r : Rail) : (v.rails.get r).live :=
  (RailView.inStep_active _ hd).mp (h.1 r)

theorem View.inStep.resting {v : View} (h : v.inStep) (hd : v.device ≠ .active) (r : Rail) : (v.rails.get r).resting :=
  (RailView.inStep_outside _ hd).mp (h.1 r)

/-- One rail changed in ACTIVE, without sending. -/
theorem View.keeps_modLive (v : View) (r : Rail) (f : RailView → RailView) (sent : ∀ x, (f x).sent = x.sent)
    (hd : v.device = .active) (h : (v.rails.get r).live → (f (v.rails.get r)).live) : v.keeps (v.modRail r f) :=
  v.keeps_modRail r f sent fun k => (RailView.inStep_active _ hd).mpr (h ((RailView.inStep_active _ hd).mp k))

/-- With a Sequencer out of OFF, or a shot in flight, the device is ACTIVE. -/
theorem View.inStep.isActive {v : View} (h : v.inStep) (r : Rail)
    (hr : (v.rails.get r).state ≠ .off ∨ (v.rails.get r).shot = true) : v.device = .active := by
  by_contra hd
  obtain ⟨state, shot, -, -⟩ := h.resting hd r
  simp [state, shot] at hr

/-! ## Rows that may fire (R45, R47, R48, R52) -/

/-- One FIRE frame is sent on a rail that is ACTIVE, linked and released, that of the shot then in flight there. -/
def View.fires (v : View) (t : State) (r : Rail) : Prop :=
  v.device = .active ∧ (v.rails.get r).link = .up ∧ (v.rails.get r).lift = false ∧ ∃ (x : Shot) (y : RailView),
    (t.rail r).shot = some x ∧ t.view = v.modRail r (fun _ => y) ∧ y.live ∧ y.state = .shot ∧
      y.sent = (v.rails.get r).sent ++ [fireFrame x]

/-- A step either keeps the rails in step and sends nothing, or fires. -/
def View.goesOn (v : View) (t : State) : Prop := v.keeps t.view ∨ ∃ r, v.fires t r

theorem View.goesOn_of_eq {v : View} {t : State} (h : t.view = v) : v.goesOn t := .inl (View.keeps_of_eq h)

theorem View.modRail_const (v : View) (r : Rail) (f : RailView → RailView) :
    v.modRail r f = v.modRail r fun _ => f (v.rails.get r) := rfl

theorem View.fires.inStep {v : View} {t : State} {r : Rail} (h : v.fires t r) (i : v.inStep) : t.view.inStep := by
  obtain ⟨hd, -, -, x, y, -, ht, hy, -, -⟩ := h
  have k : ∀ q, ((v.modRail r fun _ => y).rails.get q).inStep v.device := fun q => by
    simp only [View.modRail, Both.get_modify]
    split
    · exact (RailView.inStep_active y hd).mpr hy
    · exact i.1 q
  rw [ht]
  exact ⟨k, i.2⟩

/-- A shot of the list, fired by a Sequencer whose link is UP and whose LIFT is released. -/
theorem State.fireShot_fires_of (s : State) (r : Rail) (i : Nat) (d : ShotDesc) (v : View) (x : RailView)
    (h : (Plan.shots s.plan r)[i]? = some d) (hd : v.device = .active)
    (hr : (v.rails.get r).link = .up ∧ (v.rails.get r).lift = false) (hs : s.view = v.modRail r fun _ => x)
    (hx : x.link = .up ∧ x.lift = false ∧ x.sent = (v.rails.get r).sent) : v.fires (s.fireShot r i) r := by
  obtain ⟨link, lift, sent⟩ := hx
  refine ⟨hd, hr.1, hr.2, s.latchShot r i d,
    { x with state := .shot, shot := true, sent := x.sent ++ [fireFrame (s.latchShot r i d)] }, ?_, ?_, ?_, rfl, ?_⟩
  · rw [s.fireShot_eq r i d h, State.rail_modRail_same]
  · rw [s.fireShot_eq r i d h, s.modRail_viewBy r _ (fun v =>
      { v with state := .shot, shot := true, sent := v.sent ++ [fireFrame (s.latchShot r i d)] }) rfl, hs]
    exact View.modRail_modRail _ _ _ _
  · simp [RailView.live, RailView.activeState, link, lift]
  · simp only [sent]

/-- A judged shot's Sequencer goes on. -/
theorem State.afterShot_goesOn (s : State) (r : Rail) (x : Shot) (v : View) (p : Bool) (h : v.inStep)
    (hx : (v.rails.get r).shot = true) (hs : s.view = v.modRail r fun y => { y with presence := p, shot := false }) :
    v.goesOn (s.afterShot r x) := by
  have hd := h.isActive r (.inr hx)
  have up := (h.live hd r).isUp (.inr ((h.live hd r).inShot hx))
  unfold State.afterShot
  dsimp only
  split
  · rename_i c
    obtain ⟨-, -, -, hlt⟩ := c
    exact .inr ⟨r, State.fireShot_fires_of s r _ _ v _ (List.getElem?_eq_getElem hlt) hd up hs ⟨up.1, up.2, rfl⟩⟩
  · refine .inl ?_
    rw [State.reportHeld_view, State.countSweepOf_view,
      State.modSeq_state_view s r (fun q => if q = .shot then .waiting else q), hs, View.modRail_modRail]
    exact v.keeps_modLive r _ (fun _ => rfl) hd fun o => o.shotEnds

/-- A sweep that starts from WAITING fires shot 0, where the check passes and the list has it. -/
theorem State.startSweep_goesOn (s : State) (r : Rail) (h : s.view.inStep) (hw : (s.rail r).seq.state = .waiting) :
    s.view.goesOn (s.startSweep r) := by
  have state : (s.view.rails.get r).state = .waiting := by
    rw [State.view_rail]
    exact hw
  have hd := h.isActive r (.inl (by rw [state]; decide))
  have up := (h.live hd r).isUp (.inl state)
  unfold State.startSweep
  split
  · cases hi : (Plan.shots s.plan r)[0]? with
    | none => exact View.goesOn_of_eq (by rw [State.fireShot, hi])
    | some d =>
      exact .inr ⟨r, s.fireShot_fires_of r 0 d s.view (s.view.rails.get r) hi hd up (s.view.modRail_id r).symm
        ⟨up.1, up.2, rfl⟩⟩
  · exact View.goesOn_of_eq (by simp)

theorem State.stepEffect_goesOn (s : State) (r : Rail) (h : s.view.inStep) : s.view.goesOn (s.stepEffect r) := by
  have untested : s.view.goesOn (s.countUntested r) := View.goesOn_of_eq (s.countUntested_view r)
  cases hw : (s.rail r).seq.state with
  | off | lifted | linkDown =>
    rw [s.stepEffect_closed r (by simp [hw])]
    exact untested
  | waiting =>
    cases hh : (s.rail r).seq.held
    · rw [s.stepEffect_waiting r hw hh]
      exact s.startSweep_goesOn r h hw
    · rw [s.stepEffect_held r (.inl hw) hh]
      exact untested
  | shot =>
    cases hh : (s.rail r).seq.held
    · rw [s.stepEffect_shot r hw hh]
      exact View.goesOn_of_eq (by simp)
    · rw [s.stepEffect_held r (.inr hw) hh]
      exact untested

theorem State.sweepStep_goesOn (s : State) (r : Rail) (t : Nat) (h : s.view.inStep) :
    s.view.goesOn (s.sweepStep r t) := by
  unfold State.sweepStep
  split
  · have e : (s.stepReported r t).view = s.view :=
      (State.modPlans_view _ _ rfl).trans (s.modSeq_view r _ fun _ => ⟨rfl, rfl⟩)
    exact e ▸ (s.stepReported r t).stepEffect_goesOn r (e.symm ▸ h)
  · exact View.goesOn_of_eq rfl

theorem State.putNotices_goesOn (s : State) (r : Rail) (xs : List SeqNotice) (v : View) (h : v.goesOn s) :
    v.goesOn (s.putNotices r xs) := by
  rcases h with h | ⟨q, hd, hl, hf, x, y, hx, hs, hy⟩
  · exact .inl (by rwa [State.putNotices_view])
  · refine .inr ⟨q, hd, hl, hf, x, y, ?_, ?_, hy⟩
    · rw [State.putNotices, State.modSeq_shot]
      exact hx
    · rwa [State.putNotices_view]

/-! ## The rows of a rail -/

theorem State.endReceived_goesOn (s : State) (r : Rail) (seq flags : BitVec 8) (counts : List Nat) (v : View)
    (h : v.inStep) (hd : v.device = .active) (hs : s.view = v.modRail r fun y => { y with presence := true }) :
    v.goesOn (s.endReceived r seq flags counts) := by
  have same : v.keeps s.view := by
    rw [hs]
    exact v.keeps_modLive r _ (fun _ => rfl) hd id
  unfold State.endReceived
  split
  · exact .inl (by rwa [State.strayFrame_view])
  · rename_i x hx
    split
    · have shot : (v.rails.get r).shot = true := by
        have k : (s.view.rails.get r).shot = true := by
          rw [State.view_rail]
          simp [RailBlocks.view, hx]
        rwa [hs, View.modRail, Both.get_modify_same] at k
      refine State.afterShot_goesOn _ r x v true h shot ?_
      rw [State.judgeShot_view, State.modLink_view _ r (fun l => { l with missing := 0 }) fun _ => ⟨rfl, rfl, rfl⟩,
        State.frontEndWarning_view, hs, View.modRail_modRail]
    · exact .inl (by rwa [State.strayFrame_view])

theorem State.sampleReceived_view (s : State) (r : Rail) (seq : BitVec 8) (channel index : Nat) (damaged : Bool)
    (samples : List Byte) : (s.sampleReceived r seq channel index damaged samples).view = s.view := by
  unfold State.sampleReceived
  split
  · exact s.strayFrame_view r
  · rename_i x hx
    split
    · exact s.setShot_view r _ (by simp [hx])
    · exact s.strayFrame_view r

theorem State.receive_goesOn (s : State) (r : Rail) (bytes : List Byte) (h : s.view.inStep) :
    s.view.goesOn (s.receive r bytes) := by
  unfold State.receive
  split
  · exact View.goesOn_of_eq rfl
  · rename_i hd
    have hd : s.view.device = .active := not_not.mp hd
    have counts : s.view.keeps (s.frameCounts r).view := by
      rw [s.frameCounts_view r]
      exact s.view.keeps_modLive r _ (fun _ => rfl) hd id
    split
    · exact View.goesOn_of_eq (by simp)
    · exact .inl (by rwa [State.sampleReceived_view])
    · exact State.endReceived_goesOn _ r _ _ _ s.view h hd (s.frameCounts_view r)
    · exact .inl (by rwa [State.frontEndWarning_view])

theorem State.endTimerExpires_goesOn (s : State) (r : Rail) (h : s.view.inStep) :
    s.view.goesOn (s.endTimerExpires r) := by
  unfold State.endTimerExpires
  split
  · exact View.goesOn_of_eq rfl
  · rename_i x hx
    have shot : (s.view.rails.get r).shot = true := by
      rw [State.view_rail]
      simp [RailBlocks.view, hx]
    dsimp only
    generalize hu : State.judgeShot _ r x _ = u
    have e : u.view = s.view.modRail r fun y => { y with shot := false } := by
      rw [← hu, State.judgeShot_view, State.count_view]
    have missing (n : Nat) : (u.modLink r fun l => { l with missing := n }).view = u.view :=
      u.modLink_view r _ fun _ => ⟨rfl, rfl, rfl⟩
    split
    · exact State.afterShot_goesOn _ r x s.view (s.view.rails.get r).presence h shot ((missing _).trans e)
    · refine .inl ?_
      rw [State.reportHeld_view, State.countSweepOf_view, State.seqLinkDown_view, State.linkGoesDown_view, missing, e,
        View.modRail_modRail, View.modRail_modRail]
      exact s.view.keeps_modLive r _ (fun _ => rfl) (h.isActive r (.inr shot)) fun o => o.linkDown

theorem State.presenceExpires_keeps (s : State) (r : Rail) (hd : s.device = .active) :
    s.view.keeps (s.presenceExpires r).view := by
  unfold State.presenceExpires
  dsimp only
  split
  · rw [State.reportHeld_view, State.seqLinkDown_view, State.abandonShot_view, State.linkGoesDown_view,
      View.modRail_modRail, View.modRail_modRail]
    exact s.view.keeps_modLive r _ (fun _ => rfl) hd fun o => o.linkDown
  · split
    · refine View.keeps_of_eq ?_
      rw [State.raiseReport_view]
      exact s.modLink_view r _ fun _ => ⟨rfl, rfl, rfl⟩
    · exact .refl _

theorem State.linkComesUp_keeps (s : State) (r : Rail) (hd : s.device = .active) (hl : (s.rail r).link.state = .down) :
    s.view.keeps (s.linkComesUp r).view := by
  rw [State.linkComesUp_view]
  exact s.view.keeps_modLive r _ (fun _ => rfl) hd fun o => o.linkUp (by rw [State.view_rail]; exact hl)

/-- What a change of LIFT makes of its rail: in OFF the level alone, on an assertion LIFTED with no shot in flight, on a
release the state that the link calls for. -/
def RailView.lifting (asserted : Bool) (v : RailView) : RailView :=
  if v.state = .off then { v with lift := asserted }
  else if asserted then { v with lift := true, shot := false, state := .lifted }
  else { v with lift := false, state := { v with lift := false }.idleState }

theorem RailView.lifting_sent (asserted : Bool) (v : RailView) : (v.lifting asserted).sent = v.sent := by
  unfold RailView.lifting
  (repeat' split) <;> rfl

theorem State.liftChanges_view (s : State) (r : Rail) (asserted : Bool) :
    (s.liftChanges r asserted).view = s.view.modRail r (RailView.lifting asserted) := by
  rw [View.modRail_const]
  unfold State.liftChanges
  dsimp only
  have state : ((s.modSeq r fun q => { q with lift := asserted }).rail r).seq.state = (s.view.rails.get r).state := by
    rw [State.modSeq_seq_same, State.view_rail]
    rfl
  have level : (s.modSeq r fun q => { q with lift := asserted }).view =
      s.view.modRail r fun v => { v with lift := asserted } := s.modRail_viewBy r _ _ rfl
  rw [state, RailView.lifting]
  split
  · exact level
  · cases asserted
    · cases r <;> rfl
    · simp only [if_true, State.reportHeld_view, State.modCoupling_view, State.modTrk_view,
        State.modSeq_state_view _ r (fun _ => .lifted), State.abandonShot_view, level, View.modRail_modRail, implies_true]
      exact View.modRail_const _ _ _

/-- A change of LIFT, from a level other than the one given. -/
theorem State.liftChanges_keeps (s : State) (r : Rail) (asserted : Bool) (hl : (s.rail r).seq.lift ≠ asserted) :
    s.view.keeps (s.liftChanges r asserted).view := by
  rw [State.liftChanges_view]
  refine s.view.keeps_modRail r _ (RailView.lifting_sent asserted) fun h => ?_
  by_cases hd : s.view.device = .active
  · rw [RailView.inStep_active _ hd] at h ⊢
    rw [RailView.lifting, if_neg h.ne_off]
    cases asserted
    · exact h.released (by rw [State.view_rail]; exact Bool.eq_true_of_not_eq_false hl)
    · exact RailView.lifted_live _
  · rw [RailView.inStep_outside _ hd] at h ⊢
    rw [RailView.lifting, if_pos h.1]
    exact h

theorem State.roomCheck_keeps (s : State) (x : Rec) (masks : List Byte) : s.view.keeps (s.roomCheck x masks).view := by
  rcases s.roomCheck_view x masks with h | h
  · exact View.keeps_of_eq h
  · rw [h]
    exact s.view.keeps_queue _

/-! ## Every row -/

/-- Every row, from a state in step, answers a next state in step; it sends nothing, or fires. -/
theorem exec_goesOn (c : Instr) (s : State) (h : s.view.inStep) : ∃ t, exec c s = .next t ∧ s.view.goesOn t := by
  by_cases hv : c.keepsView = true
  · obtain ⟨t, ht, e⟩ := exec_view c s hv
    exact ⟨t, ht, View.goesOn_of_eq e⟩
  cases c with
  | hardwareReset pins =>
    obtain ⟨t, ht, k⟩ := exec_hardwareReset_keeps pins s
    exact ⟨t, ht, .inl k⟩
  | rawInputChange a b m =>
    exact ⟨_, rfl, .inl ((s.acceptDue_moves false).trans
      ((State.modPos_moves _ _ ⟨id, le_rfl, rfl⟩).inRange.trans (State.acceptDue_moves _ _))).keeps⟩
  | holdTimerExpiry markFirst =>
    refine ⟨_, rfl, ?_⟩
    split
    · exact View.goesOn_of_eq rfl
    · exact .inl ((s.modPos_moves _ ⟨id, le_rfl, rfl⟩).inRange.trans (State.acceptDue_moves _ _)).keeps
  | setPositionNow => exact ⟨_, rfl, .inl (s.takeRequest_keeps _ _ fun u q => (u.setPositionNow_moves q).inRange.keeps)⟩
  | setPositionAtMark =>
    exact ⟨_, rfl, .inl (s.takeRequest_keeps _ _ fun u q => (u.setPositionAtMark_moves q).inRange.keeps)⟩
  | stop => exact ⟨_, rfl, .inl (s.takeRequest_keeps _ _ State.stopRequest_keeps)⟩
  | ackAlarm => exact ⟨_, rfl, .inl (s.takeRequest_keeps _ _ State.ackAlarm_keeps)⟩
  | bind v => exact ⟨_, rfl, .inl (s.writeControl_keeps v)⟩
  | reset v => exact ⟨_, rfl, .inl (s.writeControl_keeps v)⟩
  | controlNone v => exact ⟨_, rfl, .inl (s.writeControl_keeps v)⟩
  | registerWrite offset v => exact ⟨_, rfl, .inl (s.writeRegister_keeps offset v)⟩
  | bindComplete block =>
    refine ⟨_, rfl, ?_⟩
    split
    · exact View.goesOn_of_eq rfl
    · exact .inl (s.endBind_keeps _ block ‹_›)
  | sampleFrame r bytes | endFrame r bytes | idleFrame r bytes | badFrame r bytes =>
    exact ⟨_, rfl, s.receive_goesOn r bytes h⟩
  | endTimerExpiry r =>
    refine ⟨_, rfl, ?_⟩
    split
    · exact s.endTimerExpires_goesOn r h
    · exact View.goesOn_of_eq rfl
  | presenceTimerExpiry r =>
    refine ⟨_, rfl, ?_⟩
    split
    · rename_i c
      exact .inl (s.presenceExpires_keeps r c.1)
    · exact View.goesOn_of_eq rfl
  | linkUp r =>
    refine ⟨_, rfl, ?_⟩
    split
    · rename_i c
      exact .inl (s.linkComesUp_keeps r c.1 c.2.1)
    · exact View.goesOn_of_eq rfl
  | liftChange r asserted =>
    refine ⟨_, rfl, ?_⟩
    split
    · exact View.goesOn_of_eq rfl
    · exact .inl (s.liftChanges_keeps r asserted ‹_›)
  | sweepStep r strikes =>
    refine ⟨_, rfl, ?_⟩
    have e := s.strike_view strikes
    have k (n : Nat) : s.view.goesOn ((s.strike strikes).sweepStep r n) :=
      e ▸ (s.strike strikes).sweepStep_goesOn r n (e.symm ▸ h)
    split
    · exact State.putNotices_goesOn _ r _ s.view (k _)
    · exact View.goesOn_of_eq e
  | markerStopPurge r =>
    refine ⟨_, rfl, ?_⟩
    split
    · rename_i rest _
      have e : ((s.putMarkOrders r rest).purge r .stopped).view = s.view := by simp
      exact .inl (e ▸ State.railPurged_keeps _ r)
    · exact View.goesOn_of_eq rfl
  | planLoadComplete bytes =>
    refine ⟨_, rfl, ?_⟩
    (repeat' split)
    · exact View.goesOn_of_eq rfl
    · exact View.goesOn_of_eq (s.endCheck_view _ _)
    · exact .inl (s.endActivationLoad_keeps _ _ _ _ _)
  | alarmRaise who =>
    refine ⟨_, rfl, ?_⟩
    (repeat' split) <;> try exact View.goesOn_of_eq rfl
    rename_i rest _
    have e : (s.putReports rest).view = s.view := by simp
    exact .inl (e ▸ State.takeRaise_keeps _ _ _)
  | recordOffer =>
    refine ⟨_, rfl, ?_⟩
    (repeat' split) <;> try exact View.goesOn_of_eq rfl
    rename_i x rest _
    obtain ⟨queue, e, -⟩ := (s.modJrn fun j => { j with presented := rest }).placeRecord_view x.2
    rw [View.goesOn, e]
    exact .inl (s.view.keeps_queue queue)
  | journalTakeRecord masks =>
    refine ⟨_, rfl, .inl ?_⟩
    split
    · exact .refl _
    · split
      · exact s.roomCheck_keeps _ masks
      · exact .refl _
  | roomCheckRetry masks =>
    refine ⟨_, rfl, .inl ?_⟩
    split
    · exact .refl _
    · split
      · exact State.roomCheck_keeps s.beginCheck _ masks
      · exact .refl _
  | journalWriteComplete =>
    have written (x : Rec) : s.view.keeps (s.recordWritten x).view := View.keeps_of_eq (s.recordWritten_view x)
    refine ⟨_, rfl, .inl ?_⟩
    (repeat' split) <;> try exact .refl _
    · exact (written _).trans (View.keeps_of_eq (State.modJrn_view _ _ rfl))
    · rename_i x rest _
      exact (written x).trans ((s.recordWritten x).view.keeps_queue rest)
  | _ => exact absurd rfl hv

/-- Every step does so too, with what is left of the queue: the idle step moves the Position Unit alone. -/
theorem step_goesOn (s t : State) (hs : s.view.inStep) (h : step s = .next t) :
    ∃ queue, ({ s with pending := queue } : State).view.goesOn t := by
  unfold step at h
  split at h
  · cases h
    exact ⟨s.pending, .inl s.tick_moves.keeps⟩
  · rename_i c rest _
    obtain ⟨u, hu, k⟩ := exec_goesOn c { s with pending := rest } hs
    cases hu.symm.trans h
    exact ⟨rest, k⟩

/-- Settles O6: a step keeps the rails in step, or fires on one that is linked and released. -/
theorem everyStepKeepsSequencersInStep : Obligations.EveryStepKeepsSequencersInStep := by
  intro s t hs h
  rw [State.inStep_iff] at hs ⊢
  obtain ⟨queue, k | ⟨r, k⟩⟩ := step_goesOn s t hs h
  · exact (k hs).1
  · exact k.inStep hs

/-- Settles O7: a step that sends a frame on a rail has fired there. -/
theorem fireFramesLeaveOnlyAnOpenRail : Obligations.FireFramesLeaveOnlyAnOpenRail := by
  intro s t r hs h sends
  rw [State.inStep_iff] at hs
  have link (u : State) : (u.view.rails.get r).sent = (u.rail r).link.sent := by
    rw [State.view_rail]
    rfl
  obtain ⟨queue, k | ⟨o, device, up, lift, x, y, hx, ht, -, shot, sent⟩⟩ := step_goesOn s t hs h
  · exact absurd ((link t).symm.trans (((k hs).2 r).trans (link s))) sends
  · have e : r = o := by
      by_contra e
      have same := link t
      rw [ht, View.modRail, Both.get_modify, if_neg e] at same
      exact sends (same.symm.trans (link s))
    subst e
    have view : (t.rail r).view = y := by rw [← State.view_rail, ht, View.modRail, Both.get_modify_same]
    rw [State.view_rail] at up lift sent
    exact ⟨device, up, lift, (congrArg RailView.state view).trans shot, x, hx, (congrArg RailView.sent view).trans sent⟩

end Sys2Proof.Machine
end

section
/-! PROOFS. Received frames (O18, O19). -/

namespace Sys2Proof.Machine

/-! ## The checks and the layout of a frame (R51, R187, R188) -/

/-- A list of a known length ends in its last two items. -/
theorem take_append_last_two (bytes : List Byte) (n : Nat) (h : bytes.length = n) (hn : 2 ≤ n) :
    bytes = bytes.take (n - 2) ++ [bytes.getD (n - 2) 0, bytes.getD (n - 1) 0] := by
  have a : bytes.drop (n - 2) = bytes.getD (n - 2) 0 :: bytes.drop (n - 2 + 1) := by
    rw [List.getD_eq_getElem _ _ (by omega), List.drop_eq_getElem_cons]
  have b : bytes.drop (n - 2 + 1) = [bytes.getD (n - 1) 0] := by
    rw [show n - 2 + 1 = n - 1 by omega, List.getD_eq_getElem _ _ (by omega), List.drop_eq_getElem_cons (by omega),
      List.drop_eq_nil_of_le (by omega)]
  rw [← b, ← a, List.take_append_drop]

/-- Two bytes are the CRC, high byte first, when they give its value. -/
theorem crc_bytes_iff (c : BitVec 16) (x y : Byte) :
    [x, y] = [(c >>> 8).truncate 8, c.truncate 8] ↔ c.toNat = 256 * x.toNat + y.toNat := by
  have hc := c.isLt
  have hx := x.isLt
  have hy := y.isLt
  simp only [List.cons.injEq, and_true, ← BitVec.toNat_inj, BitVec.truncate_eq_setWidth, BitVec.toNat_setWidth,
    BitVec.toNat_ushiftRight, Nat.shiftRight_eq_div_pow]
  omega

/-- The checks of a frame of a type whose length is known. -/
theorem frameGood_of_length (bytes : List Byte) (n : Nat) (h : frameLength (byteAt bytes 0) = some n) (hn : 2 ≤ n) :
    frameGood bytes = true ↔ bytes.length = n ∧
      (crc (bytes.take (n - 2))).toNat = 256 * (bytes.getD (n - 2) 0).toNat + (bytes.getD (n - 1) 0).toNat := by
  rw [frameGood, h, Bool.and_eq_true, beq_iff_eq, beq_iff_eq, withCrc, ← crc_bytes_iff]
  refine and_congr_right fun hl => ?_
  conv_lhs => lhs; rw [take_append_last_two bytes n hl hn]
  exact List.append_right_inj _

theorem frameLength_iff (k n : Nat) : frameLength k = some n ↔ (k, n) ∈ [(2, 72), (3, 14), (4, 4)] := by
  simp only [frameLength, List.mem_cons, Prod.mk.injEq, List.not_mem_nil, or_false]
  split_ifs <;> simp <;> omega

theorem two_le_frameLength (k n : Nat) (h : frameLength k = some n) : 2 ≤ n := by
  simp only [frameLength_iff, List.mem_cons, Prod.mk.injEq, List.not_mem_nil, or_false] at h
  omega

theorem frameGood_iff (bytes : List Byte) : frameGood bytes = true ↔
    ∃ n, ((bytes.getD 0 0).toNat, n) ∈ [(2, 72), (3, 14), (4, 4)] ∧ bytes.length = n ∧
      (crc (bytes.take (n - 2))).toNat = 256 * (bytes.getD (n - 2) 0).toNat + (bytes.getD (n - 1) 0).toNat := by
  simp only [← frameLength_iff]
  constructor
  · intro h
    cases hn : frameLength (byteAt bytes 0) with
    | none => simp [frameGood, hn] at h
    | some n => exact ⟨n, hn, (frameGood_of_length bytes n hn (two_le_frameLength _ n hn)).mp h⟩
  · rintro ⟨n, hn, h⟩
    exact (frameGood_of_length bytes n hn (two_le_frameLength _ n hn)).mpr h

theorem readFrame_bad (bytes : List Byte) (h : frameGood bytes = false) : readFrame bytes = none := by
  simp [readFrame, h]

/-- A byte with its four high bits cleared. -/
theorem statusFlags_toNat (b : Byte) : statusFlags b.toNat = b &&& 15 := by
  rw [statusFlags, ← BitVec.toNat_inj]
  have h : b.toNat &&& 15 = b.toNat % 16 := Nat.and_two_pow_sub_one_eq_mod b.toNat 4
  simp [h]
  omega

theorem take_drop_eq_map {α : Type} (xs : List α) (d : α) (k n : Nat) (h : k + n ≤ xs.length) :
    (xs.drop k).take n = (List.range n).map fun i => xs.getD (k + i) d := by
  refine List.ext_getElem (by simp; omega) fun i h₁ h₂ => ?_
  have hi : i < n := by simpa using h₂
  simp [List.getElem?_eq_getElem (show k + i < xs.length by omega)]

/-- The fields of a frame of each type that passed the checks. -/
theorem readFrame_good (bytes : List Byte) (h : frameGood bytes = true) :
    let b (i : Nat) : Byte := bytes.getD i 0
    (b 0 = 2 → readFrame bytes = some (.sample (b 1) (b 2).toNat (b 3).toNat ((b 4).getLsbD 0)
      ((List.range 64).map fun i => b (6 + i)))) ∧
    (b 0 = 3 → readFrame bytes = some (.finish (b 1) (b 2 &&& 15)
      ((List.range 4).map fun c => (b (4 + 2 * c)).toNat + 256 * (b (5 + 2 * c)).toNat))) ∧
    (b 0 = 4 → readFrame bytes = some (.idle (b 1 &&& 15))) := by
  intro b
  have at_ (i : Nat) : byteAt bytes i = (b i).toNat := rfl
  have type {x : Byte} (k : Nat) (h0 : b 0 = x) (hx : x.toNat = k) : byteAt bytes 0 = k := by rw [at_, h0, hx]
  rw [readFrame, if_pos h]
  refine ⟨fun h0 => ?_, fun h0 => ?_, fun h0 => ?_⟩
  · have hl : bytes.length = 72 :=
      ((frameGood_of_length bytes 72 (by rw [type 2 h0 rfl]; rfl) (by omega)).mp h).1
    rw [if_pos (type 2 h0 rfl), take_drop_eq_map bytes 0 6 64 (by omega)]
    simp only [at_, BitVec.ofNat_toNat, BitVec.setWidth_eq]
    congr 2
    simp only [BitVec.getLsbD, Nat.testBit_zero]
    rfl
  · rw [if_neg (by rw [type 3 h0 rfl]; decide), if_pos (type 3 h0 rfl)]
    simp only [at_, BitVec.ofNat_toNat, BitVec.setWidth_eq, statusFlags_toNat]
    rfl
  · rw [if_neg (by rw [type 4 h0 rfl]; decide), if_neg (by rw [type 4 h0 rfl]; decide), at_, statusFlags_toNat]

/-! ## The CRC (R51) -/

theorem crcBit_eq (c : BitVec 16) : crcBit c = (c <<< 1) ^^^ (if c.getLsbD 15 then 0x1021 else 0) := by
  unfold crcBit
  rw [BitVec.msb_eq_getLsbD_last]
  split <;> simp_all

/-- The check value of the generator: the CRC of the digits 1 to 9. -/
theorem crc_check_value : crc [0x31, 0x32, 0x33, 0x34, 0x35, 0x36, 0x37, 0x38, 0x39] = 0x29B1 := by
  decide +kernel

theorem crc_append (bytes : List Byte) (x : Byte) : crc (bytes ++ [x]) = crcByte (crc bytes) x := by
  simp [crc, List.foldl_append]

theorem crcByte_eq (c : BitVec 16) (x : Byte) : crcByte c x =
    (List.range 8).foldl (fun (c : BitVec 16) _ => (c <<< 1) ^^^ (if c.getLsbD 15 then 0x1021 else 0))
      (c ^^^ (x.zeroExtend 16 <<< 8)) := by
  simp only [← crcBit_eq]
  rfl

/-! ## The four frame rows (R51, R55, R59) -/

theorem exec_frame (row : Rail → List Byte → Instr) (r : Rail) (bytes : List Byte) (s : State)
    (h : row ∈ [Instr.sampleFrame, .endFrame, .idleFrame, .badFrame]) :
    exec (row r bytes) s = .next (s.receive r bytes) := by
  simp only [List.mem_cons, List.not_mem_nil, or_false] at h
  rcases h with rfl | rfl | rfl | rfl <;> rfl

theorem State.receive_outside (s : State) (r : Rail) (bytes : List Byte) (h : s.device ≠ .active) :
    s.receive r bytes = s :=
  if_pos h

theorem State.receive_bad (s : State) (r : Rail) (bytes : List Byte) (hd : s.device = .active)
    (h : readFrame bytes = none) : s.receive r bytes =
      (s.count r fun k => { k with crcErrors := bump16 k.crcErrors }).modLink r fun l => { l with good := 0 } := by
  rw [State.receive, if_neg (not_not.mpr hd), h]

theorem State.receive_sample (s : State) (r : Rail) (bytes : List Byte) (seq : BitVec 8) (channel index : Nat)
    (damaged : Bool) (samples : List Byte) (hd : s.device = .active)
    (h : readFrame bytes = some (.sample seq channel index damaged samples)) : s.receive r bytes =
      (s.frameCounts r).sampleReceived r seq channel index damaged samples := by
  rw [State.receive, if_neg (not_not.mpr hd), h]

theorem State.receive_end (s : State) (r : Rail) (bytes : List Byte) (seq flags : BitVec 8) (counts : List Nat)
    (hd : s.device = .active) (h : readFrame bytes = some (.finish seq flags counts)) :
    s.receive r bytes = (s.frameCounts r).endReceived r seq flags counts := by
  rw [State.receive, if_neg (not_not.mpr hd), h]

theorem State.receive_idle (s : State) (r : Rail) (bytes : List Byte) (flags : BitVec 8) (hd : s.device = .active)
    (h : readFrame bytes = some (.idle flags)) : s.receive r bytes = (s.frameCounts r).frontEndWarning r flags := by
  rw [State.receive, if_neg (not_not.mpr hd), h]

/-- Settles O18: the checks, the fields and the CRC are laws of the reader; the four rows act by what it reads. -/
theorem framesAreCheckedBeforeUse : Obligations.FramesAreCheckedBeforeUse := by
  refine ⟨fun bytes => ⟨frameGood_iff bytes, readFrame_bad bytes, readFrame_good bytes⟩,
    ⟨rfl, fun bytes x => ?_, crc_check_value⟩, fun row r bytes s hrow => ?_⟩
  · rw [crc_append]
    exact crcByte_eq _ x
  · rw [exec_frame row r bytes s hrow]
    refine ⟨fun hd => ?_, fun hd hb => ?_, fun flags hd hf => ?_⟩
    · rw [s.receive_outside r bytes hd]
    · rw [s.receive_bad r bytes hd (readFrame_bad bytes hb), State.count, State.modSeq, State.modLink,
        State.modRail_modRail]
    · rw [s.receive_idle r bytes flags hd hf]
      rfl

@[simp] theorem State.frameCounts_shot (s : State) (r : Rail) : ((s.frameCounts r).rail r).shot = (s.rail r).shot :=
  s.modLink_shot r r _

/-- Settles O19: whether the shot in flight has the sequence and a firing that takes the frame decides. -/
theorem sampleFrameFillsItsFiringOrIsStray : Obligations.SampleFrameFillsItsFiringOrIsStray := by
  intro r bytes seq channel index damaged samples s hd hf mine fill u stray
  have row : exec (.sampleFrame r bytes) s = .next (u.sampleReceived r seq channel index damaged samples) :=
    congrArg _ (s.receive_sample r bytes seq channel index damaged samples hd hf)
  have shot : (u.rail r).shot = (s.rail r).shot := s.frameCounts_shot r
  have unread (hx : (s.rail r).shot = none) : u.sampleReceived r seq channel index damaged samples = u.strayFrame r := by
    rw [State.sampleReceived, shot, hx]
  have read (x : Shot) (hx : (s.rail r).shot = some x) : u.sampleReceived r seq channel index damaged samples =
      if x.seq = seq ∧ x.firings.any mine = true then u.setShot r (some (x.acceptSample channel index damaged samples))
      else u.strayFrame r := by
    rw [State.sampleReceived, shot, hx]
    rfl
  refine ⟨fun hx => row.trans (congrArg _ (unread hx)), fun x hx => ⟨fun hs hm => ?_, fun hn => ?_⟩⟩
  · exact row.trans (congrArg _ ((read x hx).trans (if_pos ⟨hs, hm⟩)))
  · refine row.trans (congrArg _ ((read x hx).trans (if_neg ?_)))
    rintro ⟨hs, hm⟩
    rcases hn with h | h
    · exact h hs
    · exact Bool.false_ne_true (h.symm.trans hm)

end Sys2Proof.Machine
end

section
/-! PROOFS. The end of a shot: its END frame (O20) and its END timer (O21). -/

namespace Sys2Proof.Machine

/-! ## What a judged shot and a sweep's end come to -/

/-- A snapshot as a judged shot leaves it, given the capture the shot gives (R167). -/
def Snapshot.keeping (k : Snapshot) (c : Option Capture) : Snapshot :=
  { k with capture := if k.capture = none ∧ k.sweeps < 16 then c else k.capture }

theorem Snapshot.keeping_none (k : Snapshot) : k.keeping none = k := by
  unfold Snapshot.keeping
  split
  · rename_i h
    rw [← h.1]
  · rfl

theorem Snapshot.open_iff (k : Snapshot) : k.open = true ↔ k.capture = none ∧ k.sweeps < 16 := by
  rw [Snapshot.open, Bool.and_eq_true, Option.isNone_iff_eq_none, decide_eq_true_iff]
  rfl

theorem Snapshot.keeping_some (k : Snapshot) (c : Capture) : k.keeping (some c) = k.keep c := by
  unfold Snapshot.keeping Snapshot.keep
  by_cases h : k.open = true
  · rw [if_pos h, if_pos (k.open_iff.mp h)]
  · rw [if_neg h, if_neg fun c => h (k.open_iff.mpr c)]

/-- A rail whose shot has been judged. -/
def RailBlocks.judged (b : RailBlocks) (x : Shot) (whole : Firing → Bool) : RailBlocks :=
  { b with
    shot := none
    link := { b.link with endTimer := none }
    eval := b.eval.releaseShot x whole
    seq := { b.seq with counters := { b.seq.counters with
      damaged := add16 b.seq.counters.damaged (x.firings.filter fun f => !whole f).length } } }

theorem State.judgeShot_eq (s : State) (r : Rail) (x : Shot) (whole : Firing → Bool) : s.judgeShot r x whole =
    (s.modRail r fun b => b.judged x whole).modReq fun q =>
      { q with snapshot := q.snapshot.set r ((q.snapshot.get r).map fun k => k.keeping (x.capture whole)) } := by
  unfold State.judgeShot
  dsimp only
  rw [State.count, State.modSeq, State.modRail_modRail]
  cases x.capture whole with
  | none =>
    simp only [Snapshot.keeping_none, Option.map_id', Both.set_get]
    rfl
  | some c =>
    simp only [Snapshot.keeping_some]
    rfl

/-- A judged shot leaves its shot-released marker on the release path. -/
theorem Evaluator.releaseShot_ne_nil (v : Evaluator) (x : Shot) (whole : Firing → Bool) :
    (v.releaseShot x whole).release ≠ [] := by
  simp [Evaluator.releaseShot, shotResults, Results.append]

/-- The counts at the end of a sweep, by whether its last shot was the last of the list. -/
def SurveyCounters.sweepOver (k : SurveyCounters) (last : Bool) : SurveyCounters :=
  if last then { k with sweeps := bump16 k.sweeps } else { k with truncated := bump16 k.truncated }

theorem State.countSweepOf_eq (s : State) (r : Rail) (x : Shot) :
    s.countSweepOf r x = (s.count r fun k => k.sweepOver x.last).sweepEnded r := by
  unfold State.countSweepOf SurveyCounters.sweepOver
  cases x.last <;> rfl

theorem State.sweepEnded_eq (s : State) (r : Rail) : s.sweepEnded r = s.modReq fun q =>
    { q with snapshot := q.snapshot.set r ((q.snapshot.get r).map fun k =>
      if k.capture = none then { k with sweeps := min 16 (k.sweeps + 1) } else k) } := by
  simp only [State.sweepEnded, Option.isNone_iff_eq_none]
  rfl

/-- A rail with results still to be released is not reported held. -/
theorem State.reportHeld_of_undrained (s : State) (r : Rail) (h : (s.rail r).eval.release ≠ []) :
    s.reportHeld r = s := by
  unfold State.reportHeld
  exact if_neg fun c => h (List.isEmpty_iff.mp c.2.2.2)

/-! ## Going on after a shot (R48) -/

theorem State.modSeq_congr (s : State) (r : Rail) (f g : Sequencer → Sequencer)
    (h : f (s.rail r).seq = g (s.rail r).seq) : s.modSeq r f = s.modSeq r g := by
  have k : f (s.rails.get r).seq = g (s.rails.get r).seq := h
  simp only [State.modSeq, State.modRail, Both.modify, k]

theorem State.afterShot_next (s : State) (r : Rail) (x : Shot) (d : ShotDesc) (hs : (s.rail r).seq.state = .shot)
    (hl : x.last = false) (hh : (s.rail r).seq.held = false) (hd : (Plan.shots s.plan r)[x.index + 1]? = some d) :
    s.afterShot r x = s.fireShot r (x.index + 1) :=
  if_pos ⟨hl, hs, hh, (List.getElem?_eq_some_iff.mp hd).1⟩

/-- The sweep ends: no shot follows, or the Sequencer is held. -/
theorem State.afterShot_ends (s : State) (r : Rail) (x : Shot) (hs : (s.rail r).seq.state = .shot)
    (hr : (s.rail r).eval.release ≠ [])
    (h : x.last = true ∨ (s.rail r).seq.held = true ∨ (Plan.shots s.plan r)[x.index + 1]? = none) : s.afterShot r x =
      (s.modSeq r fun q => { q with state := .waiting, counters := q.counters.sweepOver x.last }).sweepEnded r := by
  unfold State.afterShot
  dsimp only
  have ends : ¬(x.last = false ∧ (s.rail r).seq.state = .shot ∧ (s.rail r).seq.held = false ∧
      x.index + 1 < (Plan.shots s.plan r).length) := by
    rintro ⟨hl, -, hh, hlt⟩
    rcases h with h | h | h
    · simp [hl] at h
    · simp [hh] at h
    · exact absurd (List.getElem?_eq_none_iff.mp h) (by omega)
  rw [if_neg ends, State.countSweepOf_eq, State.count, State.modSeq_modSeq, State.reportHeld_of_undrained]
  · exact congrArg (State.sweepEnded · r) (s.modSeq_congr r _ _ (by simp [hs]))
  · simpa [State.sweepEnded] using hr

/-! ## The END frame (R48, R54, R56) -/

theorem State.frontEndWarning_eq (s : State) (r : Rail) (flags : BitVec 8) : s.frontEndWarning r flags =
    { s with alarm := { s.alarm with reports := s.alarm.reports ++
      if flags = 0 then [] else [(.link r, .raise .frontEndWarning (.status r flags))] } } := by
  unfold State.frontEndWarning
  split
  · rw [List.append_nil]
  · rfl

/-- The state in which the Sequencer goes on behind an END frame: the frame has counted, its flags have been reported,
and the shot has been judged. -/
def State.shotJudged (s : State) (r : Rail) (x : Shot) (flags : BitVec 8) (counts : List Nat) : State :=
  ((((s.frameCounts r).frontEndWarning r flags).modLink r fun l => { l with missing := 0 }).judgeShot r x fun f =>
    f.whole counts)

theorem State.endReceived_of_shot (s : State) (r : Rail) (seq flags : BitVec 8) (counts : List Nat) (x : Shot)
    (hx : (s.rail r).shot = some x) (hs : x.seq = seq) : (s.frameCounts r).endReceived r seq flags counts =
      (s.shotJudged r x flags counts).afterShot r x := by
  rw [State.endReceived, State.frameCounts_shot, hx]
  exact if_pos hs

theorem State.endReceived_stray (s : State) (r : Rail) (seq flags : BitVec 8) (counts : List Nat)
    (h : ∀ x, (s.rail r).shot = some x → x.seq ≠ seq) :
    (s.frameCounts r).endReceived r seq flags counts = (s.frameCounts r).strayFrame r := by
  rw [State.endReceived, State.frameCounts_shot]
  cases hx : (s.rail r).shot with
  | none => rfl
  | some x => exact if_neg (h x hx)

/-- Settles O20: an END frame of another sequence is stray; that of the shot in flight judges it, and the Sequencer goes on
from the state that leaves. -/
theorem endFrameJudgesAndGoesOn : Obligations.EndFrameJudgesAndGoesOn := by
  intro r bytes seq flags counts s hd hf stray
  have row : exec (.endFrame r bytes) s = .next ((s.frameCounts r).endReceived r seq flags counts) :=
    congrArg _ (s.receive_end r bytes seq flags counts hd hf)
  refine ⟨fun hx => row.trans (congrArg _ (s.endReceived_stray r seq flags counts (by simp [hx]))), fun x hx =>
    ⟨fun hs => row.trans (congrArg _ (s.endReceived_stray r seq flags counts fun y hy => ?_)), fun hs hq => ?_⟩⟩
  · exact (Option.some.inj (hx.symm.trans hy)) ▸ hs
  · intro b whole kept w next ended
    have judged : s.shotJudged r x flags counts = w := by
      rw [State.shotJudged, State.judgeShot_eq, State.frontEndWarning_eq]
      cases r <;> rfl
    have blocks : w.rail r = _ := Both.get_set_same _ _ _
    have state : (w.rail r).seq.state = .shot := by rw [blocks]; exact hq
    have held : (w.rail r).seq.held = b.seq.held := by rw [blocks]
    have release : (w.rail r).eval.release ≠ [] := by rw [blocks]; exact Evaluator.releaseShot_ne_nil _ _ _
    have goesOn : exec (.endFrame r bytes) s = .next (w.afterShot r x) := by
      rw [row, s.endReceived_of_shot r seq flags counts x hx hs, judged]
    refine ⟨fun d hl hh hn => ?_, fun h => ?_⟩
    · rw [goesOn, w.afterShot_next r x d state hl (held.trans hh) hn, w.fireShot_eq r _ d hn]
    · rw [goesOn, w.afterShot_ends r x state release (held ▸ h), State.sweepEnded_eq]
      rfl

/-! ## The END timer (R49, R57) -/

/-- A shot of damaged firings gives no capture. -/
theorem State.judgeShot_damaged (s : State) (r : Rail) (x : Shot) :
    s.judgeShot r x (fun _ => false) = s.modRail r fun b => b.judged x fun _ => false := by
  have capture : x.capture (fun _ => false) = none := by simp [Shot.capture]
  rw [State.judgeShot_eq, capture]
  simp only [Snapshot.keeping_none, Option.map_id', Both.set_get]
  rfl

/-- The shot in flight judged damaged, with the missing ENDs in a row given. -/
def State.endMissed (s : State) (r : Rail) (x : Shot) (missing : Nat) : State :=
  ((s.count r fun k => { k with missingEnds := bump16 k.missingEnds }).judgeShot r x fun _ => false).modLink r fun l =>
    { l with missing := missing }

theorem State.endMissed_eq (s : State) (r : Rail) (x : Shot) (missing : Nat) :
    s.endMissed r x missing = s.modRail r fun b => { b with
      shot := none
      eval := b.eval.releaseShot x fun _ => false
      link := { b.link with endTimer := none, missing := missing }
      seq := { b.seq with counters := { b.seq.counters with
        missingEnds := bump16 b.seq.counters.missingEnds
        damaged := min 65535 (b.seq.counters.damaged + x.firings.length) } } } := by
  have all : (x.firings.filter fun _ => !false) = x.firings := List.filter_true _
  rw [State.endMissed, State.judgeShot_damaged, State.count, State.modSeq, State.modLink, State.modRail_modRail,
    State.modRail_modRail]
  simp only [RailBlocks.judged, all]
  rfl

theorem exec_endTimerExpiry (r : Rail) (n : Nat) (x : Shot) (s : State) (hn : (s.rail r).link.endTimer = some n)
    (hx : (s.rail r).shot = some x) : exec (.endTimerExpiry r) s = .next
      (if (s.rail r).link.missing + 1 < 4 then (s.endMissed r x ((s.rail r).link.missing + 1)).afterShot r x
       else (((((s.endMissed r x 0).linkGoesDown r).seqLinkDown r).countSweepOf r x).reportHeld r)) := by
  show execEndTimerExpiry r s = _
  rw [execEndTimerExpiry, hn, State.endTimerExpires, hx]
  rfl

theorem State.seqLinkDown_of_shot (s : State) (r : Rail) (h : (s.rail r).seq.state = .shot) :
    s.seqLinkDown r = s.modSeq r fun q => { q with state := .linkDown } :=
  s.modSeq_congr r _ _ (by simp [h])

/-- Settles O21: the shot is judged damaged, and then the Sequencer goes on as behind an END frame, or the link goes DOWN.
Either way the shot-released marker keeps the rail from being reported held. -/
theorem endTimerExpiryDamagesTheShot : Obligations.EndTimerExpiryDamagesTheShot := by
  intro r n x s hn hx hq b m w next ended
  have row := exec_endTimerExpiry r n x s hn hx
  have missed : s.endMissed r x m = w := s.endMissed_eq r x m
  have blocks : w.rail r = _ := Both.get_set_same _ _ _
  have state : (w.rail r).seq.state = .shot := by rw [blocks]; exact hq
  have held : (w.rail r).seq.held = b.seq.held := by rw [blocks]
  have release : (w.rail r).eval.release ≠ [] := by rw [blocks]; exact Evaluator.releaseShot_ne_nil _ _ _
  have goesOn (h : m < 4) : exec (.endTimerExpiry r) s = .next (w.afterShot r x) := by
    rw [row, if_pos h]
    exact congrArg (fun u => Host.Outcome.next (State.afterShot u r x)) missed
  refine ⟨fun d h hl hh hd => ?_, fun h hn => ?_, fun h => ?_⟩
  · rw [goesOn h, w.afterShot_next r x d state hl (held.trans hh) hd, w.fireShot_eq r _ d hd]
  · rw [goesOn h, w.afterShot_ends r x state release (held ▸ hn), State.sweepEnded_eq]
    rfl
  · rw [row, if_neg (not_lt.mpr h), State.endMissed_eq, State.seqLinkDown_of_shot _ r (by cases r <;> exact hq),
      State.countSweepOf_eq, State.sweepEnded_eq, State.reportHeld_of_undrained]
    · cases r <;> rfl
    · cases r <;> exact Evaluator.releaseShot_ne_nil _ _ _

end Sys2Proof.Machine
end

section
/-! PROOFS. The link and the carriage (O22, O23), survey marks (O25) and the release path (O32). -/

namespace Sys2Proof.Machine

/-! ## The link (R57 to R59) -/

theorem State.presenceExpires_up (s : State) (r : Rail) (h : (s.rail r).link.state = .up) :
    s.presenceExpires r = (((s.linkGoesDown r).abandonShot r).seqLinkDown r).reportHeld r :=
  if_pos h

/-- A board that stays silent is reported once. -/
theorem State.presenceExpires_down (s : State) (r : Rail) (h : (s.rail r).link.state = .down) : s.presenceExpires r =
    if (s.rail r).link.upSinceEntry || (s.rail r).link.downHeld then s
    else (s.modLink r fun l => { l with downHeld := true }).raiseReport (.link r) .linkDown (.rail r) := by
  unfold State.presenceExpires
  dsimp only
  rw [if_neg (by simp [h])]
  cases (s.rail r).link.upSinceEntry <;> cases (s.rail r).link.downHeld <;> rfl

theorem exec_presenceTimerExpiry (r : Rail) (s : State) (hd : s.device = .active) (hp : (s.rail r).link.presence = true) :
    exec (.presenceTimerExpiry r) s = .next (s.presenceExpires r) :=
  congrArg _ (if_pos ⟨hd, hp⟩)

/-- Settles O22, by the state of the link. -/
theorem linkGoesDownAndComesUp : Obligations.LinkGoesDownAndComesUp := by
  intro r s hd l down
  refine ⟨fun hp hl => ?_, fun hp hl => ?_, fun hl hg => ?_⟩
  · rw [exec_presenceTimerExpiry r s hd hp, s.presenceExpires_up r hl, State.linkGoesDown, State.modLink, State.modTrk,
      State.modRail_modRail]
    rfl
  · rw [exec_presenceTimerExpiry r s hd hp, s.presenceExpires_down r hl]
    rfl
  · have row : exec (.linkUp r) s = .next (s.linkComesUp r) := congrArg _ (if_pos ⟨hd, hl, hg⟩)
    rw [row, State.linkComesUp, State.modLink, State.modSeq, State.modRail_modRail]

/-! ## LIFT (R42, R45, R50) -/

theorem exec_liftChange (r : Rail) (b : Bool) (s : State) (h : (s.rail r).seq.lift = !b) :
    exec (.liftChange r b) s = .next (s.liftChanges r b) :=
  congrArg _ (if_neg (by simp [h]))

theorem State.abandonShot_none (s : State) (r : Rail) (h : (s.rail r).shot = none) : s.abandonShot r = s := by
  rw [State.abandonShot, h]

/-- A shot in flight given up: the sweep is over with it. -/
theorem State.abandonShot_some (s : State) (r : Rail) (x : Shot) (h : (s.rail r).shot = some x) : s.abandonShot r =
    (s.modRail r fun b =>
      { b with
        shot := none
        link := { b.link with endTimer := none }
        seq := { b.seq with counters :=
          { b.seq.counters with abandoned := bump16 b.seq.counters.abandoned }.sweepOver x.last } }).sweepEnded r := by
  rw [State.abandonShot, h]
  dsimp only
  rw [State.countSweepOf_eq, State.count, State.count, State.modSeq_modSeq, State.modSeq, State.modRail_modRail]

section
variable (s : State) (r : Rail)

theorem State.liftChanges_off (asserted : Bool) (h : (s.rail r).seq.state = .off) :
    s.liftChanges r asserted = s.modSeq r fun q => { q with lift := asserted } := by
  unfold State.liftChanges
  exact if_pos (by rw [State.modSeq_seq_same]; exact h)

/-- LIFT asserted, in a state other than OFF. -/
theorem State.liftChanges_true (h : (s.rail r).seq.state ≠ .off) : s.liftChanges r true =
    ((((((s.modSeq r fun q => { q with lift := true }).abandonShot r).modSeq r fun q => { q with state := .lifted }).modTrk r
      fun k => { k with liftNotices := k.liftNotices + 1 }).modCoupling fun m =>
        { m with carriage := m.carriage.modify r (· ++ [.lift]) }).reportHeld r) := by
  unfold State.liftChanges
  exact if_neg (by rw [State.modSeq_seq_same]; exact h)

/-- LIFT released, in a state other than OFF. -/
theorem State.liftChanges_false (h : (s.rail r).seq.state ≠ .off) : s.liftChanges r false =
    (s.modSeq r fun q =>
      { q with lift := false, state := if (s.rail r).link.state = .down then .linkDown else .waiting }).modCoupling fun m =>
        { m with carriage := m.carriage.modify r (· ++ [.release]) } := by
  unfold State.liftChanges
  refine (if_neg (by rw [State.modSeq_seq_same]; exact h)).trans ?_
  dsimp only
  rw [State.modSeq_modSeq]
  cases r <;> rfl

end

/-- Settles O23, by the state of the Sequencer and the shot in flight. -/
theorem liftChangeMovesTheSequencer : Obligations.LiftChangeMovesTheSequencer := by
  intro r s q level lifted
  refine ⟨fun b hb hq => ?_, fun b hb => congrArg _ (if_pos hb), fun hl hq hx => ?_, fun x hl hq hx => ?_,
    fun hl hq => ?_⟩
  · rw [exec_liftChange r b s hb, s.liftChanges_off r b hq]
    have off : (s.rail r).seq.state = .off := hq
    exact congrArg _ (s.modSeq_congr r _ (fun q => { q with lift := b, state := .off }) (by rw [← off]))
  · have on : (s.rail r).seq.state ≠ .off := by rcases hq with hq | hq <;> exact fun h => nomatch hq.symm.trans h
    rw [exec_liftChange r true s hl, s.liftChanges_true r on, State.abandonShot_none _ r (by rwa [State.modSeq_shot]),
      State.modSeq_modSeq]
    rfl
  · have on : (s.rail r).seq.state ≠ .off := fun h => nomatch hq.symm.trans h
    rw [exec_liftChange r true s hl, s.liftChanges_true r on, State.abandonShot_some _ r x (by rwa [State.modSeq_shot])]
    intro dropped
    have counts (k : SurveyCounters) : { k with abandoned := bump16 k.abandoned }.sweepOver x.last = dropped k := by
      simp only [SurveyCounters.sweepOver, dropped]
      cases x.last <;> rfl
    simp only [counts]
    cases r <;> rfl
  · have on : (s.rail r).seq.state ≠ .off := fun h => nomatch hq.symm.trans h
    rw [exec_liftChange r false s hl, s.liftChanges_false r on]
    rfl

/-! ## Survey marks (R44, R61, R62) -/

theorem exec_surveyMark (r : Rail) (s : State) (t p : Nat) (stepped : Bool) (rest : List SeqNotice)
    (h : (s.rail r).seq.notices = .progress t p stepped false :: rest) : exec (.surveyMark r) s = .next
      (if s.surveyDue r t then
        (s.takeSurvey r t p).putNotices r (if stepped then rest else .progress t p false true :: rest)
      else if stepped then s.putNotices r rest else s) := by
  show execSurveyMark r s = _
  rw [execSurveyMark, h]

theorem State.offer_modSeq (s : State) (who : Producer) (x : Rec) (r : Rail) (f : Sequencer → Sequencer) :
    (s.offer who x).modSeq r f = (s.modSeq r f).offer who x := by
  unfold State.offer
  split
  · exact (if_pos ‹_›).symm
  · exact (if_neg ‹_›).symm

theorem State.surveyDue_iff (s : State) (r : Rail) (t : Nat) : s.surveyDue r t = true ↔
    s.inForce = true ∧ Plan.surveyInterval s.plan ≠ 0 ∧ (s.rail r).seq.surveyMark ≤ t := by
  simp [State.surveyDue, and_assoc]

/-- Settles O25: a mark that is due gives its record of the counts as they stood, since offering it commutes with what the
Sequencer does to itself. -/
theorem surveyMarkReadsAndClearsTheCounts : Obligations.SurveyMarkReadsAndClearsTheCounts := by
  intro r s
  refine ⟨fun t p stepped rest h => ⟨fun hn => ?_, fun hf hi hm => ?_⟩, fun d p t rest h => ?_⟩
  · have due : s.surveyDue r t ≠ true := fun hd => by
      obtain ⟨hf, hi, hm⟩ := (s.surveyDue_iff r t).mp hd
      rcases hn with h | h | h
      · exact Bool.false_ne_true (h.symm.trans hf)
      · exact hi h
      · omega
    rw [exec_surveyMark r s t p stepped rest h, if_neg due]
    rfl
  · intro b left u
    rw [exec_surveyMark r s t p stepped rest h, if_pos ((s.surveyDue_iff r t).mpr ⟨hf, hi, hm⟩), State.takeSurvey,
      State.putNotices, State.modSeq_modSeq, State.offer_modSeq, State.plan, State.offer_plans]
    cases r <;> rfl
  · show execSequencerReversalNotice r s = _
    rw [execSequencerReversalNotice, h]
    exact congrArg _ (State.modSeq_modSeq _ _ _ _)

/-! ## The release path (R46, R76, R84) -/

theorem State.reportHeld_eq (s : State) (r : Rail) : s.reportHeld r =
    if (s.rail r).seq.held = true ∧ (s.rail r).seq.heldReported = false ∧ (s.rail r).shot = none ∧
        (s.rail r).eval.release = [] then
      (s.modSeq r fun q => { q with heldReported := true }).modPlans fun p =>
        { p with heldReports := p.heldReports.set r (p.heldReports.get r + 1) }
    else s := by
  simp only [State.reportHeld, Evaluator.drained, Option.isNone_iff_eq_none, List.isEmpty_iff]
  rfl

/-- Settles O32, by the item at the head of the release path. -/
theorem releasePathFiltersHits : Obligations.ReleasePathFiltersHits := by
  intro r rest s u
  refine ⟨fun h hh => ?_, fun seq hr => ?_⟩
  · have row : exec (.hitFilter r) s = .next (u.filterHit r h) := by
      show execHitFilter r s = _
      rw [execHitFilter, hh]
      rfl
    rw [row]
    exact ⟨fun hl => congrArg _ (if_pos hl), fun hl => congrArg _ (if_neg hl)⟩
  · intro done
    have row : exec (.shotReleasedMarker r) s = .next (u.reportHeld r) := by
      show execShotReleasedMarker r s = _
      rw [execShotReleasedMarker, hr]
      rfl
    rw [row, State.reportHeld_eq]
    simp only [u, State.modEval_seq, State.modEval_shot, State.modEval_eval_same, done, decide_eq_true_eq]

end Sys2Proof.Machine
end

section
/-! PROOFS. Plans that come into force or go, for the Coupling Monitor (O34). -/

namespace Sys2Proof.Machine

/-! ## Every element set afresh (R88, R89) -/

/-- The monitor's part when the ACTIVE bank is emptied: rail A's records before rail B's, and the end of a loss. -/
theorem State.couplingEnds_eq (s : State) (ha : s.coupling.elements.a.length = 12) (hb : s.coupling.elements.b.length = 12) :
    s.couplingEnds = { s with
      coupling := { s.coupling with
        elements := ⟨freshElements fun _ => .unmonitored, freshElements fun _ => .unmonitored⟩
        lossFlag := false }
      jrn := { s.jrn with presented :=
        s.jrn.presented ++ (s.lossRecords .A .planEnded ++ s.lossRecords .B .planEnded) }
      alarm := { s.alarm with reports := s.alarm.reports ++
        if s.coupling.lossFlag then [(Raiser.couplingMonitor, Report.condEnd .couplingLoss none)] else [] } } := by
  have first := s.resetElements_eq .A .planEnded (fun _ => .unmonitored) ha
  rw [State.couplingEnds, first, State.resetElements_eq _ .B .planEnded (fun _ => .unmonitored) (by exact hb),
    State.lossRecords_congr (s := s) .B .planEnded rfl rfl rfl (fun _ => rfl), State.reportLossEnd_eq]
  · simp only [State.setElements, List.append_assoc]
    rfl
  · have clear : ∀ _ : Nat, CouplingState.unmonitored ≠ .lost := fun _ => nofun
    exact CouplingMonitor.anyLost_fresh _ _ _ clear clear rfl

theorem exec_couplingPlanReset (s : State) (rest : List CouplingOrder) (h : s.coupling.orders = .planReset :: rest) :
    exec .couplingPlanReset s = .next ((s.modCoupling fun m => { m with orders := rest }).couplingReset.modPlans fun p =>
      { p with resetDone := p.resetDone + 1 }) := by
  show execCouplingPlanReset s = _
  rw [execCouplingPlanReset, h]

theorem exec_couplingPlanEnded (s : State) (rest : List CouplingOrder) (h : s.coupling.orders = .planEnded :: rest) :
    exec .couplingPlanEnded s = .next (s.modCoupling fun m => { m with orders := rest }).couplingEnds := by
  show execCouplingPlanEnded s = _
  rw [execCouplingPlanEnded, h]

/-! ## The release path with no plan in force (R83, R84) -/

/-- The hit an item of a release path carries, if any. -/
def ReleaseItem.hits : ReleaseItem → List Hit
  | .hit h => [h]
  | .result _ _ _ _ => []
  | .released _ => []

theorem State.takeReleased_idle (s : State) (r : Rail) (x : ReleaseItem) (hf : s.inForce = false)
    (hh : (s.rail r).seq.held = false) (hl : ∀ e, (s.coupling.element r e).state ≠ .lost) :
    State.takeReleased r s x = s.modTrk r fun k => { k with hits := k.hits ++ x.hits } := by
  have nothing : (s.modTrk r fun k => { k with hits := k.hits ++ [] }) = s := s.modRail_same r _ (by simp)
  cases x with
  | result e present seq pc => exact (if_pos hf).trans nothing.symm
  | hit h => exact if_neg (hl h.element)
  | released seq => exact (s.reportHeld_of_free r hh).trans nothing.symm

/-- What is left on a release path leaves its hits to the correlator, and nothing else. -/
theorem State.foldl_takeReleased_idle (r : Rail) (xs : List ReleaseItem) (s : State) (hf : s.inForce = false)
    (hh : (s.rail r).seq.held = false) (hl : ∀ e, (s.coupling.element r e).state ≠ .lost) :
    xs.foldl (State.takeReleased r) s = s.modTrk r fun k => { k with hits := k.hits ++ xs.flatMap ReleaseItem.hits } := by
  induction xs generalizing s with
  | nil => exact (s.modRail_same r _ (by simp)).symm
  | cons x xs ih =>
    rw [List.foldl_cons, s.takeReleased_idle r x hf hh hl,
      ih (s.modTrk r fun k => { k with hits := k.hits ++ x.hits }) hf (by rwa [State.modTrk_seq]) hl]
    simp only [State.modTrk, State.modRail_modRail, List.flatMap_cons, List.append_assoc]

/-- With no plan in force hits are discarded. -/
theorem State.foldl_takeHit_idle (r : Rail) (hits : List Hit) (s : State) (hf : s.inForce = false) :
    hits.foldl (fun s h => s.takeHit r h) s = s := by
  induction hits with
  | nil => rfl
  | cons h hits ih =>
    have idle : s.takeHit r h = s := if_pos hf
    rw [List.foldl_cons, idle, ih]

/-- Settles O34: both notices set the elements of rail A and then of rail B afresh; a release path drained with no plan in
force gives its hits to a correlator that discards them. -/
theorem planNoticesResetTheElements : Obligations.PlanNoticesResetTheElements := by
  intro rest s ha hb reset
  refine ⟨fun h => ?_, fun h => ?_, fun r hf hh hl => ?_⟩
  · rw [exec_couplingPlanReset s rest h, State.couplingReset_eq (s.modCoupling fun m => { m with orders := rest }) ha hb]
    rfl
  · rw [exec_couplingPlanEnded s rest h, State.couplingEnds_eq (s.modCoupling fun m => { m with orders := rest }) ha hb]
    rfl
  · have taken := State.foldl_takeReleased_idle r (s.rail r).eval.release (s.putRelease r []) hf
      (by rwa [State.putRelease, State.modEval_seq]) hl
    rw [State.drainReleases, taken]
    refine (State.foldl_takeHit_idle r _ _ (by exact hf)).trans ?_
    rw [State.putRelease, State.modEval, State.modTrk, State.modTrk, State.modRail_modRail, State.modRail_modRail]

end Sys2Proof.Machine
end

section
/-! PROOFS. Projection: the along-rail term (O29) and the place of a detection (O30). -/

namespace Sys2Proof.Machine

/-! ## The along-rail term (R73) -/

/-- The along-rail term in µm, before it is rounded. -/
def alongUm (s : Nat) (factor : Int) : Int := ((s : Int) * factor).tdiv 32768

theorem alongTerm_of_nonneg (s : Nat) (factor : Int) (h : 0 ≤ alongUm s factor) :
    alongTerm s factor = (alongUm s factor + 500) / 1000 := if_pos h

theorem alongTerm_of_neg (s : Nat) (factor : Int) (h : alongUm s factor < 0) :
    alongTerm s factor = -((-alongUm s factor + 500) / 1000) := if_neg (not_le.mpr h)

/-- The term stands at most half a mm from its µm, and a half rounds it up where they are not negative and down where
they are. -/
theorem alongTerm_near (s : Nat) (factor : Int) :
    (0 ≤ alongUm s factor → 0 ≤ alongTerm s factor ∧ -500 ≤ alongUm s factor - 1000 * alongTerm s factor ∧
      alongUm s factor - 1000 * alongTerm s factor < 500) ∧
    (alongUm s factor < 0 → alongTerm s factor ≤ 0 ∧ -500 < alongUm s factor - 1000 * alongTerm s factor ∧
      alongUm s factor - 1000 * alongTerm s factor ≤ 500) := by
  refine ⟨fun h => ?_, fun h => ?_⟩
  · have rounded := alongTerm_of_nonneg s factor h
    omega
  · have rounded := alongTerm_of_neg s factor h
    omega

theorem alongUm_nonneg (s : Nat) (factor : Int) (h : 0 ≤ factor) : 0 ≤ alongUm s factor :=
  Int.tdiv_nonneg (mul_nonneg (Int.natCast_nonneg s) h) (by decide)

theorem alongUm_nonpos (s : Nat) (factor : Int) (h : factor ≤ 0) : alongUm s factor ≤ 0 := by
  have mirrored : alongUm s (-factor) = -alongUm s factor := by
    rw [alongUm, mul_neg, Int.neg_tdiv]
    rfl
  have := alongUm_nonneg s (-factor) (by omega)
  omega

/-- Settles O29: both signs round the size of the µm, so that the sign of the µm is that of the term. -/
theorem alongTermRoundsHalfAwayFromZero : Obligations.AlongTermRoundsHalfAwayFromZero := by
  refine ⟨fun s factor => ?_, by decide, by decide, by decide, by decide⟩
  intro um a
  obtain ⟨up, down⟩ : (0 ≤ um → 0 ≤ a ∧ -500 ≤ um - 1000 * a ∧ um - 1000 * a < 500) ∧
      (um < 0 → a ≤ 0 ∧ -500 < um - 1000 * a ∧ um - 1000 * a ≤ 500) := alongTerm_near s factor
  have nonneg : 0 ≤ factor → 0 ≤ um := alongUm_nonneg s factor
  have nonpos : factor ≤ 0 → um ≤ 0 := alongUm_nonpos s factor
  refine ⟨alongTerm_of_nonneg s factor, alongTerm_of_neg s factor, ?_, ?_, fun h => (up (nonneg h)).1, fun h => ?_⟩
  · rw [Int.abs_eq_natAbs]
    omega
  · simp only [Int.abs_eq_natAbs]
    omega
  · have := nonpos h
    omega

/-! ## The stages of projection (R71, R72, R74) -/

/-- The largest echo time gives the largest sound path and depth. -/
theorem soundPath_le (e : ElementDesc) (t : Nat) (ht : t ≤ 16382) (hp : e.path ≤ 65535) : soundPath e t ≤ 1048432 := by
  have product : (t - e.delay) * e.path ≤ 16382 * 65535 := Nat.mul_le_mul (by omega) hp
  unfold soundPath
  omega

theorem depthOf_le (e : ElementDesc) (sp : Nat) (hs : sp ≤ 1048432) (hd : e.depthFactor ≤ 32767) :
    depthOf e sp ≤ 10484 := by
  have product : sp * e.depthFactor ≤ 1048432 * 32767 := Nat.mul_le_mul hs hd
  unfold depthOf
  omega

/-- Settles O30: the stages in order, each with the one test that ends it. -/
theorem projectionPlacesADetection : Obligations.ProjectionPlacesADetection := by
  intro x e t sp d place
  have past (h : e.delay ≤ t) : project x e t = if x.railHeight < d then .beyond
      else .hit (clampPos place) d (offScale place) := if_neg (not_lt.mpr h)
  refine ⟨fun h => if_pos h, fun h hd => ?_, fun h hd => ?_, fun ht hp => ?_⟩
  · rw [past h, if_pos hd]
  · rw [past h, if_neg (not_lt.mpr hd)]
    rfl
  · have path : sp ≤ 1048432 := soundPath_le e t ht hp
    exact ⟨path, depthOf_le e sp path⟩

end Sys2Proof.Machine
end

section
/-! PROOFS. The gates of a shot: what samples do to an accumulator, one by one and frame by frame, and the effective
threshold (O27). -/

namespace Sys2Proof.Machine

/-! ## One sample (R66) -/

/-- The gate covers a tick. -/
abbrev GateAcc.covers (g : GateAcc) (tick : Nat) : Prop := g.start ≤ tick ∧ tick < g.start + g.length

/-- A sample takes the place of the peak of a FLAW gate: it is greater, or as great and earlier. -/
abbrev GateAcc.peaksAt (g : GateAcc) (tick value : Nat) : Prop :=
  g.peak < value ∨ (value = g.peak ∧ earlierThan tick g.peakTick = true)

/-- A sample takes the place of the first crossing of a FLAW gate. -/
abbrev GateAcc.crossesAt (g : GateAcc) (tick value : Nat) : Prop :=
  g.threshold ≤ value ∧ earlierThan tick g.firstCross = true

theorem earlierThan_none (tick : Nat) : earlierThan tick none = true := rfl

theorem earlierThan_some (tick t : Nat) : earlierThan tick (some t) = true ↔ tick < t := decide_eq_true_iff

theorem GateAcc.sample_uncovered (g : GateAcc) (tick value : Nat) (h : ¬ g.covers tick) : g.sample tick value = g :=
  if_pos (by unfold GateAcc.covers at h; omega)

theorem GateAcc.sample_flaw (g : GateAcc) (tick value : Nat) (hr : g.role = .flaw) (h : g.covers tick) :
    g.sample tick value =
      { g with peak := if g.peaksAt tick value then value else g.peak,
               peakTick := if g.peaksAt tick value then some tick else g.peakTick,
               firstCross := if g.crossesAt tick value then some tick else g.firstCross } := by
  have inside : ¬ (tick < g.start ∨ g.start + g.length ≤ tick) := by
    unfold GateAcc.covers at h
    omega
  unfold GateAcc.sample
  rw [if_neg inside]
  split
  · by_cases peaks : g.peaksAt tick value <;> by_cases crosses : g.crossesAt tick value <;> simp [peaks, crosses]
  · next other => exact absurd (hr.symm.trans other) nofun
  · next other => exact absurd (hr.symm.trans other) nofun

theorem GateAcc.sample_present (g : GateAcc) (tick value : Nat) (hr : g.role ≠ .flaw) (h : g.covers tick) :
    g.sample tick value = { g with present := g.present || decide (g.threshold ≤ value) } := by
  have inside : ¬ (tick < g.start ∨ g.start + g.length ≤ tick) := by
    unfold GateAcc.covers at h
    omega
  unfold GateAcc.sample
  rw [if_neg inside]
  cases role : g.role with
  | flaw => exact absurd role hr
  | coupling => rfl
  | backwall => rfl

/-! ## What samples leave alone -/

/-- An accumulator differs from another only in what its role gathers. -/
def GateAcc.fillsTo (g a : GateAcc) : Prop :=
  a = { g with peak := a.peak, peakTick := a.peakTick, firstCross := a.firstCross, present := a.present } ∧
    (g.role = .flaw → a.present = g.present) ∧
    (g.role ≠ .flaw → a.peak = g.peak ∧ a.peakTick = g.peakTick ∧ a.firstCross = g.firstCross)

theorem GateAcc.fillsTo_refl (g : GateAcc) : g.fillsTo g := ⟨rfl, fun _ => rfl, fun _ => ⟨rfl, rfl, rfl⟩⟩

/-- The fields that samples leave alone. -/
theorem GateAcc.fillsTo.kept {g a : GateAcc} (h : g.fillsTo a) : a.role = g.role ∧ a.mode = g.mode ∧
    a.threshold = g.threshold ∧ a.start = g.start ∧ a.length = g.length := by
  rw [h.1]
  exact ⟨rfl, rfl, rfl, rfl, rfl⟩

theorem GateAcc.fillsTo.trans {g a b : GateAcc} (h : g.fillsTo a) (k : a.fillsTo b) : g.fillsTo b := by
  obtain ⟨role, -⟩ := h.kept
  obtain ⟨eq, flaw, other⟩ := h
  obtain ⟨eq', flaw', other'⟩ := k
  refine ⟨?_, fun hr => (flaw' (role.trans hr)).trans (flaw hr), fun hr => ?_⟩
  · rw [eq] at eq'
    exact eq'
  · obtain ⟨peak, peakTick, firstCross⟩ := other hr
    obtain ⟨peak', peakTick', firstCross'⟩ := other' (role ▸ hr)
    exact ⟨peak'.trans peak, peakTick'.trans peakTick, firstCross'.trans firstCross⟩

theorem GateAcc.sample_fillsTo (g : GateAcc) (tick value : Nat) : g.fillsTo (g.sample tick value) := by
  by_cases h : g.covers tick
  · by_cases hr : g.role = .flaw
    · rw [g.sample_flaw tick value hr h]
      exact ⟨rfl, fun _ => rfl, fun k => absurd hr k⟩
    · rw [g.sample_present tick value hr h]
      exact ⟨rfl, fun k => absurd k hr, fun _ => ⟨rfl, rfl, rfl⟩⟩
  · rw [g.sample_uncovered tick value h]
    exact g.fillsTo_refl

/-! ## Frames: the samples a gate covers, one after another -/

/-- The samples of a frame that a gate covers, below the listen length, with their ticks. -/
def GateAcc.covered (g : GateAcc) (listen tick : Nat) (samples : List Byte) : List (Nat × Nat) :=
  (indexed samples).filterMap fun x =>
    if tick + x.1 < listen ∧ g.start ≤ tick + x.1 ∧ tick + x.1 < g.start + g.length then
      some (tick + x.1, x.2.toNat) else none

/-- Samples given to an accumulator one after another. -/
def GateAcc.gather (g : GateAcc) (seen : List (Nat × Nat)) : GateAcc := seen.foldl (fun g k => g.sample k.1 k.2) g

theorem indexed_cons {α : Type} (x : α) (xs : List α) :
    indexed (x :: xs) = (0, x) :: (indexed xs).map fun y => (y.1 + 1, y.2) := by
  rw [indexed, List.length_cons, List.range_succ_eq_map, List.zip_cons_cons, List.zip_map_left]
  rfl

theorem mem_indexed_of_getElem? {α : Type} (xs : List α) (i : Nat) (x : α) (h : xs[i]? = some x) :
    (i, x) ∈ indexed xs := by
  obtain ⟨hi, -⟩ := List.getElem?_eq_some_iff.mp h
  exact List.mem_of_getElem? (List.getElem?_zip_eq_some.mpr ⟨List.getElem?_range hi, h⟩)

theorem GateAcc.covered_cons (g : GateAcc) (listen tick : Nat) (v : Byte) (vs : List Byte) :
    g.covered listen tick (v :: vs) =
      (if tick < listen ∧ g.start ≤ tick ∧ tick < g.start + g.length then [(tick, v.toNat)] else []) ++
        g.covered listen (tick + 1) vs := by
  rw [GateAcc.covered, GateAcc.covered, indexed_cons, List.filterMap_cons, List.filterMap_map]
  simp only [Function.comp_def, Nat.add_zero, Nat.add_right_comm tick, Nat.add_assoc tick]
  split <;> simp_all

theorem GateAcc.fillsTo.covered {g a : GateAcc} (h : g.fillsTo a) (listen tick : Nat) (samples : List Byte) :
    a.covered listen tick samples = g.covered listen tick samples := by
  obtain ⟨-, -, -, start, length⟩ := h.kept
  rw [GateAcc.covered, GateAcc.covered, start, length]

/-- A frame gives an accumulator the samples it covers, in order. -/
theorem GateAcc.samples_eq_gather (g : GateAcc) (listen tick : Nat) (samples : List Byte) :
    g.samples listen tick samples = g.gather (g.covered listen tick samples) := by
  induction samples generalizing g tick with
  | nil => rfl
  | cons v vs ih =>
    rw [GateAcc.samples, ih, g.covered_cons]
    by_cases inTime : tick < listen
    · rw [if_pos inTime, (g.sample_fillsTo tick v.toNat).covered]
      by_cases inside : g.covers tick
      · rw [if_pos ⟨inTime, inside⟩]
        rfl
      · rw [if_neg fun h => inside h.2, g.sample_uncovered tick v.toNat inside]
        rfl
    · rw [if_neg inTime, if_neg fun h => inTime h.1]
      rfl

theorem GateAcc.mem_covered (g : GateAcc) (listen tick : Nat) (samples : List Byte) (k : Nat × Nat)
    (h : k ∈ g.covered listen tick samples) : g.covers k.1 ∧ k.2 ≤ 255 := by
  obtain ⟨x, -, hx⟩ := List.mem_filterMap.mp h
  split at hx
  · next inside =>
    cases hx
    exact ⟨inside.2, Nat.le_of_lt_succ x.2.isLt⟩
  · cases hx

theorem GateAcc.covered_of_getElem? (g : GateAcc) (listen tick k : Nat) (samples : List Byte) (v : Byte)
    (h : samples[k]? = some v) (inTime : tick + k < listen) (inside : g.covers (tick + k)) :
    (tick + k, v.toNat) ∈ g.covered listen tick samples :=
  List.mem_filterMap.mpr ⟨(k, v), mem_indexed_of_getElem? samples k v h, if_pos ⟨inTime, inside⟩⟩

/-- What every sample keeps, samples one after another keep. -/
theorem GateAcc.gather_keeps (P : GateAcc → Prop) (seen : List (Nat × Nat))
    (keeps : ∀ a, P a → ∀ k ∈ seen, P (a.sample k.1 k.2)) (g : GateAcc) (h : P g) : P (g.gather seen) :=
  List.foldlRecOn seen _ h keeps

theorem GateAcc.gather_fillsTo (g : GateAcc) (seen : List (Nat × Nat)) : g.fillsTo (g.gather seen) :=
  GateAcc.gather_keeps g.fillsTo seen (fun a h k _ => h.trans (a.sample_fillsTo k.1 k.2)) g g.fillsTo_refl

theorem GateAcc.gather_append (g : GateAcc) (xs ys : List (Nat × Nat)) :
    g.gather (xs ++ ys) = (g.gather xs).gather ys := List.foldl_append

/-! ## A sample of 255 (R65) -/

/-- A FLAW gate whose peak can be no more than 255. -/
def GateAcc.flawWithin (g : GateAcc) : Prop := g.role = .flaw ∧ g.peak ≤ 255

theorem GateAcc.sample_flawWithin (g : GateAcc) (h : g.flawWithin) (tick value : Nat) (hv : value ≤ 255) :
    (g.sample tick value).flawWithin := by
  obtain ⟨hr, hp⟩ := h
  refine ⟨(g.sample_fillsTo tick value).kept.1.trans hr, ?_⟩
  by_cases inside : g.covers tick
  · rw [g.sample_flaw tick value hr inside]
    dsimp only
    split
    · exact hv
    · exact hp
  · rwa [g.sample_uncovered tick value inside]

/-- A FLAW gate has crossed its threshold and has a peak. -/
def GateAcc.crossed (g : GateAcc) : Prop :=
  g.role = .flaw ∧ g.peakTick.isSome = true ∧ g.firstCross.isSome = true

theorem GateAcc.sample_crossed (g : GateAcc) (h : g.crossed) (tick value : Nat) : (g.sample tick value).crossed := by
  obtain ⟨hr, peak, cross⟩ := h
  by_cases inside : g.covers tick
  · rw [g.sample_flaw tick value hr inside]
    refine ⟨hr, ?_, ?_⟩ <;> dsimp only <;> split <;> simp [peak, cross]
  · rw [g.sample_uncovered tick value inside]
    exact ⟨hr, peak, cross⟩

/-- A covered sample of 255 is at the threshold, and no peak outdoes it. -/
theorem GateAcc.sample_255_crossed (g : GateAcc) (h : g.flawWithin) (ht : g.threshold ≤ 255) (tick : Nat)
    (inside : g.covers tick) : (g.sample tick 255).crossed := by
  obtain ⟨hr, hp⟩ := h
  have peaks (unnoted : g.peakTick = none) : g.peaksAt tick 255 := by
    rw [GateAcc.peaksAt, unnoted]
    exact hp.lt_or_eq.imp_right fun h => ⟨h.symm, earlierThan_none tick⟩
  have crosses (unnoted : g.firstCross = none) : g.crossesAt tick 255 := by
    rw [GateAcc.crossesAt, unnoted]
    exact ⟨ht, earlierThan_none tick⟩
  rw [g.sample_flaw tick 255 hr inside]
  refine ⟨hr, ?_, ?_⟩ <;> dsimp only <;> split
  · rfl
  · next h => exact Option.isSome_iff_ne_none.mpr (mt peaks h)
  · rfl
  · next h => exact Option.isSome_iff_ne_none.mpr (mt crosses h)

theorem GateAcc.crossed.detection {g : GateAcc} (h : g.crossed) : g.detection.isSome = true := by
  obtain ⟨-, peak, cross⟩ := h
  obtain ⟨first, hf⟩ := Option.isSome_iff_exists.mp cross
  rw [GateAcc.detection, hf]
  dsimp only
  split
  · rfl
  · exact peak

/-- A 255 anywhere among samples of at most 255 crosses the gate, and what follows leaves it crossed. -/
theorem GateAcc.gather_255_crossed (g : GateAcc) (h : g.flawWithin) (ht : g.threshold ≤ 255) (seen : List (Nat × Nat))
    (within : ∀ k ∈ seen, k.2 ≤ 255) (tick : Nat) (hm : (tick, 255) ∈ seen) (inside : g.covers tick) :
    (g.gather seen).crossed := by
  obtain ⟨before, behind, rfl⟩ := List.append_of_mem hm
  have upTo : (g.gather before).flawWithin :=
    GateAcc.gather_keeps _ before (fun a ha k hk => a.sample_flawWithin ha _ _ (within k (by simp [hk]))) g h
  obtain ⟨-, -, threshold, start, length⟩ := (g.gather_fillsTo before).kept
  have at_ : ((g.gather before).sample tick 255).crossed :=
    GateAcc.sample_255_crossed _ upTo (threshold ▸ ht) tick (by rwa [GateAcc.covers, start, length])
  rw [GateAcc.gather_append]
  exact GateAcc.gather_keeps _ behind (fun a ha k _ => a.sample_crossed ha k.1 k.2) _ at_

/-! ## The effective threshold (R65) -/

theorem effectiveThreshold_eq (threshold : Nat) (offset : Int) :
    (effectiveThreshold threshold offset : Int) = max 1 (min 254 (threshold + offset)) :=
  Int.toNat_of_nonneg (le_trans (by decide) (le_max_left _ _))

/-! ## SENSITIVITY and the shots in flight (R37, R65) -/

theorem State.answer_writesTo (s : State) (q : Request) (state : ReqState) (code : ResultCode) (words : List Byte) :
    s.writesTo (s.answer q state code words) := s.writeEntry_onto s q.index _ rfl

/-- A request's row keeps the shot in flight of a rail when its owner does. -/
theorem State.takeRequest_shot (s : State) (r : Rail) (kind : Request → Bool) (owner : State → Request → State)
    (h : ∀ u q, ((owner u q).rail r).shot = (u.rail r).shot) :
    ((s.takeRequest kind owner).rail r).shot = (s.rail r).shot := by
  unfold State.takeRequest
  split
  · rfl
  · dsimp only
    split
    · split
      · exact h (s.modReq _) _
      · exact h (s.modReq _) _
    · rfl

theorem State.sensitivityRequest_shot (s : State) (q : Request) (r : Rail) :
    ((s.sensitivityRequest q).rail r).shot = (s.rail r).shot := by
  have answered (u : State) (state : ReqState) (code : ResultCode) (words : List Byte) :
      ((u.answer q state code words).rail r).shot = (u.rail r).shot := by
    obtain ⟨-, -, -, rails, -⟩ := State.writesTo_blocks (u.answer_writesTo q state code words)
    rw [State.rail, rails, State.rail]
  unfold State.sensitivityRequest
  dsimp only
  split
  · exact answered s _ _ _
  · split
    · exact answered s _ _ _
    · exact (answered _ _ _ _).trans (State.modEval_shot s _ r _)

/-- Settles O27. -/
theorem effectiveThresholdIsClampedAndLatched : Obligations.EffectiveThresholdIsClampedAndLatched := by
  refine ⟨fun threshold offset => ?_, by decide, by decide, fun s r index d => ⟨rfl, ?_⟩,
    fun g listen tick k samples => ?_, fun s => ⟨_, rfl, fun r => ?_⟩⟩
  · have clamped := effectiveThreshold_eq threshold offset
    exact ⟨clamped, by omega, by omega⟩
  · exact List.map_map
  · rw [g.samples_eq_gather]
    refine ⟨(g.gather_fillsTo _).kept.2.2.1, fun hr ht hp hk lo hi inTime => GateAcc.crossed.detection ?_⟩
    exact g.gather_255_crossed ⟨hr, hp⟩ (by omega) _ (fun k hk => (g.mem_covered _ _ _ k hk).2) (tick + k)
      (g.covered_of_getElem? listen tick k samples 255 hk inTime ⟨lo, hi⟩) ⟨lo, hi⟩
  · exact s.takeRequest_shot r _ _ fun u q => u.sensitivityRequest_shot q r

end Sys2Proof.Machine
end

section
/-! PROOFS. What a gate has gathered of the samples it covers, when it detects, and what a judged shot releases (O28). -/

namespace Sys2Proof.Machine

/-! ## What an accumulator has gathered (R66) -/

/-- A peak and its tick are those of the samples seen: the greatest, at its earliest tick. -/
def peakOf (peak : Nat) (peakTick : Option Nat) (seen : List (Nat × Nat)) : Prop :=
  (peakTick = none → seen = [] ∧ peak = 0) ∧
    ∀ t, peakTick = some t → (t, peak) ∈ seen ∧ ∀ k ∈ seen, k.2 < peak ∨ (k.2 = peak ∧ t ≤ k.1)

/-- A tick is the earliest of the samples seen that reach a threshold. -/
def firstCrossOf (threshold : Nat) (firstCross : Option Nat) (seen : List (Nat × Nat)) : Prop :=
  (firstCross = none → ∀ k ∈ seen, k.2 < threshold) ∧
    ∀ t, firstCross = some t → (∃ v, (t, v) ∈ seen ∧ threshold ≤ v) ∧ ∀ k ∈ seen, threshold ≤ k.2 → t ≤ k.1

/-- What a gate has gathered of the samples seen, as O28 says it. -/
def GateAcc.gathered (g : GateAcc) (seen : List (Nat × Nat)) : Prop :=
  if g.role = .flaw then
    (g.peakTick = none → seen = [] ∧ g.peak = 0) ∧
    (∀ t, g.peakTick = some t → (t, g.peak) ∈ seen ∧ ∀ k ∈ seen, k.2 < g.peak ∨ (k.2 = g.peak ∧ t ≤ k.1)) ∧
    (g.firstCross = none → ∀ k ∈ seen, k.2 < g.threshold) ∧
    ∀ t, g.firstCross = some t → (∃ v, (t, v) ∈ seen ∧ g.threshold ≤ v) ∧ ∀ k ∈ seen, g.threshold ≤ k.2 → t ≤ k.1
  else (g.present = true ↔ ∃ k ∈ seen, g.threshold ≤ k.2)

theorem GateAcc.gathered_flaw (g : GateAcc) (seen : List (Nat × Nat)) (hr : g.role = .flaw) :
    g.gathered seen ↔ peakOf g.peak g.peakTick seen ∧ firstCrossOf g.threshold g.firstCross seen := by
  rw [GateAcc.gathered, if_pos hr]
  exact and_assoc.symm

theorem GateAcc.gathered_present (g : GateAcc) (seen : List (Nat × Nat)) (hr : g.role ≠ .flaw) :
    g.gathered seen ↔ (g.present = true ↔ ∃ k ∈ seen, g.threshold ≤ k.2) := by
  rw [GateAcc.gathered, if_neg hr]

theorem GateAcc.peaksAt_noted (g : GateAcc) (tick value t : Nat) (noted : g.peakTick = some t) :
    g.peaksAt tick value ↔ g.peak < value ∨ (value = g.peak ∧ tick < t) := by
  rw [GateAcc.peaksAt, noted, earlierThan_some]

/-- Where no peak is noted, every sample is one. -/
theorem GateAcc.peaksAt_unnoted (g : GateAcc) (tick value : Nat) (noted : g.peakTick = none) (hp : g.peak = 0) :
    g.peaksAt tick value := by
  rw [GateAcc.peaksAt, noted, hp]
  exact (Nat.eq_zero_or_pos value).elim (fun h => .inr ⟨h, earlierThan_none tick⟩) .inl

theorem GateAcc.peakOf_sample (g : GateAcc) (tick value : Nat) (seen : List (Nat × Nat))
    (h : peakOf g.peak g.peakTick seen) :
    peakOf (if g.peaksAt tick value then value else g.peak) (if g.peaksAt tick value then some tick else g.peakTick)
      (seen ++ [(tick, value)]) := by
  obtain ⟨unnoted, noted⟩ := h
  by_cases peaks : g.peaksAt tick value
  · rw [if_pos peaks, if_pos peaks]
    refine ⟨nofun, ?_⟩
    rintro _ ⟨⟩
    refine ⟨by simp, List.forall_mem_append.mpr ⟨fun k hk => ?_, by simp⟩⟩
    cases tickNoted : g.peakTick with
    | none =>
      rw [(unnoted tickNoted).1] at hk
      cases hk
    | some t =>
      have least := (noted t tickNoted).2 k hk
      rw [g.peaksAt_noted tick value t tickNoted] at peaks
      omega
  · rw [if_neg peaks, if_neg peaks]
    refine ⟨fun ht => absurd (g.peaksAt_unnoted tick value ht (unnoted ht).2) peaks, fun t ht => ?_⟩
    obtain ⟨mem, least⟩ := noted t ht
    rw [g.peaksAt_noted tick value t ht] at peaks
    refine ⟨List.mem_append_left _ mem, List.forall_mem_append.mpr ⟨least, ?_⟩⟩
    simp only [List.forall_mem_singleton]
    omega

theorem GateAcc.firstCrossOf_sample (g : GateAcc) (tick value : Nat) (seen : List (Nat × Nat))
    (h : firstCrossOf g.threshold g.firstCross seen) :
    firstCrossOf g.threshold (if g.crossesAt tick value then some tick else g.firstCross) (seen ++ [(tick, value)]) := by
  obtain ⟨unnoted, noted⟩ := h
  by_cases crosses : g.crossesAt tick value
  · rw [if_pos crosses]
    obtain ⟨reaches, earlier⟩ := crosses
    refine ⟨nofun, ?_⟩
    rintro _ ⟨⟩
    refine ⟨⟨value, by simp, reaches⟩, List.forall_mem_append.mpr ⟨fun k hk hv => ?_, by simp⟩⟩
    cases tickNoted : g.firstCross with
    | none => exact absurd hv (not_le.mpr (unnoted tickNoted k hk))
    | some t =>
      rw [tickNoted, earlierThan_some] at earlier
      exact earlier.le.trans ((noted t tickNoted).2 k hk hv)
  · rw [if_neg crosses]
    refine ⟨fun ht => List.forall_mem_append.mpr ⟨unnoted ht, ?_⟩, fun t ht => ?_⟩
    · rw [GateAcc.crossesAt, ht] at crosses
      simpa [earlierThan_none] using crosses
    · obtain ⟨⟨v, mem, reaches⟩, least⟩ := noted t ht
      rw [GateAcc.crossesAt, ht, earlierThan_some] at crosses
      refine ⟨⟨v, List.mem_append_left _ mem, reaches⟩, List.forall_mem_append.mpr ⟨least, ?_⟩⟩
      simp only [List.forall_mem_singleton]
      omega

theorem GateAcc.gathered_sample (g : GateAcc) (tick value : Nat) (seen : List (Nat × Nat)) (h : g.gathered seen)
    (inside : g.covers tick) : (g.sample tick value).gathered (seen ++ [(tick, value)]) := by
  have role : (g.sample tick value).role = g.role := (g.sample_fillsTo tick value).kept.1
  by_cases hr : g.role = .flaw
  · obtain ⟨peak, cross⟩ := (g.gathered_flaw seen hr).mp h
    refine (GateAcc.gathered_flaw _ _ (role.trans hr)).mpr ?_
    rw [g.sample_flaw tick value hr inside]
    exact ⟨g.peakOf_sample tick value seen peak, g.firstCrossOf_sample tick value seen cross⟩
  · have before := (g.gathered_present seen hr).mp h
    refine (GateAcc.gathered_present _ _ (role ▸ hr)).mpr ?_
    rw [g.sample_present tick value hr inside]
    simp [before, or_and_right, exists_or]

/-- Whatever their order, the samples given are gathered behind those seen before. -/
theorem GateAcc.gathered_gather (g : GateAcc) (seen more : List (Nat × Nat)) (h : g.gathered seen)
    (inside : ∀ k ∈ more, g.covers k.1) : (g.gather more).gathered (seen ++ more) := by
  induction more generalizing g seen with
  | nil => rwa [List.append_nil]
  | cons k more ih =>
    obtain ⟨first, others⟩ := List.forall_mem_cons.mp inside
    obtain ⟨-, -, -, start, length⟩ := (g.sample_fillsTo k.1 k.2).kept
    rw [← List.singleton_append, ← List.append_assoc]
    exact ih (g.sample k.1 k.2) (seen ++ [k]) (g.gathered_sample k.1 k.2 seen h first)
      fun x hx => by rw [GateAcc.covers, start, length]; exact others x hx

/-- A gate as built has gathered nothing. -/
theorem buildGate_gathered (offset : Int) (d : GateDesc) : (buildGate offset d).gathered [] := by
  by_cases hr : (buildGate offset d).role = .flaw
  · exact (GateAcc.gathered_flaw _ _ hr).mpr ⟨⟨fun _ => ⟨rfl, rfl⟩, nofun⟩, ⟨fun _ => nofun, nofun⟩⟩
  · exact (GateAcc.gathered_present _ _ hr).mpr ⟨nofun, nofun⟩

/-! ## Detections (R67) -/

/-- A FLAW gate has crossed its threshold exactly where its peak is at it. -/
theorem GateAcc.gathered_firstCross (g : GateAcc) (seen : List (Nat × Nat)) (h : g.gathered seen) (hr : g.role = .flaw)
    (ht : 1 ≤ g.threshold) : (g.threshold ≤ g.peak → ∃ first t, g.firstCross = some first ∧ g.peakTick = some t) ∧
      (g.peak < g.threshold → g.firstCross = none) := by
  obtain ⟨⟨peakUnnoted, peakNoted⟩, crossUnnoted, crossNoted⟩ := (g.gathered_flaw seen hr).mp h
  refine ⟨fun reaches => ?_, fun below => ?_⟩
  · cases peak : g.peakTick with
    | none => exact absurd (peakUnnoted peak).2 (by omega)
    | some t =>
      cases cross : g.firstCross with
      | none => exact absurd (crossUnnoted cross _ (peakNoted t peak).1) (not_lt.mpr reaches)
      | some first => exact ⟨first, t, rfl, rfl⟩
  · cases cross : g.firstCross with
    | none => rfl
    | some first =>
      obtain ⟨⟨v, mem, reaches⟩, -⟩ := crossNoted first cross
      cases peak : g.peakTick with
      | none =>
        rw [(peakUnnoted peak).1] at mem
        cases mem
      | some t =>
        have most := (peakNoted t peak).2 _ mem
        omega

theorem GateAcc.detection_of_none (g : GateAcc) (h : g.firstCross = none) : g.detection = none := by
  rw [GateAcc.detection, h]

theorem GateAcc.detection_of_some (g : GateAcc) (first : Nat) (h : g.firstCross = some first) :
    g.detection = if g.mode = .first then g.firstCross else g.peakTick := by
  rw [GateAcc.detection, h]

theorem GateAcc.gathered_detection (g : GateAcc) (seen : List (Nat × Nat)) (h : g.gathered seen) (hr : g.role = .flaw)
    (ht : 1 ≤ g.threshold) : (g.threshold ≤ g.peak → g.detection.isSome = true ∧
      g.detection = if g.mode = .first then g.firstCross else g.peakTick) ∧ (g.peak < g.threshold → g.detection = none) := by
  obtain ⟨crossed, uncrossed⟩ := g.gathered_firstCross seen h hr ht
  refine ⟨fun reaches => ?_, fun below => g.detection_of_none (uncrossed below)⟩
  obtain ⟨first, t, cross, peak⟩ := crossed reaches
  exact ⟨GateAcc.crossed.detection ⟨hr, by simp [peak], by simp [cross]⟩, g.detection_of_some first cross⟩

/-! ## Results joined (R69, R76) -/

theorem Results.foldl_append (xs : List Results) (u : Results) : xs.foldl Results.append u =
    ⟨u.items ++ xs.flatMap Results.items, u.wedge + (xs.map Results.wedge).sum, u.beyond + (xs.map Results.beyond).sum⟩ := by
  induction xs generalizing u with
  | nil => simp
  | cons x xs ih => simp [ih, Results.append, Nat.add_assoc]

/-- Results joined: the items in order, and the sums of the counts. -/
theorem Results.join_map {α : Type} (f : α → Results) (xs : List α) : Results.join (xs.map f) =
    ⟨xs.flatMap fun x => (f x).items, (xs.map fun x => (f x).wedge).sum, (xs.map fun x => (f x).beyond).sum⟩ := by
  rw [Results.join, Results.foldl_append]
  simp [List.flatMap_map, Function.comp_def]

/-! ## What a gate gives (R67, R70 to R72) -/

theorem gateResults_coupling (x : Shot) (f : Firing) (g : GateAcc) (h : g.role = .coupling) :
    gateResults x f g = ⟨[], 0, 0⟩ := by rw [gateResults, h]

theorem gateResults_backwall (x : Shot) (f : Firing) (g : GateAcc) (h : g.role = .backwall) :
    gateResults x f g = dropResults x f g := by rw [gateResults, h]

theorem gateResults_flaw (x : Shot) (f : Firing) (g : GateAcc) (h : g.role = .flaw) :
    gateResults x f g = flawResults x f g := by rw [gateResults, h]

/-- A FLAW gate's detection projected. -/
def flawProjection (x : Shot) (f : Firing) (g : GateAcc) : Option Projection := g.detection.map (project x f.desc)

/-- The gate is a FLAW gate with a detection that projects so. -/
def projectsTo (x : Shot) (f : Firing) (p : Projection) (g : GateAcc) : Bool :=
  g.role == .flaw && flawProjection x f g == some p

/-- What a FLAW gate gives for a detection, by what projection makes of it. -/
def projectionResults (f : Firing) (g : GateAcc) : Projection → Results
  | .wedge => ⟨[], 1, 0⟩
  | .beyond => ⟨[], 0, 1⟩
  | .hit at_ d edge =>
    ⟨[.hit { element := f.element, group := f.desc.group, kind := .reflector, x := at_, d := some d,
             amplitude := g.peak, saturated := decide (g.peak = 255), edge := edge }], 0, 0⟩

theorem flawResults_eq (x : Shot) (f : Firing) (g : GateAcc) :
    flawResults x f g = (flawProjection x f g).elim ⟨[], 0, 0⟩ (projectionResults f g) := by
  unfold flawResults flawProjection
  cases g.detection with
  | none => rfl
  | some t =>
    dsimp only [Option.map_some, Option.elim_some]
    cases project x f.desc t <;> rfl

theorem dropResults_counts (x : Shot) (f : Firing) (g : GateAcc) :
    (dropResults x f g).wedge = 0 ∧ (dropResults x f g).beyond = 0 := by
  unfold dropResults
  split <;> exact ⟨rfl, rfl⟩

/-- Only a FLAW gate counts: a detection before the wedge, and one beyond the rail. -/
theorem gateResults_counts (x : Shot) (f : Firing) (g : GateAcc) :
    (gateResults x f g).wedge = (if projectsTo x f .wedge g then 1 else 0) ∧
      (gateResults x f g).beyond = if projectsTo x f .beyond g then 1 else 0 := by
  unfold projectsTo
  cases hr : g.role with
  | coupling =>
    rw [gateResults_coupling x f g hr]
    exact ⟨rfl, rfl⟩
  | backwall =>
    rw [gateResults_backwall x f g hr]
    exact dropResults_counts x f g
  | flaw =>
    rw [gateResults_flaw x f g hr, flawResults_eq]
    rcases flawProjection x f g with _ | (_ | _ | ⟨at_, d, edge⟩) <;> exact ⟨rfl, rfl⟩

/-! ## What a shot gives (R69, R76, R78) -/

theorem firingResults_eq (x : Shot) (f : Firing) : firingResults x f =
    ⟨((f.gates.find? fun g => g.role == .coupling).toList.map fun g => .result f.element g.present x.seq x.pc) ++
        f.gates.flatMap fun g => (gateResults x f g).items,
      (f.gates.map fun g => (gateResults x f g).wedge).sum, (f.gates.map fun g => (gateResults x f g).beyond).sum⟩ := by
  rw [firingResults, Results.join_map, Firing.presence]
  cases f.gates.find? fun g => g.role == .coupling <;> simp [Results.append]

theorem sum_map_ite_eq_length_filter {α : Type} (p : α → Bool) (xs : List α) :
    (xs.map fun x => if p x then 1 else 0).sum = (xs.filter p).length := by
  rw [← List.countP_eq_length_filter]
  induction xs with
  | nil => rfl
  | cons x xs ih => rw [List.map_cons, List.sum_cons, ih, List.countP_cons, Nat.add_comm]

/-- The detections of a shot's whole firings that project so. -/
def projectedCount (x : Shot) (whole : Firing → Bool) (p : Projection) : Nat :=
  ((x.firings.filter whole).flatMap fun f => f.gates.filter (projectsTo x f p)).length

theorem sum_gateCounts (x : Shot) (whole : Firing → Bool) (p : Projection) (count : Firing → GateAcc → Nat)
    (h : ∀ f g, count f g = if projectsTo x f p g then 1 else 0) :
    ((x.firings.filter whole).map fun f => (f.gates.map (count f)).sum).sum = projectedCount x whole p := by
  rw [projectedCount, List.length_flatMap]
  refine congrArg List.sum (List.map_congr_left fun f _ => ?_)
  rw [← sum_map_ite_eq_length_filter]
  exact congrArg List.sum (List.map_congr_left fun g _ => h f g)

theorem shotResults_eq (x : Shot) (whole : Firing → Bool) : shotResults x whole =
    ⟨((x.firings.filter whole).flatMap fun f => (firingResults x f).items) ++ [.released x.seq],
      projectedCount x whole .wedge, projectedCount x whole .beyond⟩ := by
  rw [shotResults, Results.join_map, Results.append,
    ← sum_gateCounts x whole .wedge _ fun f g => (gateResults_counts x f g).1,
    ← sum_gateCounts x whole .beyond _ fun f g => (gateResults_counts x f g).2]
  simp only [firingResults_eq, Nat.add_zero]

/-- Settles O28: the frames are the covered samples given one after another; each part of a shot's results is read off the
results of its gates. -/
theorem gatesGatherAndShotsAreReleased : Obligations.GatesGatherAndShotsAreReleased := by
  unfold Obligations.GatesGatherAndShotsAreReleased
  intro gathered
  refine ⟨buildGate_gathered, fun g listen tick samples seen h => ?_, GateAcc.gathered_detection, fun v x whole => ?_⟩
  · intro covered a
    have gather : a = g.gather covered := g.samples_eq_gather listen tick samples
    have fills : g.fillsTo a := by
      rw [gather]
      exact g.gather_fillsTo covered
    refine ⟨?_, fills⟩
    rw [gather]
    exact g.gathered_gather seen covered h fun k hk => (g.mem_covered listen tick samples k hk).1
  · intro coupling hits judged results count
    have hits_eq (f : Firing) (g : GateAcc) : (gateResults x f g).items = hits f g := by
      simp only [hits]
      cases hr : g.role with
      | coupling => rw [gateResults_coupling x f g hr]
      | flaw =>
        rw [gateResults_flaw x f g hr, flawResults_eq, flawProjection]
        rcases g.detection.map (project x f.desc) with _ | (_ | _ | ⟨at_, d, edge⟩) <;> rfl
      | backwall =>
        rw [gateResults_backwall x f g hr, dropResults, apply_ite Results.items]
        rfl
    have results_eq (f : Firing) : (firingResults x f).items = results f := by
      rw [firingResults_eq]
      simp only [hits_eq]
      rfl
    rw [Evaluator.releaseShot, shotResults_eq]
    simp only [results_eq, ← List.append_assoc]
    rfl

end Sys2Proof.Machine
end

section
/-! PROOFS. What a COUPLING result does to its element (O31). -/

namespace Sys2Proof.Machine

/-! ## A result and the record of its element (R81, R82) -/

theorem ElementRecord.takePresent_idle (x : ElementRecord) (nr : Nat) (h : x.state = .unmonitored ∨ x.state = .lifted) :
    x.takePresent nr = (x, false) := by
  unfold ElementRecord.takePresent
  rcases h with h | h <;> rw [h]

theorem ElementRecord.takePresent_coupled (x : ElementRecord) (nr : Nat)
    (h : x.state = .unknown ∨ x.state = .coupled ∨ x.state = .doubtful) :
    x.takePresent nr = ({ x with state := .coupled, absence := 0 }, false) := by
  unfold ElementRecord.takePresent
  rcases h with h | h | h <;> rw [h]

theorem ElementRecord.takePresent_lost (x : ElementRecord) (nr : Nat) (h : x.state = .lost) : x.takePresent nr =
    if nr ≤ x.presence + 1 then (.fresh .coupled, true) else ({ x with presence := x.presence + 1 }, false) := by
  unfold ElementRecord.takePresent
  rw [h]

theorem ElementRecord.takeAbsent_idle (x : ElementRecord) (nl pc group : Nat)
    (h : x.state = .unmonitored ∨ x.state = .lifted) : x.takeAbsent nl pc group = x := by
  unfold ElementRecord.takeAbsent
  rcases h with h | h <;> rw [h]

theorem ElementRecord.takeAbsent_lost (x : ElementRecord) (nl pc group : Nat) (h : x.state = .lost) :
    x.takeAbsent nl pc group = { x with presence := 0 } := by
  unfold ElementRecord.takeAbsent
  rw [h]

theorem ElementRecord.takeAbsent_coupled (x : ElementRecord) (nl pc group : Nat) (h : x.state = .coupled) :
    x.takeAbsent nl pc group = x.absent 1 nl pc group .doubtful := by
  unfold ElementRecord.takeAbsent
  rw [h]

theorem ElementRecord.takeAbsent_counting (x : ElementRecord) (nl pc group : Nat)
    (h : x.state = .unknown ∨ x.state = .doubtful) :
    x.takeAbsent nl pc group = x.absent (x.absence + 1) nl pc group x.state := by
  unfold ElementRecord.takeAbsent
  rcases h with h | h <;> rw [h]

/-! ## A result and the state (R81 to R83, R85) -/

theorem State.setElement_same (s : State) (r : Rail) (e : Nat) : s.setElement r e (s.coupling.element r e) = s := by
  have same : (s.coupling.elements.get r).set e (s.coupling.element r e) = s.coupling.elements.get r := by
    by_cases h : e < (s.coupling.elements.get r).length
    · rw [CouplingMonitor.element, List.getD_eq_getElem _ _ h, List.set_getElem_self]
    · exact List.set_eq_of_length_le (by omega)
  rw [State.setElement, State.modCoupling, Both.modify, same, Both.set_get]

/-- An element becomes LOST: its record with the absence count it has reached, the loss flag, and the raise. -/
def State.loseElement (s : State) (r : Rail) (e pc group count : Nat) : State :=
  (((s.setElement r e { s.coupling.element r e with
      state := .lost, absence := count, presence := 0, lostAt := some pc, lostGroup := group }).modCoupling
    fun m => { m with lossFlag := true }).raiseReport .couplingMonitor .couplingLoss (.element r e pc))

theorem exec_couplingResult (r : Rail) (e pc : Nat) (present : Bool) (seq : BitVec 8) (rest : List ReleaseItem) (s : State)
    (h : (s.rail r).eval.release = .result e present seq pc :: rest) :
    exec (.couplingResult r) s = .next ((s.putRelease r rest).judgeResult r e present pc) := by
  show execCouplingResult r s = _
  rw [execCouplingResult, h]

/-- The group of an element in the plan in force. -/
def State.groupOf (s : State) (r : Rail) (e : Nat) : Nat := (Plan.element s.plan r e).group

/-- The loss count of an element's group. -/
def State.lossCountOf (s : State) (r : Rail) (e : Nat) : Nat := Plan.lossCount s.plan r (s.groupOf r e)

/-- The restore count of an element's group. -/
def State.restoreCountOf (s : State) (r : Rail) (e : Nat) : Nat := Plan.restoreCount s.plan r (s.groupOf r e)

section
variable (s : State) (r : Rail) (e pc : Nat)

/-- What a present result comes to, by the restore of its element. -/
theorem State.judgeResult_true (hf : s.inForce = true) : s.judgeResult r e true pc =
    if ((s.coupling.element r e).takePresent (s.restoreCountOf r e)).2 then
      ((s.recordLoss r e .restored (some pc)).setElement r e
        ((s.coupling.element r e).takePresent (s.restoreCountOf r e)).1).reportLossEnd
    else s.setElement r e ((s.coupling.element r e).takePresent (s.restoreCountOf r e)).1 :=
  if_neg (by simp [hf])

/-- What an absent result comes to, by the loss of its element. -/
theorem State.judgeResult_false (hf : s.inForce = true) (y : ElementRecord)
    (hy : (s.coupling.element r e).takeAbsent (s.lossCountOf r e) pc (s.groupOf r e) = y) : s.judgeResult r e false pc =
    if y.state = .lost ∧ (s.coupling.element r e).state ≠ .lost then
      ((s.setElement r e y).modCoupling fun m => { m with lossFlag := true }).raiseReport .couplingMonitor .couplingLoss
        (.element r e pc)
    else s.setElement r e y := by
  rw [← hy]
  exact if_neg (by simp [hf])

/-- A present result that restores no element sets its record alone. -/
theorem State.judgeResult_present (y : ElementRecord) (hf : s.inForce = true)
    (hy : (s.coupling.element r e).takePresent (s.restoreCountOf r e) = (y, false)) :
    s.judgeResult r e true pc = s.setElement r e y := by
  rw [s.judgeResult_true r e pc hf, hy]
  rfl

/-- A present result that completes the restore count gives the record of the loss. -/
theorem State.judgeResult_restored (hf : s.inForce = true) (hl : (s.coupling.element r e).state = .lost)
    (hn : s.restoreCountOf r e ≤ (s.coupling.element r e).presence + 1) :
    s.judgeResult r e true pc = ((s.offer .couplingMonitor (.coupling (s.couplingRecord r e .restored (some pc)))).setElement
      r e (.fresh .coupled)).reportLossEnd := by
  rw [s.judgeResult_true r e pc hf, ElementRecord.takePresent_lost _ _ hl, if_pos hn, State.recordLoss, if_pos hl]
  rfl

/-- An absent result that newly loses no element sets its record alone. -/
theorem State.judgeResult_absent (y : ElementRecord) (hf : s.inForce = true)
    (hy : (s.coupling.element r e).takeAbsent (s.lossCountOf r e) pc (s.groupOf r e) = y)
    (hl : y.state = .lost → (s.coupling.element r e).state = .lost) :
    s.judgeResult r e false pc = s.setElement r e y :=
  (s.judgeResult_false r e pc hf y hy).trans (if_neg fun k => k.2 (hl k.1))

/-- An absent result that counts: below the loss count the element goes to the state given, and at it the element is
LOST. -/
theorem State.judgeResult_counted (count : Nat) (below : CouplingState) (hf : s.inForce = true)
    (hy : (s.coupling.element r e).takeAbsent (s.lossCountOf r e) pc (s.groupOf r e) =
      (s.coupling.element r e).absent count (s.lossCountOf r e) pc (s.groupOf r e) below)
    (hx : (s.coupling.element r e).state ≠ .lost) (hb : below ≠ .lost) :
    (count < s.lossCountOf r e → s.judgeResult r e false pc =
      s.setElement r e { s.coupling.element r e with state := below, absence := count }) ∧
    (s.lossCountOf r e ≤ count → s.judgeResult r e false pc = s.loseElement r e pc (s.groupOf r e) count) := by
  refine ⟨fun hn => ?_, fun hn => ?_⟩
  · exact s.judgeResult_absent r e pc _ hf (hy.trans (if_neg (by omega))) fun h => absurd h hb
  · exact (s.judgeResult_false r e pc hf _ (hy.trans (if_pos hn))).trans (if_pos ⟨rfl, hx⟩)

/-- With no plan in force, and for an element that is UNMONITORED or LIFTED, a result changes nothing. -/
theorem State.judgeResult_idle (present : Bool) (h : s.inForce = false ∨ (s.coupling.element r e).state = .unmonitored ∨
    (s.coupling.element r e).state = .lifted) : s.judgeResult r e present pc = s := by
  by_cases hf : s.inForce = true
  · have idle := h.resolve_left (by simp [hf])
    have kept := s.setElement_same r e
    cases present with
    | true => rw [s.judgeResult_present r e pc _ hf (ElementRecord.takePresent_idle _ _ idle), kept]
    | false =>
      rw [s.judgeResult_absent r e pc _ hf (ElementRecord.takeAbsent_idle _ _ _ _ idle) id, kept]
  · exact if_pos (by simpa using hf)

end

/-- Settles O31, by the state of the element and whether the result is present. -/
theorem couplingResultDecidesItsElement : Obligations.CouplingResultDecidesItsElement := by
  intro r e pc present seq rest s h x group nl nr u does lose
  have row (w : State) (hw : u.judgeResult r e present pc = w) : does w :=
    (exec_couplingResult r e pc present seq rest s h).trans (congrArg _ hw)
  refine ⟨fun idle => row _ (u.judgeResult_idle r e pc present idle), ?_, ?_⟩
  · rintro hf rfl
    refine ⟨fun hx => ?_, fun hx hn => ?_, fun hx hn => ?_⟩
    · exact row _ (u.judgeResult_present r e pc _ hf (x.takePresent_coupled nr hx))
    · exact row _ (u.judgeResult_present r e pc _ hf ((x.takePresent_lost nr hx).trans (if_neg (by omega))))
    · exact row _ (u.judgeResult_restored r e pc hf hx hn)
  · rintro hf rfl
    have counting (hx : x.state = .unknown ∨ x.state = .doubtful) :=
      have notLost : x.state ≠ .lost := by rcases hx with hx | hx <;> simp [hx]
      u.judgeResult_counted r e pc (x.absence + 1) x.state hf (x.takeAbsent_counting nl pc group hx) notLost notLost
    have first (hx : x.state = .coupled) :=
      u.judgeResult_counted r e pc 1 .doubtful hf (x.takeAbsent_coupled nl pc group hx) (hx ▸ nofun) nofun
    exact ⟨fun hx hn => row _ ((counting hx).1 hn), fun hx hn => row _ ((counting hx).2 hn),
      fun hx hn => row _ ((first hx).1 hn), fun hx hn => row _ ((first hx).2 hn),
      fun hx => row _ (u.judgeResult_absent r e pc _ hf (x.takeAbsent_lost nl pc group hx) fun _ => hx)⟩

end Sys2Proof.Machine
end

section
/-! PROOFS. Lift and release notices, for the Coupling Monitor (O33). -/

namespace Sys2Proof.Machine

/-! ## A lift (R85 to R87) -/

/-- The loss flag is held on while some element is LOST; its end is reported when none is. -/
theorem State.reportLossEnd_eq_anyLost (s : State) : s.reportLossEnd = { s with
    coupling := { s.coupling with lossFlag := s.coupling.lossFlag && s.coupling.anyLost }
    alarm := { s.alarm with reports := s.alarm.reports ++
      if s.coupling.lossFlag && !s.coupling.anyLost then
        [(Raiser.couplingMonitor, Report.condEnd .couplingLoss none)] else [] } } := by
  cases h : s.coupling.anyLost with
  | false =>
    rw [s.reportLossEnd_eq h, Bool.and_false, Bool.not_false, Bool.and_true]
  | true =>
    rw [State.reportLossEnd, if_neg (by simp [h])]
    simp

theorem freshElements_const (c : CouplingState) : freshElements (fun _ => c) = List.replicate 12 (.fresh c) := rfl

theorem State.liftRail_eq (s : State) (r : Rail) (h : (s.coupling.elements.get r).length = 12) :
    s.liftRail r = (s.setElements r (List.replicate 12 (.fresh .lifted)) (s.lossRecords r .lifted)).reportLossEnd := by
  rw [State.liftRail, s.resetElements_eq r .lifted _ h, freshElements_const]

theorem exec_couplingLiftNotice (r : Rail) (s : State) (rest : List CarriageNotice)
    (h : s.coupling.carriage.get r = .lift :: rest) : exec (.couplingLiftNotice r) s =
      .next ((s.modCoupling fun m => { m with carriage := m.carriage.set r rest }).liftRail r) := by
  show execCouplingLiftNotice r s = _
  rw [execCouplingLiftNotice, h]

/-! ## A release (R87) -/

/-- The record of an element after a release of its rail. -/
def State.releasedElement (s : State) (r : Rail) (e : Nat) : ElementRecord :=
  if (s.coupling.element r e).state = .lifted then .fresh (s.freshState r e) else s.coupling.element r e

/-- A release taken by one element. -/
def State.releaseElement (s : State) (r : Rail) (e : Nat) : State :=
  if (s.coupling.element r e).state = .lifted then s.setElement r e (.fresh (s.freshState r e)) else s

theorem State.releaseRail_eq_foldl (s : State) (r : Rail) :
    s.releaseRail r = (List.range 12).foldl (fun s e => s.releaseElement r e) s := rfl

/-- An element that is not LIFTED is set to the record it has. -/
theorem State.releaseElement_eq (s : State) (r : Rail) (e : Nat) :
    s.releaseElement r e = s.setElement r e (s.releasedElement r e) := by
  unfold State.releaseElement State.releasedElement
  split
  · rfl
  · exact (s.setElement_same r e).symm

/-- One element more released. -/
theorem State.setElements_releaseElement (s : State) (r : Rail) (xs : List ElementRecord) (e : Nat)
    (h : xs[e]? = (s.coupling.elements.get r)[e]?) :
    (s.setElements r xs []).releaseElement r e = s.setElements r (xs.set e (s.releasedElement r e)) [] := by
  have released : (s.setElements r xs []).releasedElement r e = s.releasedElement r e := by
    rw [State.releasedElement, s.setElements_element r xs [] e h]
    rfl
  rw [State.releaseElement_eq, released]
  cases r <;> rfl

/-- The first elements of a rail released. -/
theorem State.releaseElements_first (s : State) (r : Rail) (n : Nat) (hn : n ≤ (s.coupling.elements.get r).length) :
    (List.range n).foldl (fun s e => s.releaseElement r e) s =
      s.setElements r ((List.range n).map (s.releasedElement r) ++ (s.coupling.elements.get r).drop n) [] := by
  induction n with
  | zero => cases r <;> simp [State.setElements, Both.set, Both.get]
  | succ n ih =>
    have next : (s.coupling.elements.get r).drop n =
        (s.coupling.elements.get r)[n] :: (s.coupling.elements.get r).drop (n + 1) := List.drop_eq_getElem_cons hn
    have untouched : ((List.range n).map (s.releasedElement r) ++ (s.coupling.elements.get r).drop n)[n]? =
        (s.coupling.elements.get r)[n]? := by
      rw [List.getElem?_append_right (by simp), next]
      simp
    rw [List.range_succ, List.foldl_append, ih (by omega), List.foldl_cons, List.foldl_nil,
      s.setElements_releaseElement r _ n untouched, next, List.set_append_right _ _ (by simp), List.length_map,
      List.length_range, Nat.sub_self, List.map_append, List.append_assoc]
    rfl

theorem State.releaseRail_eq (s : State) (r : Rail) (h : (s.coupling.elements.get r).length = 12) :
    s.releaseRail r = s.setElements r ((List.range 12).map (s.releasedElement r)) [] := by
  rw [s.releaseRail_eq_foldl, s.releaseElements_first r 12 (by omega), List.drop_eq_nil_of_le (by omega), List.append_nil]

theorem exec_couplingReleaseNotice (r : Rail) (s : State) (rest : List CarriageNotice)
    (h : s.coupling.carriage.get r = .release :: rest) : exec (.couplingReleaseNotice r) s =
      .next ((s.modCoupling fun m => { m with carriage := m.carriage.set r rest }).releaseRail r) := by
  show execCouplingReleaseNotice r s = _
  rw [execCouplingReleaseNotice, h]

/-- Settles O33: a lift sets the whole rail afresh and judges the loss condition by what is left; a release goes element by
element. -/
theorem carriageNoticesSetTheElements : Obligations.CarriageNoticesSetTheElements := by
  intro r rest s hlen
  let u := s.modCoupling fun m => { m with carriage := m.carriage.set r rest }
  refine ⟨fun h => ?_, fun h => ?_⟩
  · refine ⟨_, exec_couplingLiftNotice r s rest h, ?_⟩
    rw [State.liftRail_eq u r hlen, State.reportLossEnd_eq_anyLost]
    exact ⟨rfl, rfl⟩
  · intro released
    rw [exec_couplingReleaseNotice r s rest h, State.releaseRail_eq u r hlen, State.setElements, List.append_nil]
    rfl

end Sys2Proof.Machine
end

section
/-! PROOFS. Tracks closed one after another in index order come to one update of the correlator and one offer: closing
by gap and interruptions (O36), and the forced closes (O37). -/

namespace Sys2Proof.Machine

/-! ## Updates of a correlator -/

theorem State.modTrk_modTrk (s : State) (r : Rail) (f g : Tracker → Tracker) :
    (s.modTrk r f).modTrk r g = s.modTrk r fun k => g (f k) := s.modRail_modRail r _ _

theorem State.modTrk_congr (s : State) (r : Rail) (f g : Tracker → Tracker) (h : f (s.rail r).trk = g (s.rail r).trk) :
    s.modTrk r f = s.modTrk r g := by
  have h' : f (s.rails.get r).trk = g (s.rails.get r).trk := h
  simp only [State.modTrk, State.modRail, Both.modify, h']

theorem State.modTrk_offered (s : State) (r : Rail) (f : Tracker → Tracker) (who : Producer) (xs : List Rec) :
    (s.offered who xs).modTrk r f = (s.modTrk r f).offered who xs := rfl

/-! ## The open tracks of the first entries -/

theorem indexed_concat {α : Type} (xs : List α) (x : α) : indexed (xs ++ [x]) = indexed xs ++ [(xs.length, x)] := by
  rw [indexed, indexed, List.length_append, List.length_singleton, List.range_succ, List.zip_append (by simp)]
  rfl

/-- The open tracks among the first `n` entries of a table, each with its index. -/
def openBelow (table : List (Option Track)) (n : Nat) : List (Nat × Track) :=
  (indexed (table.take n)).filterMap fun e => e.2.map fun x => (e.1, x)

theorem Tracker.opened_eq (k : Tracker) (h : k.table.length = 48) : k.opened = openBelow k.table 48 := by
  rw [openBelow, List.take_of_length_le h.le]
  rfl

theorem openBelow_succ (table : List (Option Track)) (n : Nat) (e : Option Track) (h : table[n]? = some e) :
    openBelow table (n + 1) = openBelow table n ++ (e.map fun x => (n, x)).toList := by
  obtain ⟨hn, -⟩ := List.getElem?_eq_some_iff.mp h
  rw [openBelow, openBelow, List.take_add_one, h, Option.toList_some, indexed_concat, List.filterMap_append,
    List.length_take, min_eq_left hn.le]
  cases e <;> rfl

/-! ## The entries freed among the first -/

/-- A table whose first `n` entries have lost the tracks that `pick` selects. -/
def freedBelow (pick : Track → Bool) (table : List (Option Track)) (n : Nat) : List (Option Track) :=
  ((table.take n).map fun e => e.filter fun x => !pick x) ++ table.drop n

section
variable (pick : Track → Bool) (table : List (Option Track)) (n : Nat) (e : Option Track) (h : table[n]? = some e)
include h

theorem freedBelow_next : (freedBelow pick table n)[n]? = some e := by
  obtain ⟨hn, -⟩ := List.getElem?_eq_some_iff.mp h
  have len : ((table.take n).map fun e => e.filter fun x => !pick x).length = n := by
    rw [List.length_map, List.length_take, min_eq_left hn.le]
  rw [freedBelow, List.getElem?_append_right len.le, len, Nat.sub_self, List.getElem?_drop]
  exact h

theorem freedBelow_succ :
    freedBelow pick table (n + 1) = (freedBelow pick table n).set n (e.filter fun x => !pick x) := by
  obtain ⟨hn, rfl⟩ := List.getElem?_eq_some_iff.mp h
  have len : ((table.take n).map fun e => e.filter fun x => !pick x).length = n := by
    rw [List.length_map, List.length_take, min_eq_left hn.le]
  rw [freedBelow, freedBelow, List.set_append_right _ _ len.le, len, Nat.sub_self, List.drop_eq_getElem_cons hn,
    List.set_cons_zero, List.take_add_one, h, Option.toList_some, List.map_append, List.append_assoc]
  rfl

/-- An entry that keeps its track, or has none, changes nothing. -/
theorem freedBelow_succ_kept (hk : (e.filter fun x => !pick x) = e) :
    freedBelow pick table (n + 1) = freedBelow pick table n := by
  rw [freedBelow_succ pick table n e h, hk]
  obtain ⟨hn, he⟩ := List.getElem?_eq_some_iff.mp (freedBelow_next pick table n e h)
  rw [← he, List.set_getElem_self]

end

/-! ## Closing (R101, R103, R109) -/

/-- The tracks `out` taken out of the table and handed on: each goes on the ordered path when `sends` says so and into
a DROPPED_TRACK record when not. -/
def State.handedOn (s : State) (r : Rail) (sends : Track → Bool) (reason : DropReason) (cause : Option DropCause)
    (table : List (Option Track)) (out : List (Nat × Track)) : State :=
  (s.modTrk r fun k => { k with table := table,
                                path := k.path ++ (out.filter fun e => sends e.2).map fun e => .summary e.2 }).offered
    (.tracker r) ((out.filter fun e => !sends e.2).map fun e => .dropped
      { rail := r, index := e.1, reason := reason, cause := cause, track := e.2, tClose := s.pos.t })

/-- One track taken out of the table and handed on. -/
def State.handOn (s : State) (r : Rail) (sends : Track → Bool) (reason : DropReason) (cause : Option DropCause)
    (i : Nat) (x : Track) : State :=
  if sends x then (s.putTrack r i none).sendPath r (.summary x) else (s.putTrack r i none).dropTrack r i x reason cause

theorem Track.flag_zero (k : Track) : k.flag 0 = k := by
  show { k with flags := k.flags ||| 0#8 } = k
  rw [BitVec.or_zero]

theorem State.closeTrack_eq_handOn (s : State) (r : Rail) (i : Nat) (x : Track) (reason : DropReason)
    (cause : Option DropCause) :
    s.closeTrack r i x reason cause = s.handOn r (fun k => k.state == .confirmed) reason cause i x := by
  unfold State.closeTrack State.handOn
  cases h : x.state <;> simp [h]

theorem State.tracksClosed_eq_handedOn (s : State) (r : Rail) (pick sends : Track → Bool) (flag : BitVec 8)
    (reason : DropReason) (cause : Option DropCause) (h : (s.rail r).trk.table.length = 48) :
    s.tracksClosed r pick sends flag reason cause = s.handedOn r sends reason cause
      (freedBelow pick (s.rail r).trk.table 48)
      (((openBelow (s.rail r).trk.table 48).filter fun e => pick e.2).map fun e => (e.1, e.2.flag flag)) := by
  have table : freedBelow pick (s.rail r).trk.table 48 =
      (s.rail r).trk.table.map fun e => e.filter fun x => !pick x := by
    rw [freedBelow, List.take_of_length_le h.le, List.drop_of_length_le h.le, List.append_nil]
  rw [State.tracksClosed, State.handedOn, ← Tracker.opened_eq _ h, table]
  exact congrArg (State.offered · (.tracker r) _) (s.modTrk_congr r _ _ rfl)

section
variable (s : State) (r : Rail) (sends : Track → Bool) (reason : DropReason) (cause : Option DropCause)

@[simp] theorem State.handedOn_trk (table : List (Option Track)) (out : List (Nat × Track)) :
    ((s.handedOn r sends reason cause table out).rail r).trk.table = table := by
  cases r <;> rfl

theorem State.handedOn_none : s.handedOn r sends reason cause (s.rail r).trk.table [] = s := by
  rw [State.handedOn]
  refine (State.offered_nil _ _).trans (s.modRail_same r _ ?_)
  simp

/-- Tracks handed on one after another are handed on together. -/
theorem State.handedOn_handOn (table : List (Option Track)) (out : List (Nat × Track)) (i : Nat) (x : Track) :
    (s.handedOn r sends reason cause table out).handOn r sends reason cause i x =
      s.handedOn r sends reason cause (table.set i none) (out ++ [(i, x)]) := by
  cases h : sends x
  · simp only [State.handOn, State.handedOn, h, Bool.false_eq_true, if_false, State.dropTrack, State.putTrack,
      State.offer_eq_offered, State.modTrk_offered, State.modTrk_modTrk, State.offered_offered, List.filter_append,
      List.filter_cons, List.filter_nil, Bool.not_false, if_true, List.map_append, List.append_nil]
    rfl
  · simp only [State.handOn, State.handedOn, h, if_true, State.sendPath, State.putTrack, State.modTrk_offered,
      State.modTrk_modTrk, List.filter_append, List.filter_cons, List.filter_nil, Bool.not_true, Bool.false_eq_true,
      if_false, List.map_append, List.append_nil, List.append_assoc]
    rfl

/-- What is done with the open track of one entry, if it has one. -/
def State.atTrack (r : Rail) (f : State → Nat → Track → State) (s : State) (i : Nat) : State :=
  ((s.rail r).trk.entry i).elim s (f s i)

theorem State.eachTrack_eq_foldl (f : State → Nat → Track → State) :
    s.eachTrack r f = (List.range 48).foldl (State.atTrack r f) s := by
  unfold State.eachTrack
  congr 1
  funext s i
  unfold State.atTrack
  cases (s.rail r).trk.entry i <;> rfl

/-- Each open track that `pick` selects, flagged and handed on in index order: what `tracksClosed` says at once. -/
theorem State.eachTrack_handOn (pick : Track → Bool) (flag : BitVec 8) (f : State → Nat → Track → State)
    (hlen : (s.rail r).trk.table.length = 48)
    (hf : ∀ table out i k, f (s.handedOn r sends reason cause table out) i k = if pick k
      then (s.handedOn r sends reason cause table out).handOn r sends reason cause i (k.flag flag)
      else s.handedOn r sends reason cause table out) :
    s.eachTrack r f = s.tracksClosed r pick sends flag reason cause := by
  let before := (s.rail r).trk.table
  let out (n : Nat) := ((openBelow before n).filter fun e => pick e.2).map fun e => (e.1, e.2.flag flag)
  have first (n : Nat) (hn : n ≤ 48) : (List.range n).foldl (State.atTrack r f) s =
      s.handedOn r sends reason cause (freedBelow pick before n) (out n) := by
    induction n with
    | zero => exact (s.handedOn_none r sends reason cause).symm
    | succ n ih =>
      have next : before[n]? = some before[n] := List.getElem?_eq_getElem (hlen.symm ▸ hn)
      have opened := openBelow_succ before n _ next
      rw [List.range_succ, List.foldl_append, ih (by omega), List.foldl_cons, List.foldl_nil, State.atTrack,
        Tracker.entry, State.handedOn_trk, freedBelow_next pick before n _ next]
      cases he : before[n] with
      | none =>
        rw [he] at next opened
        rw [freedBelow_succ_kept pick before n none next rfl]
        simp only [out, opened, Option.map_none, Option.toList_none, List.append_nil]
        rfl
      | some k =>
        rw [he] at next opened
        refine (hf _ _ n k).trans ?_
        cases hp : pick k
        · rw [freedBelow_succ_kept pick before n (some k) next (by simp [hp])]
          simp [out, opened, hp]
        · rw [if_pos rfl, State.handedOn_handOn, freedBelow_succ pick before n (some k) next]
          simp [out, opened, hp, Option.filter]
  rw [s.tracksClosed_eq_handedOn r pick sends flag reason cause hlen, State.eachTrack_eq_foldl]
  exact first 48 le_rfl

end

/-! ## Closing by gap, forced closes and discards (R100, R103, R109) -/

section
variable (s : State) (r : Rail) (h : (s.rail r).trk.table.length = 48)
include h

theorem State.gapClose_eq (t : Nat) : s.gapClose r t = s.tracksClosed r
    (fun k => decide (k.tLast + Plan.gap s.plan r k.group < t)) (fun k => k.state == .confirmed) 0 .unconfirmed none := by
  refine s.eachTrack_handOn r _ _ _ _ 0 _ h fun table out i k => ?_
  rw [State.closeTrack_eq_handOn, Track.flag_zero]
  simp only [decide_eq_true_iff]
  rfl

theorem State.closeAll_eq (flag : BitVec 8) (reason : DropReason) (cause : DropCause) : s.closeAll r flag reason cause =
    s.tracksClosed r (fun _ => true) (fun k => k.state == .confirmed) flag reason (some cause) :=
  s.eachTrack_handOn r _ _ _ _ flag _ h fun _ _ i k => State.closeTrack_eq_handOn _ r i (k.flag flag) reason (some cause)

theorem State.discardTracks_eq : s.discardTracks r =
    s.tracksClosed r (fun _ => true) (fun _ => false) 0 .planEnded (some .planEnded) := by
  refine s.eachTrack_handOn r _ _ _ _ 0 _ h fun table out i k => ?_
  rw [Track.flag_zero]
  rfl

/-- With a plan in force a forced close empties the table, its marker behind it. -/
theorem State.forcedClose_eq (hf : s.inForce = true) (flag : BitVec 8) (reason : DropReason) (cause : DropCause)
    (marker : Option FlushCause) : s.forcedClose r flag reason cause marker =
      (s.tracksClosed r (fun _ => true) (fun k => k.state == .confirmed) flag reason (some cause)).modTrk r fun k =>
        { k with path := k.path ++ marker.toList.map fun m => .marker { cause := m, tag := 0 } } := by
  have inForce : ¬ s.inForce = false := by simp [hf]
  unfold State.forcedClose
  rw [if_neg inForce, s.closeAll_eq r h]
  cases marker with
  | none => exact (State.modRail_same _ r _ (by simp)).symm
  | some c => rfl

end

theorem State.forcedClose_idle (s : State) (r : Rail) (hf : s.inForce = false) (flag : BitVec 8) (reason : DropReason)
    (cause : DropCause) (marker : Option FlushCause) : s.forcedClose r flag reason cause marker = s := if_pos hf

/-! ## Interruptions (R102) -/

theorem State.interrupt_after (s : State) (r : Rail) (f : Tracker → Tracker) : (s.modTrk r f).interrupt r =
    s.modTrk r fun k =>
      { f k with table := (f k).table.map fun e => e.map fun x => { x with flags := x.flags ||| 0x02 } } :=
  s.modTrk_modTrk r _ _

/-- Settles O36: a progress event closes track by track, and what it closes does not move the gap of the plan. -/
theorem tracksCloseByGapAndAreInterrupted : Obligations.TracksCloseByGapAndAreInterrupted := by
  intro r s hlen interrupted
  refine ⟨fun t p rest hn hf => ?_, fun n hn => ?_, fun n hn => ?_⟩
  · have closed := (s.putTrackNotices r rest).gapClose_eq r (by rwa [State.putTrackNotices, State.modTrk_trk_same]) t
    show execTrackGapClose r s = _
    rw [execTrackGapClose, hn]
    exact congrArg Host.Outcome.next ((if_pos hf).trans closed)
  · show execTrackLiftNotice r s = _
    rw [execTrackLiftNotice, if_neg (by simp [hn]), State.interrupt_after]
    exact congrArg Host.Outcome.next (s.modTrk_congr r _ _ (by rw [hn]; rfl))
  · show execTrackInterruptNotice r s = _
    rw [execTrackInterruptNotice, if_neg (by simp [hn]), State.interrupt_after]
    exact congrArg Host.Outcome.next (s.modTrk_congr r _ _ (by rw [hn]; rfl))

/-! ## The counts of a FLUSH order (R110) -/

theorem map_snd_indexed {α : Type} (xs : List α) : (indexed xs).map Prod.snd = xs :=
  List.map_snd_zip (by simp)

theorem Tracker.countOf_eq (k : Tracker) (st : TrackState) :
    k.countOf st = (k.opened.filter fun e => e.2.state == st).length := by
  have entries : k.countOf st = (indexed k.table).countP ((fun e => e.map Track.state == some st) ∘ Prod.snd) := by
    rw [← List.countP_map, map_snd_indexed, List.countP_eq_length_filter, Tracker.countOf]
  rw [entries, Tracker.opened, ← List.countP_eq_length_filter, List.countP_filterMap]
  refine List.countP_congr fun e _ => ?_
  cases h : e.2 <;> simp [h]

/-! ## The orders and notices that close (R103 to R110) -/

section
variable (s : State) (r : Rail) (f : Tracker → Tracker) (ht : ∀ k, (f k).table = k.table)
  (hlen : (s.rail r).trk.table.length = 48)
include ht hlen

theorem State.modTrk_table_length : ((s.modTrk r f).rail r).trk.table.length = 48 := by
  rw [State.modTrk_trk_same, ht, hlen]

/-- A row that takes its item with `f` and then makes a forced close. -/
theorem exec_forced (c : Instr) (flag : BitVec 8) (reason : DropReason) (cause : DropCause) (marker : Option FlushCause)
    (hc : exec c s = .next ((s.modTrk r f).forcedClose r flag reason cause marker)) :
    (s.inForce = false → exec c s = .next (s.modTrk r f)) ∧
    (s.inForce = true → exec c s = .next (((s.modTrk r f).tracksClosed r (fun _ => true) (fun k => k.state == .confirmed)
      flag reason (some cause)).modTrk r fun k =>
        { k with path := k.path ++ marker.toList.map fun m => .marker { cause := m, tag := 0 } })) := by
  refine ⟨fun hf => ?_, fun hf => ?_⟩
  · rw [hc, State.forcedClose_idle _ r (by exact hf)]
  · rw [hc, State.forcedClose_eq _ r (s.modTrk_table_length r f ht hlen) (by exact hf)]

theorem State.flushClose_eq (tag : Nat) :
    (s.modTrk r f).flushClose r tag =
      ((if s.inForce then (s.modTrk r f).tracksClosed r (fun _ => true) (fun k => k.state == .confirmed) flagFlushed
          .flushed (some .flush) else s.modTrk r f).modTrk r fun k =>
        { k with path := k.path ++ [.marker { cause := .flush, tag := tag }] }).modReq fun q =>
          { q with flush := q.flush.map fun x => if x.tag = tag then { x with counts := x.counts.set r (if s.inForce
            then ((s.rail r).trk.countOf .confirmed, (s.rail r).trk.countOf .tentative) else (0, 0)) } else x } := by
  have inForce : (s.modTrk r f).inForce = s.inForce := rfl
  have unasked (g : RequestHandler → RequestHandler) : ((s.modTrk r f).modReq g).inForce = s.inForce := rfl
  have closed (g : RequestHandler → RequestHandler) := ((s.modTrk r f).modReq g).closeAll_eq r
    (s.modTrk_table_length r f ht hlen) flagFlushed .flushed .flush
  have counts (st : TrackState) : (f (s.rail r).trk).countOf st = (s.rail r).trk.countOf st := by
    rw [Tracker.countOf, ht, Tracker.countOf]
  simp only [State.flushClose, State.modTrk_trk_same, inForce, unasked, counts, closed]
  cases s.inForce <;> rfl

end

/-- Settles O37: each order and notice is its forced close on the state that has taken it. -/
theorem forcedClosesEmptyTheTable : Obligations.ForcedClosesEmptyTheTable := by
  intro r s hlen close forced
  refine ⟨fun p q d rest hn => ?_, fun d p t rest hn => ?_, fun n hn => ?_, fun rest ho hh => ?_, fun rest ho hh => ?_,
    fun hh => ?_, fun tag rest ho => ?_, fun rest ho => ?_⟩
  · refine exec_forced s r _ (by exact fun _ => rfl) hlen _ _ _ _ none ?_
    show execTrackPresetCut r s = _
    rw [execTrackPresetCut, hn]
    rfl
  · refine exec_forced s r _ (by exact fun _ => rfl) hlen _ _ _ _ (some .reversal) ?_
    show execTrackReversalClose r s = _
    rw [execTrackReversalClose, hn]
    rfl
  · refine exec_forced s r _ (by exact fun _ => rfl) hlen _ _ _ _ (some .tachFault) ?_
    show execTrackTachFaultClose r s = _
    rw [execTrackTachFaultClose, if_neg (by simp [hn]), State.tachClose]
    refine congrArg (fun u : State => Host.Outcome.next (u.forcedClose r _ _ _ _)) (s.modTrk_congr r _ _ ?_)
    rw [hn]
    rfl
  · refine exec_forced s r _ (by exact fun _ => rfl) hlen _ _ _ _ (some .switch) ?_
    show execCutOrder r s = _
    rw [execCutOrder, ho]
    exact congrArg Host.Outcome.next (if_pos hh)
  · refine exec_forced s r _ (by exact fun _ => rfl) hlen _ _ _ _ (some .stop) ?_
    show execStopOrder r s = _
    rw [execStopOrder, ho]
    exact congrArg Host.Outcome.next (if_pos hh)
  · refine ⟨?_, ?_⟩
    · show execCutOrder r s = _
      unfold execCutOrder
      split
      · exact congrArg Host.Outcome.next (if_neg hh)
      · rfl
    · show execStopOrder r s = _
      unfold execStopOrder
      split
      · exact congrArg Host.Outcome.next (if_neg hh)
      · rfl
  · intro count u
    show execFlushOrder r s = _
    rw [execFlushOrder, ho]
    refine congrArg Host.Outcome.next ((s.flushClose_eq r _ (by exact fun _ => rfl) hlen tag).trans ?_)
    rw [Tracker.countOf_eq, Tracker.countOf_eq]
  · show execTrackPlanEnded r s = _
    rw [execTrackPlanEnded, ho]
    exact congrArg Host.Outcome.next (State.discardTracks_eq _ r (s.modTrk_table_length r _ (by exact fun _ => rfl) hlen))

end Sys2Proof.Machine
end

section
/-! PROOFS. The first least track of a table, which a hit joins or evicts, and what a hit comes to (O35). -/

namespace Sys2Proof.Machine

/-! ## The first least track of a table (R94, R98) -/

section
variable {κ : Type} [LinearOrder κ] (p : Track → Bool) (key : Track → κ)

/-- Of the tracks that `p` selects the one of least key, the first among equals. -/
def IsFirstLeast (table : List (Option Track)) (i : Nat) (k : Track) : Prop :=
  table[i]? = some (some k) ∧ p k = true ∧ ∀ j m, table[j]? = some (some m) → p m = true → j ≠ i →
    key k < key m ∨ (key k = key m ∧ i < j)

/-- The next entry of a table against the best so far. -/
def leastStep (best : Option (Nat × Track)) (e : Nat × Option Track) : Option (Nat × Track) :=
  match e.2 with
  | none => best
  | some k =>
    if p k = true then
      match best with
      | none => some (e.1, k)
      | some b => if key k < key b.2 then some (e.1, k) else some b
    else best

/-- The search of a table from its first entry on. -/
def firstLeast (table : List (Option Track)) : Option (Nat × Track) := (indexed table).foldl (leastStep p key) none

theorem firstLeast_concat (table : List (Option Track)) (e : Option Track) :
    firstLeast p key (table ++ [e]) = leastStep p key (firstLeast p key table) (table.length, e) := by
  rw [firstLeast, indexed_concat, List.foldl_append]
  rfl

variable {p key} {table : List (Option Track)}

/-- The tracks of a table with one entry more. -/
theorem getElem?_concat_some {table : List (Option Track)} {e : Option Track} {i : Nat} {k : Track} :
    (table ++ [e])[i]? = some (some k) ↔ table[i]? = some (some k) ∨ (i = table.length ∧ e = some k) := by
  rw [List.getElem?_append]
  split
  · rename_i h
    exact ⟨.inl, fun o => o.resolve_right fun x => h.ne x.1⟩
  · rename_i h
    rw [List.getElem?_eq_none_iff.mpr (not_lt.mp h), List.getElem?_singleton]
    split
    · have : i = table.length := by omega
      simp [this]
    · have : i ≠ table.length := by omega
      simp [this]

/-- An entry that is free, not selected, or not less than the best changes nothing. -/
theorem IsFirstLeast.concat {i : Nat} {k : Track} (h : IsFirstLeast p key table i k) (e : Option Track)
    (he : ∀ m, e = some m → p m = true → key k ≤ key m) : IsFirstLeast p key (table ++ [e]) i k := by
  obtain ⟨entry, selected, least⟩ := h
  refine ⟨getElem?_concat_some.mpr (.inl entry), selected, fun j m hj hm ne => ?_⟩
  rcases getElem?_concat_some.mp hj with hj | ⟨rfl, rfl⟩
  · exact least j m hj hm ne
  · exact (he m rfl hm).lt_or_eq.imp_right fun eq => ⟨eq, (List.getElem?_eq_some_iff.mp entry).1⟩

/-- The last entry is the first least when it is less than every other. -/
theorem IsFirstLeast.last {k : Track} (hk : p k = true)
    (h : ∀ (j : Nat) m, table[j]? = some (some m) → p m = true → key k < key m) :
    IsFirstLeast p key (table ++ [some k]) table.length k := by
  refine ⟨getElem?_concat_some.mpr (.inr ⟨rfl, rfl⟩), hk, fun j m hj hm ne => .inl ?_⟩
  rcases getElem?_concat_some.mp hj with hj | ⟨rfl, -⟩
  · exact h j m hj hm
  · exact absurd rfl ne

/-- The key of the first least is at most that of any track selected. -/
theorem IsFirstLeast.le {i j : Nat} {k m : Track} (h : IsFirstLeast p key table i k) (hj : table[j]? = some (some m))
    (hm : p m = true) : key k ≤ key m := by
  by_cases e : j = i
  · subst e
    cases h.1.symm.trans hj
    exact le_rfl
  · rcases h.2.2 j m hj hm e with lt | ⟨eq, -⟩
    · exact lt.le
    · exact eq.le

/-- The search finds the first least track, and nothing only where no track is selected. -/
theorem firstLeast_spec (table : List (Option Track)) :
    (firstLeast p key table = none ∧ ∀ (i : Nat) k, table[i]? = some (some k) → p k = false) ∨
      ∃ i k, firstLeast p key table = some (i, k) ∧ IsFirstLeast p key table i k := by
  induction table using List.reverseRecOn with
  | nil => exact .inl ⟨rfl, nofun⟩
  | append_singleton table e ih =>
    rw [firstLeast_concat]
    rcases ih with ⟨found, unselected⟩ | ⟨i, b, found, least⟩ <;> rw [found]
    · rcases e with - | k
      · exact .inl ⟨rfl, fun i k hi => unselected i k ((getElem?_concat_some.mp hi).resolve_right nofun)⟩
      · cases hp : p k
        · refine .inl ⟨by simp [leastStep, hp], fun i m hi => ?_⟩
          rcases getElem?_concat_some.mp hi with hi | ⟨-, e⟩
          · exact unselected i m hi
          · cases e
            exact hp
        · refine .inr ⟨table.length, k, by simp [leastStep, hp], .last hp fun j m hj hm => ?_⟩
          simp [unselected j m hj] at hm
    · refine .inr ?_
      rcases e with - | k
      · exact ⟨i, b, rfl, least.concat none nofun⟩
      · cases hp : p k
        · exact ⟨i, b, by simp [leastStep, hp], least.concat _ fun m e hm => by cases e; simp [hp] at hm⟩
        · by_cases lt : key k < key b
          · exact ⟨table.length, k, by simp [leastStep, hp, lt], .last hp fun j m hj hm => lt.trans_le (least.le hj hm)⟩
          · exact ⟨i, b, by simp [leastStep, hp, lt], least.concat _ fun m e _ => by cases e; exact not_lt.mp lt⟩

theorem IsFirstLeast.unique {i j : Nat} {k m : Track} (hi : IsFirstLeast p key table i k)
    (hj : IsFirstLeast p key table j m) : i = j ∧ k = m := by
  have index : i = j := by
    by_contra e
    rcases hi.2.2 j m hj.1 hj.2.1 (Ne.symm e) with lt | ⟨-, lt⟩
    · exact lt.not_ge (hj.le hi.1 hi.2.1)
    · rcases hj.2.2 i k hi.1 hi.2.1 e with lt' | ⟨-, lt'⟩
      · exact lt'.not_ge (hi.le hj.1 hj.2.1)
      · omega
  subst index
  cases hi.1.symm.trans hj.1
  exact ⟨rfl, rfl⟩

theorem firstLeast_eq_some {i : Nat} {k : Track} (h : IsFirstLeast p key table i k) :
    firstLeast p key table = some (i, k) := by
  rcases firstLeast_spec (p := p) (key := key) table with ⟨-, unselected⟩ | ⟨j, m, found, least⟩
  · exact absurd h.2.1 (by simp [unselected i k h.1])
  · obtain ⟨rfl, rfl⟩ := h.unique least
    exact found

theorem firstLeast_eq_none (h : ∀ (i : Nat) k, table[i]? = some (some k) → p k = false) : firstLeast p key table = none := by
  rcases firstLeast_spec (p := p) (key := key) table with ⟨found, -⟩ | ⟨j, m, -, least⟩
  · exact found
  · exact absurd least.2.1 (by simp [h j m least.1])

end

/-! ## Association (R93, R94) -/

/-- A track is a candidate for a hit within its windows. -/
def Hit.fits (h : Hit) (wx wd : Nat) (k : Track) : Bool :=
  decide (k.group = h.group ∧ k.kind = h.kind ∧ k.dx h.x ≤ wx ∧ k.dd h ≤ wd)

/-- The distances of a track from a hit, the position before the depth. -/
def Hit.distances (h : Hit) (k : Track) : Nat ×ₗ Nat := toLex (k.dx h.x, k.dd h)

theorem Hit.distances_lt (h : Hit) (k m : Track) : h.distances k < h.distances m ↔
    k.dx h.x < m.dx h.x ∨ (k.dx h.x = m.dx h.x ∧ k.dd h < m.dd h) := Prod.Lex.toLex_lt_toLex

theorem Hit.distances_eq (h : Hit) (k m : Track) : h.distances k = h.distances m ↔
    k.dx h.x = m.dx h.x ∧ k.dd h = m.dd h := by
  rw [Hit.distances, Hit.distances, toLex_inj, Prod.mk.injEq]

theorem Track.match?_eq (k : Track) (h : Hit) (wx wd : Nat) :
    k.match? h wx wd = if h.fits wx wd k = true then some (k.dx h.x, k.dd h) else none := by
  simp only [Track.match?, Hit.fits, decide_eq_true_iff]

/-- A best match as its distances and its entry. -/
def Hit.matched (h : Hit) (b : Nat × Track) : Nat × Nat × Nat := (b.2.dx h.x, b.2.dd h, b.1)

/-- The next entry of a table against the best match so far. -/
def Hit.matchStep (h : Hit) (wx wd : Nat) (best : Option (Nat × Nat × Nat)) (e : Nat × Option Track) :
    Option (Nat × Nat × Nat) :=
  match e.2.bind fun k => k.match? h wx wd with
  | none => best
  | some m => better best m.1 m.2 e.1

theorem Hit.matchStep_eq (h : Hit) (wx wd : Nat) (best : Option (Nat × Track)) (e : Nat × Option Track) :
    h.matchStep wx wd (best.map h.matched) e = (leastStep (h.fits wx wd) h.distances best e).map h.matched := by
  obtain ⟨i, - | k⟩ := e
  · rfl
  · cases fits : h.fits wx wd k
    · simp [Hit.matchStep, leastStep, Track.match?_eq, fits]
    · cases best with
      | none => simp [Hit.matchStep, leastStep, Track.match?_eq, fits, better, Hit.matched]
      | some b =>
        simp only [Hit.matchStep, leastStep, Track.match?_eq, fits, better, if_true, Option.bind_some, Option.map_some,
          ← h.distances_lt k b.2, Hit.matched]
        split <;> rfl

/-- The entry a hit joins is that of the first least candidate. -/
theorem chooseTrack_eq (table : List (Option Track)) (h : Hit) (wx wd : Nat) :
    chooseTrack table h wx wd = (firstLeast (h.fits wx wd) h.distances table).map Prod.fst := by
  have search : chooseTrack table h wx wd = ((indexed table).foldl (h.matchStep wx wd) none).map fun b => b.2.2 := rfl
  have same : (indexed table).foldl (h.matchStep wx wd) none =
      (firstLeast (h.fits wx wd) h.distances table).map h.matched :=
    List.foldl_hom (Option.map h.matched) (init := none) (h.matchStep_eq wx wd)
  rw [search, same, Option.map_map]
  rfl

/-! ## Joining (R95, R96) -/

/-- A joined track is CONFIRMED at a hit_count of Nc, and else stays as it was. -/
theorem Track.join_confirm (k : Track) (h : Hit) (t nc : Nat) : (k.join h t).confirm nc =
    { k with xMin := min k.xMin h.x, xMax := max k.xMax h.x, dMin := minDepth k.dMin h.d, dMax := maxDepth k.dMax h.d,
             peak := max k.peak h.amplitude, peakX := if k.peak < h.amplitude then h.x else k.peakX,
             dRef := if k.peak < h.amplitude then h.d else k.dRef, saturated := k.saturated || h.saturated,
             hitCount := bump16 k.hitCount, elementMask := k.elementMask ||| elementBit h.element,
             tLast := t, flags := k.flags ||| h.flags,
             state := if bump16 k.hitCount = nc then .confirmed else k.state } := by
  have peak : (if k.peak < h.amplitude then h.amplitude else k.peak) = max k.peak h.amplitude := by
    rw [max_def_lt]
  have joined : k.join h t =
      { k with xMin := min k.xMin h.x, xMax := max k.xMax h.x, dMin := minDepth k.dMin h.d, dMax := maxDepth k.dMax h.d,
               peak := max k.peak h.amplitude, peakX := if k.peak < h.amplitude then h.x else k.peakX,
               dRef := if k.peak < h.amplitude then h.d else k.dRef, saturated := k.saturated || h.saturated,
               hitCount := bump16 k.hitCount, elementMask := k.elementMask ||| elementBit h.element,
               tLast := t, flags := k.flags ||| h.flags } := by
    rw [← peak]
    rfl
  rw [joined]
  unfold Track.confirm
  by_cases count : bump16 k.hitCount = nc
  · cases state : k.state <;> simp [count]
  · simp [count]

theorem Track.tooLong_iff (k : Track) (lmax : Nat) : k.tooLong lmax = true ↔ lmax < k.xMax - k.xMin + 1 :=
  decide_eq_true_iff

/-- A track closed as LONG goes on the ordered path when CONFIRMED, and into a record when not. -/
theorem State.closeTrack_eq (s : State) (r : Rail) (i : Nat) (x : Track) (reason : DropReason) (cause : Option DropCause) :
    s.closeTrack r i x reason cause = if x.state = .confirmed then (s.putTrack r i none).sendPath r (.summary x)
      else (s.putTrack r i none).offered (.tracker r)
        [.dropped { rail := r, index := i, reason := reason, cause := cause, track := x, tClose := s.pos.t }] := by
  rw [State.closeTrack_eq_handOn, State.handOn, State.dropTrack, State.offer_eq_offered]
  simp only [beq_iff_eq]
  rfl

/-! ## Opening (R97, R98) -/

theorem freeEntry_eq_some (table : List (Option Track)) (i : Nat) (h : table[i]? = some none)
    (first : ∀ j, j < i → table[j]? ≠ some none) : freeEntry table = some i := by
  obtain ⟨hi, free⟩ := List.getElem?_eq_some_iff.mp h
  refine List.findIdx?_eq_some_iff_getElem.mpr ⟨hi, by rw [free]; rfl, fun j hj taken => ?_⟩
  rw [Option.isNone_iff_eq_none] at taken
  exact first j hj (List.getElem?_eq_some_iff.mpr ⟨hj.trans hi, taken⟩)

theorem freeEntry_eq_none (table : List (Option Track)) (h : ∀ i : Nat, table[i]? ≠ some none) : freeEntry table = none := by
  refine List.findIdx?_eq_none_iff.mpr fun e he => ?_
  obtain ⟨i, hi⟩ := List.getElem?_of_mem he
  cases e with
  | none => exact absurd hi (h i)
  | some k => rfl

/-- The track evicted is the first least TENTATIVE one by T_last. -/
theorem evictable_eq (table : List (Option Track)) :
    evictable table = firstLeast (fun k => k.state == .tentative) Track.tLast table := by
  unfold evictable firstLeast
  congr 1
  funext best e
  obtain ⟨i, - | k⟩ := e
  · rfl
  · cases best <;> simp [leastStep]

/-! ## The hit taken (R92 to R99) -/

section
variable (s : State) (r : Rail) (h : Hit) (hf : s.inForce = true)
include hf

theorem State.takeHit_joins (i : Nat) (k : Track) (least : IsFirstLeast (h.fits (Plan.windowX s.plan r h.group)
    (Plan.windowD s.plan r h.group)) h.distances (s.rail r).trk.table i k) : s.takeHit r h = s.joinTrack r i k h := by
  rw [State.takeHit, if_neg (by simp [hf])]
  dsimp only
  rw [chooseTrack_eq, firstLeast_eq_some least]
  dsimp only [Option.map_some]
  rw [Tracker.entry, least.1]
  rfl

theorem State.takeHit_opens (none_fits : ∀ (i : Nat) k, (s.rail r).trk.table[i]? = some (some k) →
    h.fits (Plan.windowX s.plan r h.group) (Plan.windowD s.plan r h.group) k = false) :
    s.takeHit r h = s.openTrack r h := by
  rw [State.takeHit, if_neg (by simp [hf])]
  dsimp only
  rw [chooseTrack_eq, firstLeast_eq_none none_fits]
  rfl

end

/-- Settles O35: the search finds the first least candidate, and the entry opened is the first FREE one or that of the first
least TENTATIVE track. -/
theorem hitJoinsOpensEvictsOrIsLost : Obligations.HitJoinsOpensEvictsOrIsLost := by
  intro r h rest s hh u table nc candidate best opening does
  have row (w : State) (hw : u.takeHit r h = w) : does w := by
    show execTrackHit r s = _
    rw [execTrackHit, hh]
    exact congrArg Host.Outcome.next hw
  have htable : (u.rail r).trk.table = table := by rw [State.modTrk_trk_same]
  have candidate_iff (i : Nat) (k : Track) : candidate i k ↔
      table[i]? = some (some k) ∧ h.fits (Plan.windowX s.plan r h.group) (Plan.windowD s.plan r h.group) k = true := by
    rw [Hit.fits, decide_eq_true_iff]
  refine ⟨fun hf => row u (if_pos hf), fun hf i k hb => ?_, fun hf hn => ?_⟩
  · intro m long
    have least : IsFirstLeast (h.fits (Plan.windowX u.plan r h.group) (Plan.windowD u.plan r h.group)) h.distances
        (u.rail r).trk.table i k := by
      obtain ⟨hk, nearest⟩ := hb
      obtain ⟨entry, fits⟩ := (candidate_iff i k).mp hk
      rw [htable]
      refine ⟨entry, fits, fun j m hj hm ne => ?_⟩
      rw [h.distances_lt, h.distances_eq]
      have := nearest j m ((candidate_iff j m).mpr ⟨hj, hm⟩) ne
      omega
    have joins : u.takeHit r h = if m.tooLong (Plan.maxLength s.plan r h.group) = true
        then u.closeTrack r i long .long none else u.putTrack r i (some m) := by
      rw [u.takeHit_joins r h hf i k least, State.joinTrack, Track.join_confirm]
      rfl
    refine ⟨fun fits => row _ ?_, fun exceeds => row _ ?_⟩
    · rw [joins, if_neg (by rw [Track.tooLong_iff]; exact not_lt.mpr fits)]
    · rw [joins, if_pos ((m.tooLong_iff _).mpr exceeds), State.closeTrack_eq]
      rfl
  · have opens : u.takeHit r h = u.openTrack r h := u.takeHit_opens r h hf fun i k hi => by
      rw [htable] at hi
      exact Bool.eq_false_iff.mpr fun fits => hn i k ((candidate_iff i k).mpr ⟨hi, fits⟩)
    refine ⟨fun i free first => row _ ?_, fun full => ⟨fun i k hi tentative oldest => row _ ?_, fun confirmed => row _ ?_⟩⟩
    · rw [opens, State.openTrack, htable, freeEntry_eq_some table i free first]
      rfl
    · have least : IsFirstLeast (fun k => k.state == .tentative) Track.tLast table i k :=
        ⟨hi, beq_iff_eq.mpr tentative, fun j m hj hm ne => oldest j m hj (beq_iff_eq.mp hm) ne⟩
      rw [opens, State.openTrack, htable, freeEntry_eq_none table full, evictable_eq, firstLeast_eq_some least]
      dsimp only
      rw [State.dropTrack, State.offer_eq_offered]
      rfl
    · rw [opens, State.openTrack, htable, freeEntry_eq_none table full, evictable_eq,
        firstLeast_eq_none fun i k hi => by simp [confirmed i k hi]]

end Sys2Proof.Machine
end

section
/-! PROOFS. FLUSH, from its request to the second report of flush done (O52). -/

namespace Sys2Proof.Machine

/-! ## The request -/

/-- In ACTIVE, with none in hand, FLUSH is taken and ordered of both correlators. -/
theorem State.flushRequest_ordered (s : State) (q : Request) (hd : s.device = .active) (hn : s.req.flush = none) :
    s.flushRequest q =
      ((s.take q).modReq fun h =>
        { h with flush := some { index := q.index, tag := q.tag, counts := ⟨(0, 0), (0, 0)⟩, done := ⟨false, false⟩ } }).eachRail
          fun b => { b with trk := { b.trk with flushOrders := b.trk.flushOrders ++ [q.tag] } } := by
  unfold State.flushRequest
  rw [if_neg (not_not.mpr hd), if_neg (by simp [hn])]
  rfl

/-! ## The reports -/

section
variable (s : State) (r : Rail) (f : FlushInHand) (h : s.req.flush = some f)
include h

theorem State.flushReported_other (tag : Nat) (ht : f.tag ≠ tag) : s.flushReported r tag = s := by
  rw [State.flushReported, h]
  exact if_pos ht

/-- The report of one rail after that of the other, or before it. -/
theorem State.flushReported_own : s.flushReported r f.tag =
    if (f.done.set r true).a ∧ (f.done.set r true).b then
      (s.modReq fun q => { q with flush := none }).complete f.index .done .ok (flushWords f.counts)
    else s.modReq fun q => { q with flush := some { f with done := f.done.set r true } } := by
  rw [State.flushReported, h]
  exact if_neg (not_not.mpr rfl)

end

/-- Both rails have reported once a rail has and the other had before. -/
theorem Both.set_true_both_iff (x : Both Bool) (r : Rail) (b : Bool) (h : ∀ o, o ≠ r → x.get o = b) :
    ((x.set r true).a ∧ (x.set r true).b) ↔ b = true := by
  cases r
  · simpa [Both.set, Both.get] using congrArg (· = true) (h .B nofun)
  · simpa [Both.set, Both.get] using congrArg (· = true) (h .A nofun)

/-- Settles O52: the request's row is its owner's effect with the scan closed behind it, and a report completes the FLUSH in
hand when it is the second on its tag. -/
theorem flushWaitsForBothRails : Obligations.FlushWaitsForBothRails := by
  refine ⟨fun q rest s hs hd hk => ?_, fun r tag rest s hq => ?_⟩
  · intro u
    have row (w : State) (hw : u.flushRequest q = w) (h1 : w.req.scan = rest) (h2 : w.device = s.device) :
        exec .flush s = .next (closeScan rest w) :=
      congrArg Host.Outcome.next (s.takeRequest_eq q rest _ _ hs (by simp [hk]) w hw h1 (by rwa [h2]))
    refine ⟨fun ha => row _ (if_pos ha) (by simp [u]) (by simp [u]), fun ha hb => ?_, fun ha hn => ?_⟩
    · exact row _ ((if_neg (not_not.mpr ha)).trans (if_pos hb)) (by simp [u]) (by simp [u])
    · intro order w
      refine row _ ((u.flushRequest_ordered q ha hn).trans ?_) (u.take_scan q) (u.take_device q)
      have rails : w.rails = s.rails := by
        obtain ⟨h, b, taken⟩ := u.take_frame q
        show (u.take q).rails = s.rails
        rw [taken]
      rw [← rails]
      rfl
  · intro u
    have row : exec (.flushDoneReport r) s = .next (u.flushReported r tag) := by
      show execFlushDoneReport r s = _
      rw [execFlushDoneReport, hq]
    refine ⟨fun hn => ?_, fun f hf => ⟨fun ht => ?_, fun ht ho => ?_, fun ht ho => ?_⟩⟩
    · rw [row, State.flushReported, show u.req.flush = none from hn]
    · rw [row, State.flushReported_other u r f hf tag ht]
    · rw [row, ← ht, State.flushReported_own u r f hf, if_neg (by simp [f.done.set_true_both_iff r false ho])]
    · rw [row, ← ht, State.flushReported_own u r f hf, if_pos ((f.done.set_true_both_iff r true ho).mpr rfl)]
      rfl

end Sys2Proof.Machine
end

section
/-! PROOFS. The outbound queue and the track tables stay bounded (O11): what of the view of Laws/Frame.lean holds the
queue and the lengths of the tables, and that no row but those of the Journal Writer, BIND and the resets changes it. -/

namespace Sys2Proof.Machine

/-! ## The queue and the tables on the view (R91, R172) -/

/-- The outbound queue and the number of entries of each track table. -/
structure Stores where
  queue : List Rec
  entries : Both Nat

/-- The stores a view holds. -/
def View.stores (v : View) : Stores := { queue := v.queue, entries := ⟨v.rails.a.entries, v.rails.b.entries⟩ }

/-- The bounds of `State.bounded` on the stores. -/
def Stores.bounded (x : Stores) : Prop := x.queue.length ≤ 32 ∧ ∀ r, x.entries.get r = 48

theorem State.bounded_iff (s : State) : s.bounded ↔ s.view.stores.bounded := by
  have entries (r : Rail) : s.view.stores.entries.get r = (s.rail r).trk.table.length := by cases r <;> rfl
  simp only [Stores.bounded, entries]
  rfl

theorem View.stores_modRail (v : View) (r : Rail) (f : RailView → RailView) (h : ∀ x, (f x).entries = x.entries) :
    (v.modRail r f).stores = v.stores := by
  cases r <;> simp [View.stores, View.modRail, Both.modify, Both.set, Both.get, h]

theorem View.stores_pos (v : View) (pos : PositionUnit) : { v with pos := pos }.stores = v.stores := rfl

theorem View.faultedFrom.stores {v w : View} (h : v.faultedFrom w) : w.stores = v.stores := by
  rcases h with ⟨-, rfl⟩ | ⟨-, rfl⟩ <;> rfl

theorem View.returned.stores {v w : View} (h : v.returned w) : w.stores = v.stores := by
  rcases h with rfl | rfl <;> rfl

/-! ## The operations that change the view and leave the stores -/

@[simp] theorem State.frameCounts_stores (s : State) (r : Rail) : (s.frameCounts r).view.stores = s.view.stores := by
  rw [State.frameCounts_view]
  exact View.stores_modRail _ r _ fun _ => rfl

@[simp] theorem State.abandonShot_stores (s : State) (r : Rail) : (s.abandonShot r).view.stores = s.view.stores := by
  rw [State.abandonShot_view]
  exact View.stores_modRail _ r _ fun _ => rfl

@[simp] theorem State.judgeShot_stores (s : State) (r : Rail) (x : Shot) (whole : Firing → Bool) :
    (s.judgeShot r x whole).view.stores = s.view.stores := by
  rw [State.judgeShot_view]
  exact View.stores_modRail _ r _ fun _ => rfl

@[simp] theorem State.linkGoesDown_stores (s : State) (r : Rail) : (s.linkGoesDown r).view.stores = s.view.stores := by
  rw [State.linkGoesDown_view]
  exact View.stores_modRail _ r _ fun _ => rfl

@[simp] theorem State.seqLinkDown_stores (s : State) (r : Rail) : (s.seqLinkDown r).view.stores = s.view.stores := by
  rw [State.seqLinkDown_view]
  exact View.stores_modRail _ r _ fun _ => rfl

@[simp] theorem State.linkComesUp_stores (s : State) (r : Rail) : (s.linkComesUp r).view.stores = s.view.stores := by
  rw [State.linkComesUp_view]
  exact View.stores_modRail _ r _ fun _ => rfl

@[simp] theorem State.liftChanges_stores (s : State) (r : Rail) (asserted : Bool) :
    (s.liftChanges r asserted).view.stores = s.view.stores := by
  rw [State.liftChanges_view]
  refine View.stores_modRail _ r _ fun x => ?_
  unfold RailView.lifting
  (repeat' split) <;> rfl

@[simp] theorem State.fireShot_stores (s : State) (r : Rail) (i : Nat) :
    (s.fireShot r i).view.stores = s.view.stores := by
  rcases s.fireShot_view r i with h | ⟨_, h⟩ <;> rw [h]
  exact View.stores_modRail _ r _ fun _ => rfl

@[simp] theorem State.afterShot_stores (s : State) (r : Rail) (x : Shot) :
    (s.afterShot r x).view.stores = s.view.stores := by
  rcases s.afterShot_view r x with h | ⟨-, -, _, h⟩ <;> rw [h] <;> exact View.stores_modRail _ r _ fun _ => rfl

@[simp] theorem State.takeRaise_stores (s : State) (src : Source) (d : Detail) :
    (s.takeRaise src d).view.stores = s.view.stores := by
  rcases s.takeRaise_view src d with h | h
  · rw [h]
  · exact h.stores

@[simp] theorem State.leaveFaulted_stores (s : State) : s.leaveFaulted.view.stores = s.view.stores := by
  rcases s.leaveFaulted_view with h | ⟨-, h | h⟩
  · rw [h]
  · exact h.stores
  · exact h.stores

@[simp] theorem State.ackAlarm_stores (s : State) (q : Request) : (s.ackAlarm q).view.stores = s.view.stores := by
  rcases s.ackAlarm_view q with h | ⟨u, hu, h⟩
  · rw [h]
  · rw [h, State.leaveFaulted_stores, hu]

@[simp] theorem State.railPurged_stores (s : State) (r : Rail) : (s.railPurged r).view.stores = s.view.stores := by
  rcases s.railPurged_view r with h | ⟨-, -, h⟩ <;> rw [h]
  rfl

@[simp] theorem State.stopRequest_stores (s : State) (q : Request) : (s.stopRequest q).view.stores = s.view.stores := by
  rcases s.stopRequest_view q with h | ⟨-, h⟩ <;> rw [h]
  rfl

@[simp] theorem State.endActivationLoad_stores (s : State) (l : Load) (c : List Byte) (fromActive : Bool)
    (mode : SwitchMode) (position : Nat) :
    (s.endActivationLoad l c fromActive mode position).view.stores = s.view.stores := by
  rcases s.endActivationLoad_view l c fromActive mode position with h | ⟨-, h⟩ <;> rw [h]
  rfl

@[simp] theorem State.raisePresent_stores (s : State) : s.raisePresent.view.stores = s.view.stores := by
  unfold State.raisePresent State.eachSource
  induction Source.all generalizing s with
  | nil => rfl
  | cons src rest ih =>
    rw [List.foldl_cons, ih]
    dsimp only
    (repeat' split) <;> simp

theorem State.movesInRange.stores {s t : State} (h : s.movesInRange t) : t.view.stores = s.view.stores := by
  rw [h.1, View.stores_pos]

/-! ## The rows of a rail -/

theorem State.endReceived_stores (s : State) (r : Rail) (seq flags : BitVec 8) (counts : List Nat) :
    (s.endReceived r seq flags counts).view.stores = s.view.stores := by
  unfold State.endReceived
  (repeat' split) <;> simp

theorem State.receive_stores (s : State) (r : Rail) (bytes : List Byte) :
    (s.receive r bytes).view.stores = s.view.stores := by
  unfold State.receive
  (repeat' split) <;> simp [State.endReceived_stores, State.sampleReceived_view]

theorem State.endTimerExpires_stores (s : State) (r : Rail) : (s.endTimerExpires r).view.stores = s.view.stores := by
  unfold State.endTimerExpires
  dsimp only
  (repeat' split) <;> simp

theorem State.presenceExpires_stores (s : State) (r : Rail) : (s.presenceExpires r).view.stores = s.view.stores := by
  unfold State.presenceExpires
  dsimp only
  (repeat' split) <;> simp

theorem State.stepEffect_stores (s : State) (r : Rail) : (s.stepEffect r).view.stores = s.view.stores := by
  unfold State.stepEffect State.startSweep
  dsimp only
  (repeat' split) <;> simp

theorem State.sweepStep_stores (s : State) (r : Rail) (n : Nat) : (s.sweepStep r n).view.stores = s.view.stores := by
  unfold State.sweepStep
  split
  · refine (State.stepEffect_stores _ r).trans (congrArg View.stores ?_)
    exact (State.modPlans_view _ _ rfl).trans (s.modSeq_view r _ fun _ => ⟨rfl, rfl⟩)
  · rfl

/-! ## States bounded one after another -/

/-- From a bounded state to a bounded state. -/
def State.keepsBounds (s t : State) : Prop := s.bounded → t.bounded

theorem State.keepsBounds.trans {s t u : State} (h : s.keepsBounds t) (k : t.keepsBounds u) : s.keepsBounds u := k ∘ h

theorem State.keepsBounds_of_stores {s t : State} (h : t.view.stores = s.view.stores) : s.keepsBounds t := by
  rw [State.keepsBounds, s.bounded_iff, t.bounded_iff, h]
  exact id

/-- A change of the queue alone, to one within the bound. -/
theorem State.keepsBounds_queue {s t : State} (queue : List Rec) (h : t.view = { s.view with queue := queue })
    (hq : s.jrn.queue.length ≤ 32 → queue.length ≤ 32) : s.keepsBounds t := by
  rw [State.keepsBounds, s.bounded_iff, t.bounded_iff, h]
  exact fun ⟨queued, entries⟩ => ⟨hq queued, entries⟩

theorem State.takeRequest_keepsBounds (s : State) (kind : Request → Bool) (owner : State → Request → State)
    (h : ∀ (u : State) (q : Request), (owner u q).view.stores = u.view.stores) :
    s.keepsBounds (s.takeRequest kind owner) := by
  refine State.keepsBounds_of_stores ?_
  unfold State.takeRequest
  dsimp only
  (repeat' split) <;> simp [h]

/-! ## The resets and BIND -/

theorem State.deviceReset_bounded (s : State) : s.deviceReset.bounded :=
  ⟨Nat.zero_le _, fun r => by cases r <;> rfl⟩

theorem State.writeControl_keepsBounds (s : State) (v : Word) : s.keepsBounds (s.writeControl v) := by
  have enables : s.keepsBounds (s.writeEnables (enablesOf v)) :=
    State.keepsBounds_of_stores (by rw [State.writeEnables_view])
  have binding (u : State) : u.keepsBounds u.beginBind := by
    refine State.keepsBounds_of_stores ?_
    unfold State.beginBind
    split <;> rfl
  unfold State.writeControl
  dsimp only
  (repeat' split)
  · exact enables.trans (binding _)
  · exact fun _ => State.deviceReset_bounded _
  · exact enables

theorem State.writeRegister_keepsBounds (s : State) (offset : Nat) (v : Word) :
    s.keepsBounds (s.writeRegister offset v) := by
  unfold State.writeRegister
  split
  · exact s.writeControl_keepsBounds v
  · (repeat' split) <;> exact State.keepsBounds_of_stores rfl

/-- A BIND that succeeds leaves the queue empty. -/
theorem State.bindSucceeds_keepsBounds (s : State) (address : Nat) (f : ContextFields) :
    s.keepsBounds (s.bindSucceeds address f) := by
  have due : s.keepsBounds (s.acceptDue false) := State.keepsBounds_of_stores (s.acceptDue_moves false).stores
  unfold State.bindSucceeds
  dsimp only
  generalize hu : State.modReq _ _ = u
  have cleared : (s.acceptDue false).keepsBounds u := by
    rw [← hu]
    exact fun ⟨_, entries⟩ => ⟨Nat.zero_le _, entries⟩
  refine (due.trans cleared).trans (State.keepsBounds_of_stores ?_)
  rw [State.raisePresent_stores, State.announce_view]
  exact (u.loadSettings_moves f.settings).stores

theorem State.endBind_keepsBounds (s : State) (address : Nat) (block : Option (List Byte)) :
    s.keepsBounds (s.endBind address block) := by
  have ended : s.keepsBounds (s.modBus fun b => { b with binding := none }) := State.keepsBounds_of_stores rfl
  have failed (u : State) (e : BindError) : u.keepsBounds (u.bindFails e) :=
    State.keepsBounds_of_stores (by rw [State.bindFails_view])
  unfold State.endBind
  dsimp only
  (repeat' split)
  · exact ended.trans (failed _ _)
  · exact ended.trans (State.bindSucceeds_keepsBounds _ _ _)
  · exact ended.trans (failed _ _)

/-! ## Every row -/

theorem State.roomCheck_keepsBounds (s : State) (x : Rec) (masks : List Byte) : s.keepsBounds (s.roomCheck x masks) := by
  rcases s.roomCheck_view x masks with h | h
  · exact State.keepsBounds_of_stores (by rw [h])
  · exact State.keepsBounds_queue _ h fun queued => by rw [List.length_tail]; omega

theorem State.placeRecord_keepsBounds (s : State) (x : Rec) : s.keepsBounds (s.placeRecord x) := by
  obtain ⟨queue, h, length⟩ := s.placeRecord_view x
  exact State.keepsBounds_queue queue h fun queued => length.trans (max_le le_rfl queued)

/-- Every row, from a bounded state, answers a bounded state. -/
theorem exec_keepsBounds (c : Instr) (s : State) : ∃ t, exec c s = .next t ∧ s.keepsBounds t := by
  by_cases hv : c.keepsView = true
  · obtain ⟨t, ht, h⟩ := exec_view c s hv
    exact ⟨t, ht, State.keepsBounds_of_stores (by rw [h])⟩
  cases c with
  | hardwareReset pins => exact ⟨_, rfl, fun _ => ⟨Nat.zero_le _, fun r => by cases r <;> rfl⟩⟩
  | rawInputChange a b m =>
    exact ⟨_, rfl, State.keepsBounds_of_stores ((s.acceptDue_moves false).trans
      ((State.modPos_moves _ _ ⟨id, le_rfl, rfl⟩).inRange.trans (State.acceptDue_moves _ _))).stores⟩
  | holdTimerExpiry markFirst =>
    refine ⟨_, rfl, State.keepsBounds_of_stores ?_⟩
    split
    · rfl
    · exact ((s.modPos_moves _ ⟨id, le_rfl, rfl⟩).inRange.trans (State.acceptDue_moves _ _)).stores
  | setPositionNow =>
    exact ⟨_, rfl, s.takeRequest_keepsBounds _ _ fun u q => (u.setPositionNow_moves q).inRange.stores⟩
  | setPositionAtMark =>
    exact ⟨_, rfl, s.takeRequest_keepsBounds _ _ fun u q => (u.setPositionAtMark_moves q).inRange.stores⟩
  | stop => exact ⟨_, rfl, s.takeRequest_keepsBounds _ _ State.stopRequest_stores⟩
  | ackAlarm => exact ⟨_, rfl, s.takeRequest_keepsBounds _ _ State.ackAlarm_stores⟩
  | bind v | reset v | controlNone v => exact ⟨_, rfl, s.writeControl_keepsBounds v⟩
  | registerWrite offset v => exact ⟨_, rfl, s.writeRegister_keepsBounds offset v⟩
  | bindComplete block =>
    refine ⟨_, rfl, ?_⟩
    split
    · exact id
    · exact s.endBind_keepsBounds _ block
  | sampleFrame r bytes | endFrame r bytes | idleFrame r bytes | badFrame r bytes =>
    exact ⟨_, rfl, State.keepsBounds_of_stores (s.receive_stores r bytes)⟩
  | recordOffer =>
    refine ⟨_, rfl, ?_⟩
    (repeat' split)
    · exact id
    · exact id
    · rename_i x rest _
      exact (State.keepsBounds_of_stores (by simp)).trans
        ((s.modJrn fun j => { j with presented := rest }).placeRecord_keepsBounds x.2)
  | journalTakeRecord masks =>
    refine ⟨_, rfl, ?_⟩
    (repeat' split)
    · exact id
    · exact s.roomCheck_keepsBounds _ masks
    · exact id
  | roomCheckRetry masks =>
    refine ⟨_, rfl, ?_⟩
    (repeat' split)
    · exact id
    · exact (State.keepsBounds_of_stores (by simp)).trans (s.beginCheck.roomCheck_keepsBounds _ masks)
    · exact id
  | journalWriteComplete =>
    refine ⟨_, rfl, ?_⟩
    (repeat' split) <;> try exact id
    · exact State.keepsBounds_of_stores (by simp)
    · rename_i x rest queued
      have written : ((s.recordWritten x).modJrn fun j => { j with queue := rest, phase := .idle }).view =
          { (s.recordWritten x).view with queue := rest } := rfl
      refine State.keepsBounds_queue rest (by rw [written, State.recordWritten_view]) fun bound => ?_
      rw [queued, List.length_cons] at bound
      omega
  | sweepStep r strikes | planLoadComplete bytes =>
    refine ⟨_, rfl, State.keepsBounds_of_stores ?_⟩
    dsimp only
    (repeat' split) <;> simp [State.sweepStep_stores]
  | liftChange | endTimerExpiry | presenceTimerExpiry | linkUp | markerStopPurge | alarmRaise =>
    refine ⟨_, rfl, State.keepsBounds_of_stores ?_⟩
    (repeat' split) <;> simp [State.endTimerExpires_stores, State.presenceExpires_stores]
  | _ => exact absurd rfl hv

/-- Settles O11: the idle step moves the Position Unit alone, and every row keeps the bounds. -/
theorem queueAndTrackTablesStayBounded : Obligations.QueueAndTrackTablesStayBounded := by
  intro s t hs h
  unfold step at h
  split at h
  · cases h
    exact State.keepsBounds_of_stores s.tick_moves.stores hs
  · rename_i c rest _
    obtain ⟨u, hu, k⟩ := exec_keepsBounds c { s with pending := rest }
    cases hu.symm.trans h
    exact k hs

end Sys2Proof.Machine
end

section
/-! PROOFS. Finalizing an entry: its classification by the first rule that holds, the record or the mark request it
comes to, and what follows the last entry of an item (O38). -/

namespace Sys2Proof.Machine

/-! ## Masks (R123) -/

theorem getLsbD_and_ofNat {w : Nat} (x : BitVec w) (n g : Nat) (hg : g < w) :
    (x &&& BitVec.ofNat w n).getLsbD g = (x.getLsbD g && n.testBit g) := by
  rw [BitVec.getLsbD_and, BitVec.getLsbD_ofNat, decide_eq_true hg, Bool.true_and]

/-- None of the bits a mask sets. -/
theorem and_ofNat_eq_zero_iff {w : Nat} (x : BitVec w) (n : Nat) :
    x &&& BitVec.ofNat w n = 0 ↔ ∀ g, g < w → n.testBit g = true → x.getLsbD g = false := by
  rw [BitVec.eq_of_getLsbD_eq_iff]
  refine forall₂_congr fun g hg => ?_
  rw [getLsbD_and_ofNat x n g hg, show (0 : BitVec w).getLsbD g = false from BitVec.getLsbD_zero]
  cases n.testBit g <;> simp

/-- All of the bits a mask sets. -/
theorem and_ofNat_eq_self_iff {w : Nat} (x : BitVec w) (n : Nat) :
    x &&& BitVec.ofNat w n = BitVec.ofNat w n ↔ ∀ g, g < w → n.testBit g = true → x.getLsbD g = true := by
  rw [BitVec.eq_of_getLsbD_eq_iff]
  refine forall₂_congr fun g hg => ?_
  rw [getLsbD_and_ofNat x n g hg, BitVec.getLsbD_ofNat, decide_eq_true hg]
  cases n.testBit g <;> simp

/-- Some of the bits a mask sets. -/
theorem and_ofNat_ne_zero_iff {w : Nat} (x : BitVec w) (n : Nat) :
    x &&& BitVec.ofNat w n ≠ 0 ↔ ∃ g, g < w ∧ n.testBit g = true ∧ x.getLsbD g = true := by
  rw [ne_eq, and_ofNat_eq_zero_iff]
  push Not
  simp only [ne_eq, Bool.not_eq_false]

theorem ofNat_ne_zero_iff {w : Nat} (n : Nat) : BitVec.ofNat w n ≠ 0 ↔ ∃ g, g < w ∧ n.testBit g = true := by
  have all := and_ofNat_ne_zero_iff (BitVec.allOnes w) n
  rw [BitVec.allOnes_and] at all
  exact all.trans (exists_congr fun g => and_congr_right fun hg => by simp [hg])

/-! ## The conditions of a rule (R123) -/

/-- A group of an entry stands in the masks at its code for rail A, and eight above it for rail B. -/
theorem Entry.getLsbD_maskGroups (e : Entry) (r : Rail) (g : Nat) (hg : g < 16) : (e.maskGroups r).getLsbD g =
    match r with
    | .A => e.groups.getLsbD g
    | .B => decide (8 ≤ g) && e.groups.getLsbD (g - 8) := by
  cases r
  · simp [Entry.maskGroups, Rail.idx, hg]
  · by_cases h : g < 8
    · simp [Entry.maskGroups, Rail.idx, hg, h]
    · simp [Entry.maskGroups, Rail.idx, hg, h, not_lt.mp h]

theorem RailFilter.admits_iff (f : RailFilter) (r : Rail) :
    f.admits r = true ↔ f = .both ∨ f = match r with | .A => .a | .B => .b := by
  cases f <;> cases r <;> decide

theorem ClassRule.depthHolds_iff (q : ClassRule) (e : Entry) : q.depthHolds e = true ↔
    match e.dMin, e.dMax with
    | some a, some b => q.depthMin ≤ a ∧ b ≤ q.depthMax
    | _, _ => q.acceptNoDepth = true := by
  rcases lo : e.dMin with - | a <;> rcases hi : e.dMax with - | b <;> simp [ClassRule.depthHolds, lo, hi]

/-- The conditions of R123, one by one. -/
theorem ClassRule.holds_iff (q : ClassRule) (e : Entry) (r : Rail) : q.holds e r = true ↔
    q.filter.admits r = true ∧
      (∀ g, g < 16 → q.required.testBit g = true → (e.maskGroups r).getLsbD g = true) ∧
      ((∃ g, g < 16 ∧ q.anyOf.testBit g = true) →
        ∃ g, g < 16 ∧ q.anyOf.testBit g = true ∧ (e.maskGroups r).getLsbD g = true) ∧
      (∀ g, g < 16 → q.excluded.testBit g = true → (e.maskGroups r).getLsbD g = false) ∧
      q.depthHolds e = true ∧
      q.lengthMin ≤ e.xMax - e.xMin + 1 ∧ e.xMax - e.xMin + 1 ≤ q.lengthMax ∧ q.minPeak ≤ e.peak := by
  rw [← and_ofNat_eq_self_iff, ← and_ofNat_ne_zero_iff, ← ofNat_ne_zero_iff, ← and_ofNat_eq_zero_iff,
    ne_eq, not_imp_comm, ← or_iff_not_imp_right]
  simp only [ClassRule.holds, within, Bool.and_eq_true, Bool.or_eq_true, beq_iff_eq, bne_iff_ne, decide_eq_true_eq,
    and_assoc, ne_eq]

/-! ## The first rule that holds (R123, R124) -/

/-- The search of a list with places finds the first item that satisfies `p`. -/
theorem find?_indexed_eq_some {α : Type} (p : α → Bool) (xs : List α) (i : Nat) (x : α) (hi : xs[i]? = some x)
    (hx : p x = true) (first : ∀ (j : Nat) y, j < i → xs[j]? = some y → p y = false) :
    (indexed xs).find? (fun e => p e.2) = some (i, x) := by
  induction xs generalizing i with
  | nil => simp at hi
  | cons y ys ih =>
    rw [indexed_cons, List.find?_cons, List.find?_map]
    cases i with
    | zero =>
      cases (Option.some.inj hi : y = x)
      rw [hx]
    | succ i =>
      have found := ih i hi fun j z hj hz => first (j + 1) z (Nat.succ_lt_succ hj) hz
      rw [first 0 y i.succ_pos rfl]
      exact congrArg (Option.map _) found

theorem find?_indexed_eq_none {α : Type} (p : α → Bool) (xs : List α) (h : ∀ x ∈ xs, p x = false) :
    (indexed xs).find? (fun e => p e.2) = none := by
  refine List.find?_eq_none.mpr fun e he => ?_
  have item : e.2 ∈ xs := map_snd_indexed xs ▸ List.mem_map_of_mem he
  simp [h e.2 item]

theorem classify_of_first (plan : List Byte) (r : Rail) (e : Entry) (i : Nat) (q : ClassRule)
    (hi : (Plan.rules plan)[i]? = some q) (hq : q.holds e r = true)
    (first : ∀ (j : Nat) q', j < i → (Plan.rules plan)[j]? = some q' → q'.holds e r = false) :
    classify plan r e = q.classification i := by
  rw [classify, find?_indexed_eq_some (fun q => q.holds e r) _ i q hi hq first]

theorem classify_of_none (plan : List Byte) (r : Rail) (e : Entry) (h : ∀ q ∈ Plan.rules plan, q.holds e r = false) :
    classify plan r e = defaultClass plan r := by
  rw [classify, find?_indexed_eq_none (fun q : ClassRule => q.holds e r) _ h]

/-! ## The steps of a finalization (R122, R125 to R129) -/

theorem clampPos_natCast_sub (m n : Nat) : clampPos ((m : Int) - n) = min 4294967295 (m - n) := by
  simp only [clampPos, Config.maxU32]
  omega

theorem clampPos_natCast_add (m n : Nat) : clampPos ((m : Int) + n) = min 4294967295 (m + n) := by
  simp only [clampPos, Config.maxU32]
  omega

/-- The mark interval: lead and trail change sides with the direction. -/
theorem markInterval_eq (e : Entry) (c : Classification) (d : Dir) : markInterval e c d =
    (min 4294967295 (e.xMin - if d = .decreasing then c.trail else c.lead),
      min 4294967295 (e.xMax + if d = .decreasing then c.lead else c.trail)) := by
  cases d <;> simp [markInterval, clampPos_natCast_sub, clampPos_natCast_add]

theorem State.runJob_recorded (r : Rail) (after : AfterJob) (e : Entry) (cause : FinalCause)
    (rest : List (Entry × FinalCause)) (s : State) (status : MarkerStatus)
    (h : s.drawNumber.markerStatus r e (s.beginFinal r e cause).cls = some status) :
    State.runJob r after ((e, cause) :: rest) s =
      State.runJob r after rest (s.drawNumber.endFinal r (s.beginFinal r e cause) status false) := by
  rw [State.runJob, h]

theorem State.runJob_requested (r : Rail) (after : AfterJob) (e : Entry) (cause : FinalCause)
    (rest : List (Entry × FinalCause)) (s : State)
    (h : s.drawNumber.markerStatus r e (s.beginFinal r e cause).cls = none) :
    State.runJob r after ((e, cause) :: rest) s = s.drawNumber.modAsm r fun a =>
      { a with job := some { current := s.beginFinal r e cause, todo := rest, after := after } } := by
  rw [State.runJob, h]

theorem State.markerStatus_eq (s : State) (r : Rail) (e : Entry) (c : Classification) : s.markerStatus r e c =
    if c.nozzle = none then some .notRequired
    else if (s.rail r).asm.stopping then some .stopped
    else if e.flags &&& 0x10 ≠ 0 then some .reversal
    else if (s.alarm.source .tachFault).state = .pending then some .noPosition
    else none := by
  simp only [State.markerStatus, Option.isNone_iff_eq_none, hasFlag, bne_iff_ne]
  rfl

theorem State.endFinal_eq (s : State) (r : Rail) (f : Finalizing) (status : MarkerStatus) (requested : Bool) :
    s.endFinal r f status requested =
      (let w := s.offered (.assembler r) [.indication (f.record r status requested)]
       if f.cls.severity = 3 then w.raiseReport (.assembler r) .severeIndication (.indication r f.number f.cls.cls)
       else w).modAsm r fun a => { a with list := a.list.erase f.entry } := by
  rw [State.endFinal, State.offer_eq_offered]

theorem State.beginFinal_eq (s : State) (r : Rail) (e : Entry) (cause : FinalCause) : s.beginFinal r e cause =
    let ended := decide (cause = .planEnded ∨ s.inForce = false)
    let c := if ended then endedClass else classify s.plan r e
    { entry := e, cause := if ended then .planEnded else cause, number := s.indicationCounter,
      planId := if ended then 0 else s.plans.active.planId, cls := c, t := s.pos.t, p := s.pos.p, dir := s.pos.dir,
      xStart := min 4294967295 (e.xMin - if s.pos.dir = .decreasing then c.trail else c.lead),
      xEnd := min 4294967295 (e.xMax + if s.pos.dir = .decreasing then c.lead else c.trail), answer := none } := by
  have ended : (cause == .planEnded || !s.inForce) = decide (cause = .planEnded ∨ s.inForce = false) := by
    rw [Bool.decide_or, Bool.beq_eq_decide_eq]
    cases s.inForce <;> rfl
  simp only [State.beginFinal, markInterval_eq, ended]

/-! ## Behind the last entry of an item (R116, R121) -/

theorem State.reportFlush_eq (s : State) (r : Rail) (m : FlushMark) : s.reportFlush r m =
    if m.cause = .flush then s.modReq fun q =>
      { q with flushDone := q.flushDone.set r (q.flushDone.get r ++ [m.tag]) }
    else if m.cause = .switch ∧ m.tag = 0 then s.modPlans fun p =>
      { p with switchDone := p.switchDone.set r (p.switchDone.get r + 1) }
    else if m.cause = .stop ∧ m.tag = 0 then s.modPlans fun p =>
      { p with stopDone := p.stopDone.set r (p.stopDone.get r + 1) }
    else s := by
  obtain ⟨cause, tag⟩ := m
  cases cause <;> by_cases h : tag = 0 <;> simp [State.reportFlush, Both.modify, h]

/-- Settles O38: the finalization begun has the values of this moment, and the cases follow its marker status. -/
theorem finalizingAnEntryTakesItsSteps : Obligations.FinalizingAnEntryTakesItsSteps := by
  intro r after e cause rest s rules ended c noMark lead trail u planId shown record recorded waiting group holds
  have begun : s.beginFinal r e cause = waiting := s.beginFinal_eq r e cause
  have decided : s.drawNumber.markerStatus r e (s.beginFinal r e cause).cls = noMark :=
    begun ▸ s.drawNumber.markerStatus_eq r e c
  have holdsIff (q : ClassRule) : holds q ↔ q.holds e r = true := by
    have bits (g : Nat) (hg : g < 16) : group g = (e.maskGroups r).getLsbD g :=
      (e.getLsbD_maskGroups r g hg).symm
    rw [q.holds_iff]
    refine (and_congr (q.filter.admits_iff r) (and_congr ?_ (and_congr ?_ (and_congr ?_
      (and_congr_left' (q.depthHolds_iff e)))))).symm
    · exact forall₃_congr fun g hg _ => by rw [bits g hg]
    · exact imp_congr_right fun _ => exists_congr fun g => and_congr_right fun hg => by rw [bits g hg]
    · exact forall₃_congr fun g hg _ => by rw [bits g hg]
  refine ⟨⟨fun i q hi hq first => ?_, fun unmatched => ?_⟩, fun status hs => ?_, fun hs _ => ?_, rfl, ?_, fun m => ?_⟩
  · exact classify_of_first s.plan r e i q hi ((holdsIff q).mp hq) fun j q' hj hq' =>
      Bool.eq_false_iff.mpr fun h => first j q' hj hq' ((holdsIff q').mpr h)
  · exact classify_of_none s.plan r e fun q hq => Bool.eq_false_iff.mpr fun h => unmatched q hq ((holdsIff q).mpr h)
  · rw [State.runJob_recorded r after e cause rest s status (decided.trans hs), State.endFinal_eq, begun]
    rfl
  · rw [State.runJob_requested r after e cause rest s (decided.trans hs), begun]
    rfl
  · rw [State.runJob, State.finishJob]
    simp only [insertEntry_eq]
  · rw [State.runJob, State.finishJob]
    exact State.reportFlush_eq _ r m

end Sys2Proof.Machine
end

section
/-! PROOFS. The contributors an entry keeps (R118): merging in arrival order, the eight that go before all others, and
that keeping them stage by stage keeps the same as keeping them at once. -/

namespace Sys2Proof.Machine

/-! ## Which contributor goes before another (R118) -/

theorem Contributor.beats_eq (x y : Contributor) :
    x.beats y = decide (y.peak < x.peak ∨ (x.peak = y.peak ∧ x.arrival < y.arrival)) := by
  rw [Contributor.beats, Bool.decide_or, Bool.decide_and, Bool.beq_eq_decide_eq]

theorem Contributor.beats_iff (x y : Contributor) :
    x.beats y = true ↔ y.peak < x.peak ∨ (x.peak = y.peak ∧ x.arrival < y.arrival) := by
  rw [beats_eq, decide_eq_true_iff]

@[simp] theorem Contributor.beats_self (x : Contributor) : x.beats x = false := by
  simp [Contributor.beats]

theorem Contributor.beats_trans {x y z : Contributor} (h : x.beats y = true) (k : y.beats z = true) :
    x.beats z = true := by
  rw [beats_iff] at *
  omega

/-- The contributors of a list arrived at different times. -/
def distinctArrivals (xs : List Contributor) : Prop := (xs.map Contributor.arrival).Nodup

theorem distinctArrivals.perm {xs ys : List Contributor} (h : distinctArrivals xs) (p : xs.Perm ys) :
    distinctArrivals ys :=
  (p.map _).nodup_iff.mp h

theorem distinctArrivals.sublist {xs ys : List Contributor} (h : distinctArrivals ys) (p : xs.Sublist ys) :
    distinctArrivals xs :=
  List.Nodup.sublist (p.map _) h

/-- Contributors of different arrivals stand in one order of precedence. -/
theorem exists_perm_beats (xs : List Contributor) (h : distinctArrivals xs) :
    ∃ ys : List Contributor, ys.Perm xs ∧ ys.Pairwise fun x y => x.beats y = true := by
  have sorted : (xs.mergeSort fun x y => !y.beats x).Pairwise fun x y => (!y.beats x) = true := by
    refine List.pairwise_mergeSort (fun x y z => ?_) (fun x y => ?_) xs
    · simp only [Bool.not_eq_true', ← Bool.not_eq_true, Contributor.beats_iff]
      omega
    · simp only [Bool.or_eq_true, Bool.not_eq_true', ← Bool.not_eq_true, Contributor.beats_iff]
      omega
  have perm := List.mergeSort_perm xs fun x y => !y.beats x
  refine ⟨_, perm, (sorted.and (List.pairwise_map.mp (h.perm perm.symm))).imp fun {x y} p => ?_⟩
  obtain ⟨notAfter, different⟩ := p
  simp only [Bool.not_eq_true', ← Bool.not_eq_true, Contributor.beats_iff] at *
  omega

/-! ## In order of precedence -/

theorem countP_beats_eq_zero {x c : Contributor} {xs : List Contributor}
    (h : ∀ y ∈ xs, x.beats y = true) (hx : x.beats c = false) : xs.countP (·.beats c) = 0 := by
  refine List.countP_eq_zero.mpr fun y hy before => ?_
  rw [x.beats_trans (h y hy) before] at hx
  exact absurd hx (by decide)

/-- The first `n` in order of precedence are those that fewer than `n` go before. -/
theorem filter_countP_beats_lt (xs : List Contributor) (n : Nat) (h : xs.Pairwise fun x y => x.beats y = true) :
    (xs.filter fun x => decide (xs.countP (·.beats x) < n)) = xs.take n := by
  induction xs generalizing n with
  | nil => simp
  | cons x xs ih =>
    obtain ⟨first, sorted⟩ := List.pairwise_cons.mp h
    have head : (x :: xs).countP (·.beats x) = 0 := by
      simp [countP_beats_eq_zero first x.beats_self]
    cases n with
    | zero => simp
    | succ n =>
      rw [List.filter_cons_of_pos (by simp [head]), List.take_succ_cons, ← ih n sorted]
      refine congrArg (x :: ·) (List.filter_congr fun y hy => ?_)
      simp [first y hy]

/-- Of the first `n` in order of precedence as many go before another as of all, up to `n`. -/
theorem countP_beats_take (xs : List Contributor) (n : Nat) (c : Contributor)
    (h : xs.Pairwise fun x y => x.beats y = true) :
    (xs.take n).countP (·.beats c) = min n (xs.countP (·.beats c)) := by
  induction xs generalizing n with
  | nil => simp
  | cons x xs ih =>
    obtain ⟨first, sorted⟩ := List.pairwise_cons.mp h
    cases n with
    | zero => simp
    | succ n =>
      rw [List.take_succ_cons, List.countP_cons, List.countP_cons, ih n sorted]
      cases hx : x.beats c
      · simp [countP_beats_eq_zero first hx]
      · simp only [if_true]
        omega

/-! ## The contributors kept (R118) -/

theorem keepContributors_eq (xs : List Contributor) :
    keepContributors xs = xs.filter fun x => decide (xs.countP (·.beats x) < 8) := by
  unfold keepContributors
  simp only [List.countP_eq_length_filter]
  split
  · rename_i few
    refine (List.filter_eq_self.mpr fun x hx => decide_eq_true ?_).symm
    have proper : (xs.filter (·.beats x)).length < xs.length :=
      List.length_filter_lt_length_iff_exists.mpr ⟨x, hx, by simp⟩
    exact proper.trans_le few
  · rfl

theorem mem_keepContributors (xs : List Contributor) (c : Contributor) :
    c ∈ keepContributors xs ↔ c ∈ xs ∧ (xs.filter (·.beats c)).length < 8 := by
  rw [keepContributors_eq, List.mem_filter, decide_eq_true_eq, List.countP_eq_length_filter]

theorem keepContributors_sublist (xs : List Contributor) : (keepContributors xs).Sublist xs := by
  rw [keepContributors_eq]
  exact List.filter_sublist

theorem keepContributors_perm {xs ys : List Contributor} (h : xs.Perm ys) :
    (keepContributors xs).Perm (keepContributors ys) := by
  rw [keepContributors_eq, keepContributors_eq]
  simp only [h.countP_eq]
  exact h.filter _

/-- The contributors kept are the first eight in order of precedence. -/
theorem keepContributors_perm_take (xs : List Contributor) (h : distinctArrivals xs) :
    ∃ ys : List Contributor, ys.Perm xs ∧ (ys.Pairwise fun x y => x.beats y = true) ∧
      (keepContributors xs).Perm (ys.take 8) := by
  obtain ⟨ys, perm, sorted⟩ := exists_perm_beats xs h
  refine ⟨ys, perm, sorted, (keepContributors_perm perm.symm).trans ?_⟩
  rw [keepContributors_eq, filter_countP_beats_lt ys 8 sorted]

theorem length_keepContributors (xs : List Contributor) (h : distinctArrivals xs) :
    (keepContributors xs).length = min 8 xs.length := by
  obtain ⟨ys, perm, -, kept⟩ := keepContributors_perm_take xs h
  rw [kept.length_eq, List.length_take, perm.length_eq]

theorem countP_keepContributors (xs : List Contributor) (c : Contributor) (h : distinctArrivals xs) :
    (keepContributors xs).countP (·.beats c) = min 8 (xs.countP (·.beats c)) := by
  obtain ⟨ys, perm, sorted, kept⟩ := keepContributors_perm_take xs h
  rw [kept.countP_eq, countP_beats_take ys 8 c sorted, perm.countP_eq]

/-- What is dropped at one stage goes before nothing that a later stage keeps: the stages may be taken at once. -/
theorem keepContributors_append (xs ys : List Contributor) (h : distinctArrivals xs) :
    keepContributors (keepContributors xs ++ ys) = keepContributors (xs ++ ys) := by
  have ahead (c : Contributor) : (keepContributors xs ++ ys).countP (·.beats c) < 8 ↔
      (xs ++ ys).countP (·.beats c) < 8 := by
    rw [List.countP_append, List.countP_append, countP_keepContributors xs c h]
    omega
  rw [keepContributors_eq (keepContributors xs ++ ys), keepContributors_eq (xs ++ ys)]
  simp only [ahead]
  rw [List.filter_append, List.filter_append, keepContributors_eq xs, List.filter_filter]
  refine congrArg (· ++ _) (List.filter_congr fun c _ => ?_)
  rw [List.countP_append, ← Bool.decide_and]
  exact decide_eq_decide.mpr (by omega)

/-! ## Merging in arrival order (R117) -/

theorem mergeContributors_perm (xs ys : List Contributor) : (mergeContributors xs ys).Perm (xs ++ ys) := by
  induction xs generalizing ys with
  | nil => exact .refl _
  | cons x xs ih =>
    have taken := ys.takeWhile_append_dropWhile (p := fun y => decide (y.arrival < x.arrival))
    conv_rhs => rw [← taken]
    exact List.perm_middle.trans (.cons x (((ih _).append_left _).trans (List.perm_append_comm_assoc _ xs _)))

/-- In arrival order what is not taken before a contributor of another arrival has arrived behind it. -/
theorem arrival_lt_of_mem_dropWhile (x : Contributor) (ys : List Contributor)
    (sorted : ys.Pairwise fun c d => c.arrival < d.arrival) (other : ∀ y ∈ ys, y.arrival ≠ x.arrival) :
    ∀ y ∈ ys.dropWhile (fun y => decide (y.arrival < x.arrival)), x.arrival < y.arrival := by
  induction ys with
  | nil => simp
  | cons z zs ih =>
    obtain ⟨first, sorted⟩ := List.pairwise_cons.mp sorted
    have different := other z List.mem_cons_self
    by_cases h : z.arrival < x.arrival
    · rw [List.dropWhile_cons_of_pos (by simp [h])]
      exact ih sorted fun y hy => other y (List.mem_cons_of_mem z hy)
    · rw [List.dropWhile_cons_of_neg (by simp [h])]
      intro y hy
      rcases List.mem_cons.mp hy with rfl | hy
      · omega
      · have := first y hy
        omega

theorem mergeContributors_sorted (xs ys : List Contributor) (hx : xs.Pairwise fun c d => c.arrival < d.arrival)
    (hy : ys.Pairwise fun c d => c.arrival < d.arrival) (h : distinctArrivals (xs ++ ys)) :
    (mergeContributors xs ys).Pairwise fun c d => c.arrival < d.arrival := by
  induction xs generalizing ys with
  | nil => exact hy
  | cons x xs ih =>
    obtain ⟨first, hx⟩ := List.pairwise_cons.mp hx
    obtain ⟨fresh, distinct⟩ := List.nodup_cons.mp h
    have before := List.dropWhile_sublist (l := ys) fun y => decide (y.arrival < x.arrival)
    have behind := arrival_lt_of_mem_dropWhile x ys hy fun y hy e =>
      fresh (e ▸ List.mem_map_of_mem (List.mem_append_right xs hy))
    have rest := ih _ hx (hy.sublist before) (distinct.sublist ((before.append_left xs).map _))
    have least : ∀ c ∈ mergeContributors xs (ys.dropWhile fun y => decide (y.arrival < x.arrival)),
        x.arrival < c.arrival := fun c hc => by
      rcases List.mem_append.mp ((mergeContributors_perm xs _).mem_iff.mp hc) with hc | hc
      · exact first c hc
      · exact behind c hc
    refine List.pairwise_append.mpr ⟨hy.sublist (List.takeWhile_sublist _), List.pairwise_cons.mpr ⟨least, rest⟩, ?_⟩
    intro c hc d hd
    have early : c.arrival < x.arrival := by simpa using List.mem_takeWhile_imp hc
    rcases List.mem_cons.mp hd with rfl | hd
    · exact early
    · exact early.trans (least d hd)

end Sys2Proof.Machine
end

section
/-! PROOFS. Merges (R117, R118): what several entries merged into one hold. -/

namespace Sys2Proof.Machine

/-! ## Overlap (R115) -/

theorem intervalsMeet_iff (lo hi lo' hi' margin : Nat) :
    intervalsMeet lo hi lo' hi' margin = true ↔ lo ≤ hi' + margin ∧ lo' ≤ hi + margin :=
  decide_eq_true_iff

theorem depthsMeet_iff (u v : Entry) (md : Nat) : depthsMeet u v md = true ↔
    ∀ a b c d, u.dMin = some a → u.dMax = some b → v.dMin = some c → v.dMax = some d → a ≤ d + md ∧ c ≤ b + md := by
  unfold depthsMeet
  split
  · rename_i a b c d ha hb hc hd
    rw [intervalsMeet_iff]
    refine ⟨fun h a' b' c' d' ha' hb' hc' hd' => ?_, fun h => h a b c d ha hb hc hd⟩
    cases ha.symm.trans ha'
    cases hb.symm.trans hb'
    cases hc.symm.trans hc'
    cases hd.symm.trans hd'
    exact h
  · rename_i missing
    exact iff_of_true rfl fun a b c d ha hb hc hd => (missing a b c d ha hb hc hd).elim

theorem Entry.overlaps_iff (u v : Entry) (ma md : Nat) : u.overlaps v ma md = true ↔
    u.xMin ≤ v.xMax + ma ∧ v.xMin ≤ u.xMax + ma ∧
      ∀ a b c d, u.dMin = some a → u.dMax = some b → v.dMin = some c → v.dMax = some d → a ≤ d + md ∧ c ≤ b + md := by
  rw [Entry.overlaps, Bool.and_eq_true, intervalsMeet_iff, depthsMeet_iff, and_assoc]

theorem Entry.overlaps_comm (u v : Entry) (ma md : Nat) : u.overlaps v ma md = v.overlaps u ma md := by
  rw [Bool.eq_iff_iff, overlaps_iff, overlaps_iff, and_left_comm]
  refine and_congr_right fun _ => and_congr_right fun _ => ?_
  exact ⟨fun h a b c d ha hb hc hd => (h c d a b hc hd ha hb).symm,
    fun h a b c d ha hb hc hd => (h c d a b hc hd ha hb).symm⟩

/-! ## Depths and totals of several entries (R117) -/

theorem min?_minDepth (a b : Option Nat) (xs : List Nat) :
    ((minDepth a b).toList ++ xs).min? = (a.toList ++ (b.toList ++ xs)).min? := by
  cases a <;> cases b <;> rfl

theorem max?_maxDepth (a b : Option Nat) (xs : List Nat) :
    ((maxDepth a b).toList ++ xs).max? = (a.toList ++ (b.toList ++ xs)).max? := by
  cases a <;> cases b <;> rfl

/-- A depth joined entry by entry is the best of the depths there are. -/
theorem foldl_merge_depth (depth : Entry → Option Nat) (join : Option Nat → Option Nat → Option Nat)
    (best : List Nat → Option Nat) (merged : ∀ u v : Entry, depth (u.merge v) = join (depth u) (depth v))
    (single : ∀ a : Option Nat, best a.toList = a)
    (joined : ∀ a b xs, best ((join a b).toList ++ xs) = best (a.toList ++ (b.toList ++ xs)))
    (u : Entry) (met : List Entry) : depth (met.foldl Entry.merge u) = best ((u :: met).filterMap depth) := by
  have depths (e : Entry) (es : List Entry) : (e :: es).filterMap depth = (depth e).toList ++ es.filterMap depth := by
    cases h : depth e <;> simp [h]
  induction met generalizing u with
  | nil => rw [depths, List.filterMap_nil, List.append_nil, single]; rfl
  | cons v met ih => rw [List.foldl_cons, ih, depths, depths, depths, merged, joined]

theorem foldl_merge_dMin (u : Entry) (met : List Entry) :
    (met.foldl Entry.merge u).dMin = ((u :: met).filterMap Entry.dMin).min? :=
  foldl_merge_depth _ _ _ (fun _ _ => rfl) (fun a => by cases a <;> rfl) min?_minDepth u met

theorem foldl_merge_dMax (u : Entry) (met : List Entry) :
    (met.foldl Entry.merge u).dMax = ((u :: met).filterMap Entry.dMax).max? :=
  foldl_merge_depth _ _ _ (fun _ _ => rfl) (fun a => by cases a <;> rfl) max?_maxDepth u met

theorem foldl_merge_total (u : Entry) (met : List Entry) (h : met ≠ []) :
    (met.foldl Entry.merge u).total = min 4294967295 (met.foldl (fun n v => n + v.total) u.total) := by
  cases met with
  | nil => exact absurd rfl h
  | cons v met =>
    have saturates (n : Nat) : met.foldl (fun n v => add32 n v.total) (min 4294967295 n) =
        min 4294967295 (met.foldl (fun n v => n + v.total) n) := by
      refine List.foldl_hom (min 4294967295) fun n v => ?_
      simp only [add32, Config.maxU32]
      omega
    exact (List.foldl_hom Entry.total fun _ _ => rfl).symm.trans (saturates (u.total + v.total))

theorem foldl_merge_tJoin (u : Entry) (met : List Entry) : (met.foldl Entry.merge u).tJoin = u.tJoin := by
  induction met generalizing u with
  | nil => rfl
  | cons v met ih => exact ih _

/-! ## Contributors and flags of several entries (R117, R118) -/

theorem foldl_flags_or (met : List Entry) (a b : BitVec 8) :
    met.foldl (fun g v => g ||| v.flags) (a ||| b) = met.foldl (fun g v => g ||| v.flags) a ||| b := by
  induction met generalizing a with
  | nil => rfl
  | cons v met ih => rw [List.foldl_cons, List.foldl_cons, BitVec.or_assoc, BitVec.or_comm b, ← BitVec.or_assoc, ih]

/-- The contributors of several entries, one entry after another. -/
def allContributors (es : List Entry) : List Contributor := es.flatMap Entry.contributors

theorem allContributors_pair (u v : Entry) : allContributors [u, v] = u.contributors ++ v.contributors := by
  simp [allContributors]

theorem allContributors_cons_cons (u v : Entry) (es : List Entry) :
    allContributors (u :: v :: es) = (u.contributors ++ v.contributors) ++ allContributors es := by
  simp [allContributors]

/-- An entry's contributors stand in arrival order. -/
def Entry.inArrivalOrder (e : Entry) : Prop := e.contributors.Pairwise fun c d => c.arrival < d.arrival

/-- An entry holds what a merge of several makes of their contributors and flags. -/
structure Entry.gathers (x u : Entry) (met : List Entry) : Prop where
  ordered : x.inArrivalOrder
  kept : x.contributors.Perm (keepContributors (allContributors (u :: met)))
  flags : x.flags = met.foldl (fun g v => g ||| v.flags) u.flags |||
    if 8 < (allContributors (u :: met)).length then flagTruncated else 0

theorem Entry.merge_flags (u v : Entry) : (u.merge v).flags = u.flags ||| v.flags |||
    if 8 < u.contributors.length + v.contributors.length then flagTruncated else 0 := by
  rw [← List.length_append, ← (mergeContributors_perm u.contributors v.contributors).length_eq]
  show (if (mergeContributors u.contributors v.contributors).length ≤ 8 then _ else _) = _
  by_cases few : (mergeContributors u.contributors v.contributors).length ≤ 8
  · rw [if_pos few, if_neg (not_lt.mpr few)]
    exact BitVec.or_zero.symm
  · rw [if_neg few, if_pos (not_le.mp few)]

theorem Entry.merge_gathers (u v : Entry) (hu : u.inArrivalOrder) (hv : v.inArrivalOrder)
    (h : distinctArrivals (u.contributors ++ v.contributors)) : (u.merge v).gathers u [v] := by
  have merged := mergeContributors_perm u.contributors v.contributors
  refine ⟨(mergeContributors_sorted _ _ hu hv h).sublist (keepContributors_sublist _), ?_, ?_⟩
  · rw [allContributors_pair]
    exact keepContributors_perm merged
  · rw [allContributors_pair, List.length_append]
    exact u.merge_flags v

/-- A stage sets TRUNCATED where it drops contributors, and where any stage does more than eight were merged. -/
theorem truncated_or (m n : Nat) :
    ((if 8 < m then flagTruncated else 0) ||| if 8 < min 8 m + n then flagTruncated else 0) =
      if 8 < m + n then flagTruncated else 0 := by
  by_cases many : 8 < m
  · rw [if_pos many, if_pos (by omega : 8 < m + n)]
    split <;> simp
  · rw [if_neg many, min_eq_right (not_lt.mp many)]
    exact BitVec.zero_or

/-- A merge ahead of the others gathers as all of them do. -/
theorem Entry.gathers.of_merge {x u v : Entry} {met : List Entry}
    (h : distinctArrivals (allContributors (u :: v :: met))) (first : (u.merge v).gathers u [v])
    (rest : x.gathers (u.merge v) met) : x.gathers u (v :: met) := by
  rw [allContributors_cons_cons] at h
  have distinct := h.sublist (List.sublist_append_left _ _)
  have kept := first.kept
  rw [allContributors_pair] at kept
  have length := kept.length_eq.trans (length_keepContributors _ distinct)
  refine ⟨rest.ordered, rest.kept.trans ?_, ?_⟩
  · rw [allContributors_cons_cons, ← keepContributors_append _ _ distinct]
    exact keepContributors_perm (kept.append_right _)
  · have merged : (allContributors (u.merge v :: met)).length =
        min 8 (u.contributors ++ v.contributors).length + (allContributors met).length := by
      rw [← length]
      exact List.length_append
    rw [rest.flags, first.flags, foldl_flags_or, BitVec.or_assoc, allContributors_pair, merged, truncated_or,
      allContributors_cons_cons, List.length_append (bs := allContributors met)]
    rfl

theorem foldl_merge_gathers (u v : Entry) (met : List Entry) (ordered : ∀ e ∈ u :: v :: met, e.inArrivalOrder)
    (h : distinctArrivals (allContributors (u :: v :: met))) :
    (met.foldl Entry.merge (u.merge v)).gathers u (v :: met) := by
  induction met generalizing u v with
  | nil =>
    rw [allContributors_pair] at h
    exact u.merge_gathers v (ordered u (by simp)) (ordered v (by simp)) h
  | cons w met ih =>
    have apart := h
    rw [allContributors_cons_cons] at apart
    have first := u.merge_gathers v (ordered u (by simp)) (ordered v (by simp))
      (apart.sublist (List.sublist_append_left _ _))
    have kept := first.kept
    rw [allContributors_pair] at kept
    refine .of_merge h first (ih (u.merge v) w (fun e he => ?_) ?_)
    · rcases List.mem_cons.mp he with rfl | he
      · exact first.ordered
      · exact ordered e (List.mem_cons_of_mem u (List.mem_cons_of_mem v he))
    · exact (apart.sublist ((keepContributors_sublist _).append_right _)).perm (kept.symm.append_right _)

end Sys2Proof.Machine
end

section
/-! PROOFS. TRACK_SUMMARY (O39): merging until no overlap is left, the list kept ordered and apart, and the summary
taken. -/

namespace Sys2Proof.Machine

/-! ## Merging until no overlap is left (R117) -/

section
variable {ma md : Nat} {u : Entry} {list : List Entry}

theorem absorb_of_none (n : Nat) (h : list.any (fun v => u.overlaps v ma md) = false) :
    absorb ma md n u list = (u, list) := by
  cases n with
  | zero => rfl
  | succ n => exact if_neg (by rw [h]; exact Bool.false_ne_true)

theorem absorb_of_any (n : Nat) (h : list.any (fun v => u.overlaps v ma md) = true) :
    absorb ma md (n + 1) u list = absorb ma md n ((list.filter fun v => u.overlaps v ma md).foldl Entry.merge u)
      (list.filter fun v => !u.overlaps v ma md) :=
  if_pos h

/-- Each stage of a merge leaves a shorter list. -/
theorem length_filter_not_overlaps (h : list.any (fun v => u.overlaps v ma md) = true) :
    (list.filter fun v => !u.overlaps v ma md).length < list.length := by
  obtain ⟨v, hv, overlaps⟩ := List.any_eq_true.mp h
  exact List.length_filter_lt_length_iff_exists.mpr ⟨v, hv, by simp [overlaps]⟩

end

/-- Beyond the length of the list the fuel does not matter. -/
theorem absorb_fuel (ma md n m : Nat) (u : Entry) (list : List Entry) (hn : list.length < n) (hm : list.length < m) :
    absorb ma md n u list = absorb ma md m u list := by
  induction n generalizing m u list with
  | zero => omega
  | succ n ih =>
    obtain ⟨m, rfl⟩ : ∃ k, m = k + 1 := ⟨m - 1, by omega⟩
    cases h : list.any fun v => u.overlaps v ma md
    · rw [absorb_of_none _ h, absorb_of_none _ h]
    · have fewer := length_filter_not_overlaps h
      rw [absorb_of_any _ h, absorb_of_any _ h]
      exact ih m _ _ (by omega) (by omega)

/-- One stage of a merge, and the rest of it by the same rule. -/
theorem absorb_stage (ma md n : Nat) (u : Entry) (list : List Entry) (hn : list.length < n) :
    let met := list.filter fun v => u.overlaps v ma md
    absorb ma md n u list = if met = [] then (u, list) else
      absorb ma md n (met.foldl Entry.merge u) (list.filter fun v => !u.overlaps v ma md) := by
  obtain ⟨n, rfl⟩ : ∃ k, n = k + 1 := ⟨n - 1, by omega⟩
  intro met
  cases h : list.any fun v => u.overlaps v ma md
  · rw [absorb_of_none _ h, if_pos (List.filter_eq_nil_iff.mpr (List.any_eq_false.mp h))]
  · obtain ⟨v, hv, overlaps⟩ := List.any_eq_true.mp h
    have fewer := length_filter_not_overlaps h
    rw [absorb_of_any _ h, if_neg (List.ne_nil_of_mem (List.mem_filter.mpr ⟨hv, overlaps⟩))]
    exact absorb_fuel _ _ _ _ _ _ (by omega) (by omega)

/-- The result overlaps nothing of the list that is left, which is part of the list there was. -/
theorem absorb_spec (ma md n : Nat) (u : Entry) (list : List Entry) (hn : list.length < n) :
    (∀ v ∈ (absorb ma md n u list).2, (absorb ma md n u list).1.overlaps v ma md = false) ∧
      (absorb ma md n u list).2.Sublist list := by
  induction n generalizing u list with
  | zero => omega
  | succ n ih =>
    cases h : list.any fun v => u.overlaps v ma md
    · rw [absorb_of_none _ h]
      exact ⟨by simpa using h, .refl _⟩
    · have fewer := length_filter_not_overlaps h
      rw [absorb_of_any _ h]
      obtain ⟨free, part⟩ := ih _ _ (by omega : (list.filter fun v => !u.overlaps v ma md).length < n)
      exact ⟨free, part.trans List.filter_sublist⟩

theorem length_absorb (ma md n : Nat) (u : Entry) (list : List Entry) (hn : list.length < n + 1)
    (h : list.any (fun v => u.overlaps v ma md) = true) :
    (absorb ma md (n + 1) u list).2.length < list.length := by
  have fewer := length_filter_not_overlaps h
  rw [absorb_of_any _ h]
  exact (absorb_spec ma md n _ _ (by omega)).2.length_le.trans_lt fewer

/-! ## An entry that covers another -/

/-- An entry covers another that has merged into it, at the arrival T of that other. -/
structure Entry.covers (x u : Entry) : Prop where
  tJoin : x.tJoin = u.tJoin
  xMin : x.xMin ≤ u.xMin
  xMax : u.xMax ≤ x.xMax
  peak : u.peak ≤ x.peak
  flags : u.flags &&& x.flags = u.flags

theorem Entry.covers.refl (u : Entry) : u.covers u := ⟨rfl, le_rfl, le_rfl, le_rfl, BitVec.and_self⟩

theorem Entry.covers.trans {x y z : Entry} (h : x.covers y) (k : y.covers z) : x.covers z where
  tJoin := h.tJoin.trans k.tJoin
  xMin := h.xMin.trans k.xMin
  xMax := k.xMax.trans h.xMax
  peak := k.peak.trans h.peak
  flags := by rw [← k.flags, BitVec.and_assoc, h.flags]

theorem Entry.merge_covers (u v : Entry) : (u.merge v).covers u where
  tJoin := rfl
  xMin := min_le_left _ _
  xMax := le_max_left _ _
  peak := le_max_left _ _
  flags := by
    have absorbs (a b : BitVec 8) : a &&& (a ||| b) = a := by
      refine BitVec.eq_of_getLsbD_eq fun i _ => ?_
      rw [BitVec.getLsbD_and, BitVec.getLsbD_or]
      cases a.getLsbD i <;> rfl
    rw [u.merge_flags v, BitVec.or_assoc, absorbs]

theorem Entry.foldl_merge_covers (u : Entry) (met : List Entry) : (met.foldl Entry.merge u).covers u := by
  induction met generalizing u with
  | nil => exact .refl u
  | cons v met ih => exact (ih (u.merge v)).trans (u.merge_covers v)

theorem absorb_covers (ma md n : Nat) (u : Entry) (list : List Entry) : (absorb ma md n u list).1.covers u := by
  induction n generalizing u list with
  | zero => exact .refl u
  | succ n ih =>
    unfold absorb
    split
    · exact (ih _ _).trans (u.foldl_merge_covers _)
    · exact .refl u

/-! ## The list ordered and apart (R113, R116) -/

/-- An entry stands before another in an ordered list of which no two overlap. -/
def Entry.before (ma md : Nat) (u v : Entry) : Prop := u.xMin ≤ v.xMin ∧ u.overlaps v ma md = false

theorem insertEntry_perm (e : Entry) (list : List Entry) : (insertEntry e list).Perm (e :: list) := by
  rw [insertEntry_eq]
  refine List.perm_middle.trans ?_
  rw [List.takeWhile_append_dropWhile]

theorem insertEntry_before (ma md : Nat) (e : Entry) (list : List Entry) (sorted : list.Pairwise (Entry.before ma md))
    (h : ∀ v ∈ list, e.overlaps v ma md = false) : (insertEntry e list).Pairwise (Entry.before ma md) := by
  induction list with
  | nil => exact List.pairwise_singleton _ _
  | cons v vs ih =>
    obtain ⟨first, rest⟩ := List.pairwise_cons.mp sorted
    by_cases le : v.xMin ≤ e.xMin
    · rw [insertEntry, if_pos le]
      refine List.pairwise_cons.mpr ⟨fun w hw => ?_, ih rest fun w hw => h w (List.mem_cons_of_mem v hw)⟩
      rcases List.mem_cons.mp ((insertEntry_perm e vs).mem_iff.mp hw) with rfl | hw
      · exact ⟨le, (Entry.overlaps_comm v w ma md).trans (h v List.mem_cons_self)⟩
      · exact first w hw
    · rw [insertEntry, if_neg le]
      refine List.pairwise_cons.mpr ⟨fun w hw => ⟨?_, h w hw⟩, sorted⟩
      rcases List.mem_cons.mp hw with rfl | hw
      · exact (not_le.mp le).le
      · exact (not_le.mp le).le.trans (first w hw).1

/-- EARLY set on an entry changes neither its place nor what it overlaps. -/
theorem flagEarlyEntry_before (ma md : Nat) (e : Entry) (list : List Entry) (h : list.Pairwise (Entry.before ma md)) :
    (flagEarlyEntry e list).Pairwise (Entry.before ma md) := by
  refine List.pairwise_map.mpr (h.imp fun {u v} before => ?_)
  split <;> split <;> exact before

theorem mem_flagEarlyEntry (e v : Entry) (list : List Entry) (h : v ∈ flagEarlyEntry e list) :
    ∃ w ∈ list, ∀ u ma md, Entry.overlaps u v ma md = Entry.overlaps u w ma md := by
  obtain ⟨w, hw, rfl⟩ := List.mem_map.mp h
  refine ⟨w, hw, ?_⟩
  split <;> exact fun _ _ _ => rfl

theorem earliest_of_ne_nil (list : List Entry) (h : list ≠ []) : ∃ e, earliest list = some e := by
  cases list with
  | nil => exact absurd rfl h
  | cons e es =>
    unfold earliest
    (repeat' split) <;> exact ⟨_, rfl⟩

/-! ## The summary taken (R114, R116, R117) -/

/-- An assembly list of at most 16 entries, ordered by x_min, no two of which overlap. -/
def listApart (ma md : Nat) (list : List Entry) : Prop := list.length ≤ 16 ∧ list.Pairwise (Entry.before ma md)

/-- An entry that overlaps none, inserted where there is room. -/
theorem listApart.insert {ma md : Nat} {list : List Entry} (h : listApart ma md list) (e : Entry)
    (room : list.length < 16) (free : ∀ v ∈ list, e.overlaps v ma md = false) :
    listApart ma md (insertEntry e list) :=
  ⟨(insertEntry_perm e list).length_eq.trans_le room, insertEntry_before ma md e list h.2 free⟩

theorem mem_insertEntry_self (e : Entry) (list : List Entry) : e ∈ insertEntry e list :=
  (insertEntry_perm e list).mem_iff.mpr List.mem_cons_self

@[simp] theorem State.raiseReport_rail (s : State) (who : Raiser) (src : Source) (d : Detail) (r : Rail) :
    (s.raiseReport who src d).rail r = s.rail r := rfl

/-- An entry finalized with no mark request is removed from the list. -/
theorem State.endFinal_asm (s : State) (r : Rail) (f : Finalizing) (status : MarkerStatus) (requested : Bool) :
    ((s.endFinal r f status requested).rail r).asm =
      { (s.rail r).asm with list := (s.rail r).asm.list.erase f.entry } := by
  rw [State.endFinal_eq]
  dsimp only
  split <;> exact State.modAsm_asm_same _ r _

/-- One entry finalized with an insertion behind it: the entry has left the list and the other is inserted, or its mark
request is in hand. -/
theorem State.runJob_insert_asm (s : State) (r : Rail) (u e : Entry) (cause : FinalCause) :
    ((State.runJob r (.insert u) [(e, cause)] s).rail r).asm =
        { (s.rail r).asm with job := none, list := insertEntry u ((s.rail r).asm.list.erase e) } ∨
      ∃ job, ((State.runJob r (.insert u) [(e, cause)] s).rail r).asm = { (s.rail r).asm with job := some job } := by
  cases h : s.drawNumber.markerStatus r e (s.beginFinal r e cause).cls with
  | some status =>
    rw [State.runJob_recorded r _ e cause [] s status h, State.runJob]
    have recorded := s.drawNumber.endFinal_asm r (s.beginFinal r e cause) status false
    refine .inl ((State.modAsm_asm_same _ r _).trans ?_)
    rw [State.raiseReport_rail, State.modAsm_asm_same, recorded]
    rfl
  | none =>
    rw [State.runJob_requested r _ e cause [] s h]
    exact .inr ⟨_, State.modAsm_asm_same _ r _⟩

/-- An arrival in a full list: the entry finalized early makes room, or waits for its mark. -/
theorem State.arriveAlone_asm_full (s : State) (r : Rail) (u : Entry) (ma md : Nat)
    (apart : listApart ma md (s.rail r).asm.list) (full : 16 ≤ (s.rail r).asm.list.length)
    (free : ∀ v ∈ (s.rail r).asm.list, u.overlaps v ma md = false) :
    listApart ma md ((s.arriveAlone r u).rail r).asm.list ∧
      (((s.arriveAlone r u).rail r).asm.job = none → u ∈ ((s.arriveAlone r u).rail r).asm.list) := by
  obtain ⟨e, he⟩ := earliest_of_ne_nil _ (List.ne_nil_of_length_pos (by omega : 0 < (s.rail r).asm.list.length))
  rw [s.arriveAlone_full r u e full he]
  have flagged : listApart ma md (flagEarlyEntry e (s.rail r).asm.list) :=
    ⟨by rw [flagEarlyEntry, List.length_map]; exact apart.1, flagEarlyEntry_before ma md e _ apart.2⟩
  have early : { e with flags := e.flags ||| flagEarly } ∈ flagEarlyEntry e (s.rail r).asm.list :=
    List.mem_map.mpr ⟨e, earliest_mem he, if_pos rfl⟩
  rcases State.runJob_insert_asm (s.modAsm r fun a => { a with list := flagEarlyEntry e a.list }) r u
    { e with flags := e.flags ||| flagEarly } .early with h | ⟨job, h⟩ <;> rw [h, State.modAsm_asm_same]
  · have erased := List.erase_sublist (a := { e with flags := e.flags ||| flagEarly })
      (l := flagEarlyEntry e (s.rail r).asm.list)
    refine ⟨listApart.insert ⟨erased.length_le.trans flagged.1, flagged.2.sublist erased⟩ u ?_ fun v hv => ?_,
      fun _ => mem_insertEntry_self u _⟩
    · have length := List.length_erase_of_mem early
      have bound := flagged.1
      have nonempty := List.length_pos_of_mem early
      omega
    · obtain ⟨w, hw, same⟩ := mem_flagEarlyEntry e v _ (erased.subset hv)
      rw [same, free w hw]
  · exact ⟨flagged, nofun⟩

/-- A summary under a plan: the track arrives at the list with its arrival number. -/
theorem State.takeSummary_inForce (s : State) (r : Rail) (k : Track) (rest : List PathItem) (hf : s.inForce = true) :
    (s.putPath r rest).takeSummary r k =
      ((s.modTrk r fun x => { x with path := rest }).modAsm r fun a => { a with arrivals := a.arrivals + 1 }).arrive r
        (k.entry (s.rail r).asm.arrivals s.pos.t) := by
  have ruled : ((s.putPath r rest).modAsm r fun a => { a with arrivals := a.arrivals + 1 }).inForce = true := hf
  unfold State.takeSummary
  simp only [ruled, if_true]
  cases r <;> rfl

theorem State.arrive_of_any (s : State) (r : Rail) (u : Entry)
    (h : (s.rail r).asm.list.any (fun v => u.overlaps v (Plan.marginA s.plan r) (Plan.marginD s.plan r)) = true) :
    s.arrive r u =
      let res := absorb (Plan.marginA s.plan r) (Plan.marginD s.plan r) ((s.rail r).asm.list.length + 1) u
        (s.rail r).asm.list
      s.modAsm r fun a => { a with list := insertEntry res.1 res.2 } :=
  if_pos h

theorem State.arrive_of_none (s : State) (r : Rail) (u : Entry)
    (h : (s.rail r).asm.list.any (fun v => u.overlaps v (Plan.marginA s.plan r) (Plan.marginD s.plan r)) = false) :
    s.arrive r u = s.arriveAlone r u :=
  if_neg (by rw [h]; exact Bool.false_ne_true)

/-- An arrival leaves the list ordered and apart, and an entry of it covers the arrival unless a mark is awaited. -/
theorem State.arrive_asm (s : State) (r : Rail) (u : Entry)
    (apart : listApart (Plan.marginA s.plan r) (Plan.marginD s.plan r) (s.rail r).asm.list) :
    listApart (Plan.marginA s.plan r) (Plan.marginD s.plan r) ((s.arrive r u).rail r).asm.list ∧
      (((s.arrive r u).rail r).asm.job = none → ∃ e ∈ ((s.arrive r u).rail r).asm.list, e.covers u) := by
  cases h : (s.rail r).asm.list.any fun v => u.overlaps v (Plan.marginA s.plan r) (Plan.marginD s.plan r)
  · have free : ∀ v ∈ (s.rail r).asm.list, u.overlaps v (Plan.marginA s.plan r) (Plan.marginD s.plan r) = false := by
      simpa using h
    rw [s.arrive_of_none r u h]
    by_cases room : (s.rail r).asm.list.length < 16
    · rw [s.arriveAlone_room r u room, State.modAsm_asm_same]
      exact ⟨apart.insert u room free, fun _ => ⟨u, mem_insertEntry_self u _, .refl u⟩⟩
    · obtain ⟨kept, inserted⟩ := s.arriveAlone_asm_full r u _ _ apart (not_lt.mp room) free
      exact ⟨kept, fun idle => ⟨u, inserted idle, .refl u⟩⟩
  · rw [s.arrive_of_any r u h, State.modAsm_asm_same]
    obtain ⟨free, part⟩ := absorb_spec (Plan.marginA s.plan r) (Plan.marginD s.plan r)
      ((s.rail r).asm.list.length + 1) u (s.rail r).asm.list (Nat.lt_succ_self _)
    have shorter := length_absorb _ _ _ u _ (Nat.lt_succ_self _) h
    have rest : listApart _ _ _ := ⟨part.length_le.trans apart.1, apart.2.sublist part⟩
    exact ⟨rest.insert _ (shorter.trans_le apart.1) free,
      fun _ => ⟨_, mem_insertEntry_self _ _, absorb_covers _ _ _ u _⟩⟩

/-- When a summary under a plan is taken. -/
theorem State.pathOpen_summary_iff (s : State) (r : Rail) (k : Track) (hj : (s.rail r).asm.job = none)
    (hf : s.inForce = true) : s.pathOpen r (.summary k) = true ↔
      (.stopBegun ∈ (s.rail r).asm.orders → (s.rail r).asm.list.length < 16 ∨
        (s.rail r).asm.list.any (fun v => (k.entry (s.rail r).asm.arrivals s.pos.t).overlaps v (Plan.marginA s.plan r)
          (Plan.marginD s.plan r)) = true) := by
  rw [State.pathOpen_iff, and_iff_right hj]
  refine imp_congr_right fun _ => ?_
  simp only [State.buildsUnderPlan, hf, Bool.true_and, Bool.and_eq_false_iff, decide_eq_false_iff_not, not_le,
    Bool.not_eq_false']
  rfl

/-- Settles O39: an arrival keeps the list apart, a merge is its stages one after another, and its fields are folds of
those merged. -/
theorem summariesMergeAndKeepTheListOrderedAndApart : Obligations.SummariesMergeAndKeepTheListOrderedAndApart := by
  refine ⟨fun r k rest s hp hj hf => ?_, absorb_stage, Entry.overlaps_iff,
    fun u met nonempty => ?_⟩
  · intro ma md apart arrival list
    have row := exec_trackSummary s r k rest hp
    have opens := s.pathOpen_summary_iff r k hj hf
    let w := (s.modTrk r fun x => { x with path := rest }).modAsm r fun a => { a with arrivals := a.arrivals + 1 }
    have listed : (w.rail r).asm.list = list := by cases r <;> rfl
    have taken : (s.putPath r rest).takeSummary r k = w.arrive r arrival := s.takeSummary_inForce r k rest hf
    refine ⟨fun ordered => ?_, fun any => ?_⟩
    · by_cases opened : s.pathOpen r (.summary k) = true
      · obtain ⟨kept, covered⟩ := w.arrive_asm r arrival (listed.symm ▸ ordered)
        refine ⟨_, row.trans (congrArg Host.Outcome.next ((if_pos opened).trans taken)), kept, fun idle _ => ?_⟩
        obtain ⟨e, he, cover⟩ := covered idle
        exact ⟨e, he, cover.tJoin, cover.xMin, cover.xMax, cover.peak, cover.flags⟩
      · exact ⟨s, row.trans (congrArg Host.Outcome.next (if_neg opened)), ordered,
          fun _ room => absurd (opens.mpr room) opened⟩
    · intro res
      rw [row, if_pos (opens.mpr fun _ => .inr any), taken, w.arrive_of_any r arrival (listed.symm ▸ any), listed]
      simp only [insertEntry_eq]
      cases r <;> rfl
  · intro x all
    refine ⟨(List.foldl_hom Entry.xMin fun _ _ => rfl).symm, (List.foldl_hom Entry.xMax fun _ _ => rfl).symm,
      foldl_merge_dMin u met, foldl_merge_dMax u met, (List.foldl_hom Entry.peak fun _ _ => rfl).symm,
      foldl_merge_tJoin u met, (List.foldl_hom Entry.groups fun _ _ => rfl).symm, foldl_merge_total u met nonempty,
      fun ordered distinct => ?_⟩
    obtain ⟨v, met, rfl⟩ := List.exists_cons_of_ne_nil nonempty
    have gathered : x.gathers u (v :: met) := foldl_merge_gathers u v met ordered distinct
    refine ⟨gathered.flags, gathered.ordered, fun c => ?_⟩
    rw [gathered.kept.mem_iff, mem_keepContributors]
    simp only [Contributor.beats_eq]
    rfl

end Sys2Proof.Machine
end

section
/-! PROOFS. The nozzle outputs of a rail and the MARKER request (O45). -/

namespace Sys2Proof.Machine

/-! ## Outputs (R136) -/

theorem Marker.nozzle_of_getElem? {m : Marker} {j : Nat} {z : Nozzle} (h : m.nozzles[j]? = some z) : m.nozzle j = z := by
  rw [Marker.nozzle, List.getD_eq_getElem?_getD, h, Option.getD_some]

theorem Nozzle.start_spray (z : Nozzle) (d : NozzleDesc) (h : z.desc = some d) (hm : d.mode = .spray) :
    z.start = { z with drive := true } := by
  simp only [Nozzle.start, h, hm]

theorem Nozzle.start_latch (z : Nozzle) (d : NozzleDesc) (h : z.desc = some d) (hm : d.mode = .latch) :
    z.start = { z with drive := true, latched := true } := by
  simp only [Nozzle.start, h, hm]

theorem Nozzle.start_pulse (z : Nozzle) (d : NozzleDesc) (h : z.desc = some d) (hm : d.mode = .pulse) :
    z.start = { z with drive := true, pulse := some d.pulseLength } := by
  simp only [Nozzle.start, h, hm]

theorem Nozzle.finish_spray (z : Nozzle) (d : NozzleDesc) (h : z.desc = some d) (hm : d.mode = .spray) :
    z.finish = { z with drive := z.latched } := by
  simp only [Nozzle.finish, h, hm, if_true]

theorem Nozzle.finish_of_not_spray (z : Nozzle) (d : NozzleDesc) (h : z.desc = some d) (hm : d.mode ≠ .spray) :
    z.finish = z := by
  simp only [Nozzle.finish, h, hm, if_false]

theorem State.nozzleOn_iff (s : State) (r : Rail) (j : Nat) : s.nozzleOn r j = true ↔ s.device ≠ .locked ∧
    (((s.rail r).mrk.nozzle j).drive = true ∨ ((s.rail r).mrk.nozzle j).test.isSome = true) := by
  simp only [State.nozzleOn, Bool.and_eq_true, bne_iff_ne, Bool.or_eq_true]
  rfl

/-! ## A nozzle changed -/

theorem State.modMrk_self (s : State) (r : Rail) (f : Marker → Marker) (h : f (s.rail r).mrk = (s.rail r).mrk) :
    s.modMrk r f = s := by
  rw [s.modMrk_congr r f id h]
  cases r <;> rfl

/-- Only what a change does to the nozzle at its place counts. -/
theorem State.modNozzle_congr (s : State) (r : Rail) (j : Nat) (f g : Nozzle → Nozzle)
    (h : ∀ z, (s.rail r).mrk.nozzles[j]? = some z → f z = g z) : s.modNozzle r j f = s.modNozzle r j g := by
  have same : (s.rail r).mrk.nozzles.modify j f = (s.rail r).mrk.nozzles.modify j g := by
    refine List.ext_getElem? fun i => ?_
    rw [List.getElem?_modify, List.getElem?_modify]
    refine Option.map_congr fun z hz => ?_
    split
    · next e => exact h z (e ▸ hz)
    · rfl
  exact s.modMrk_congr r _ _ (by simp only [same])

theorem State.modNozzle_self (s : State) (r : Rail) (j : Nat) (f : Nozzle → Nozzle)
    (h : ∀ z, (s.rail r).mrk.nozzles[j]? = some z → f z = z) : s.modNozzle r j f = s := by
  rw [s.modNozzle_congr r j f id h]
  exact s.modMrk_self r _ (by simp only [List.modify_id])

/-! ## Timers (R136, R142) -/

theorem exec_pulseTimerExpiry (s : State) (r : Rail) (j n : Nat) (z : Nozzle) (hz : (s.rail r).mrk.nozzles[j]? = some z)
    (hn : z.pulse = some n) : exec (.pulseTimerExpiry r j) s = .next (s.modNozzle r j fun z =>
      { z with pulse := none, drive := if (z.desc.map NozzleDesc.mode).getD .pulse = .pulse then z.latched else z.drive }) := by
  show execPulseTimerExpiry r j s = _
  rw [execPulseTimerExpiry, Marker.nozzle_of_getElem? hz, hn]
  rfl

/-! ## The MARKER request (R142, R143) -/

theorem State.markerTest_out_of_range (s : State) (q : Request)
    (h : 2 ≤ byteAt q.params 0 ∨ 4 ≤ byteAt q.params 1 ∨ byteAt q.params 2 ≠ 0 ∨ u16At q.params 4 = 0 ∨
      2000 < u16At q.params 4) : s.markerTest q = s.refuse q .badParameter := by
  unfold State.markerTest
  dsimp only [Request.marker]
  split
  · rfl
  · next r hr =>
    have := railOfCode_lt hr
    exact if_pos (by omega)

theorem State.markerTest_in_range (s : State) (q : Request) (r : Rail) (hr : railOfCode (byteAt q.params 0) = some r)
    (hj : byteAt q.params 1 < 4) (ha : byteAt q.params 2 = 0) (h1 : 1 ≤ u16At q.params 4)
    (h2 : u16At q.params 4 ≤ 2000) : s.markerTest q =
      if s.inForce = true ∧ (Plan.nozzle s.plan r (byteAt q.params 1)).isNone = true then s.refuse q .badParameter
      else if ((s.rail r).mrk.nozzle (byteAt q.params 1)).test.isSome = true then s.refuse q .busy
      else (s.take q).modNozzle r (byteAt q.params 1) fun z =>
        { z with test := some { index := q.index, duration := u16At q.params 4 } } := by
  unfold State.markerTest
  dsimp only [Request.marker]
  rw [hr]
  exact if_neg (by omega)

theorem State.markerRelease_out_of_range (s : State) (q : Request) (h : 2 ≤ byteAt q.params 0 ∨ 4 ≤ byteAt q.params 1) :
    s.markerRelease q = s.refuse q .badParameter := by
  unfold State.markerRelease
  dsimp only [Request.marker]
  split
  · rfl
  · next r hr =>
    have := railOfCode_lt hr
    exact if_pos (by omega)

theorem Nozzle.release_of_not_latched (z : Nozzle) (spraying : Bool) (h : z.latched = false) : z.release spraying = z := by
  simp [Nozzle.release, h]

theorem Nozzle.release_of_latched (z : Nozzle) (spraying : Bool) (h : z.latched = true) : z.release spraying =
    { z with latched := false,
             drive := ((z.desc.map NozzleDesc.mode) == some .spray && spraying) ||
               ((z.desc.map NozzleDesc.mode) == some .pulse && z.pulse.isSome) } := by
  simp [Nozzle.release, h]

theorem State.modNozzle_release (s : State) (r : Rail) (j : Nat) (spraying : Bool) :
    (s.modNozzle r j fun z => z.release spraying) =
      if ((s.rail r).mrk.nozzle j).latched = true then s.modNozzle r j fun z =>
        { z with latched := false,
                 drive := ((z.desc.map NozzleDesc.mode) == some .spray && spraying) ||
                   ((z.desc.map NozzleDesc.mode) == some .pulse && z.pulse.isSome) }
      else s := by
  split
  · next h => exact s.modNozzle_congr r j _ _ fun z hz => z.release_of_latched _ (Marker.nozzle_of_getElem? hz ▸ h)
  · next h =>
    exact s.modNozzle_self r j _ fun z hz =>
      z.release_of_not_latched _ (Bool.eq_false_iff.mpr (Marker.nozzle_of_getElem? hz ▸ h))

theorem State.markerRelease_in_range (s : State) (q : Request) (r : Rail) (hr : railOfCode (byteAt q.params 0) = some r)
    (hj : byteAt q.params 1 < 4) : s.markerRelease q =
      (s.modNozzle r (byteAt q.params 1) fun z => z.release (sprays (s.rail r).mrk.queue (byteAt q.params 1))).done q
        (leBool ((s.rail r).mrk.nozzle (byteAt q.params 1)).latched) := by
  unfold State.markerRelease
  dsimp only [Request.marker]
  rw [hr]
  exact if_neg (by omega)

/-- Settles O45: the equations of the outputs and timers above, and each form of the request by its owner's effect. -/
theorem nozzleOutputsFollowModesTestsAndReleases : Obligations.NozzleOutputsFollowModesTestsAndReleases := by
  refine ⟨fun r j s _ => s.nozzleOn_iff r j, fun z d hd => ?_, fun r j z s hz => ?_, fun q rest s hs hd hk => ?_⟩
  · refine ⟨fun hm => ⟨z.start_spray d hd hm, z.finish_spray d hd hm⟩, fun hm => ⟨z.start_latch d hd hm, ?_⟩,
      fun hm => ⟨z.start_pulse d hd hm, ?_⟩⟩ <;> exact z.finish_of_not_spray d hd (by simp [hm])
  · refine ⟨fun n hn hmode => ?_, fun n d hn hdesc hmode => ?_, fun hn => ?_, fun k hk => ?_⟩
    · rw [exec_pulseTimerExpiry s r j n z hz hn]
      refine congrArg Host.Outcome.next (s.modNozzle_congr r j _ _ fun y hy => ?_)
      obtain rfl : z = y := Option.some.inj (hz.symm.trans hy)
      rcases hdesc : z.desc with - | d
      · rfl
      · rw [Option.map_some, Option.getD_some, hmode d hdesc, if_pos rfl]
    · rw [exec_pulseTimerExpiry s r j n z hz hn]
      refine congrArg Host.Outcome.next (s.modNozzle_congr r j _ _ fun y hy => ?_)
      obtain rfl : z = y := Option.some.inj (hz.symm.trans hy)
      rw [hdesc, Option.map_some, Option.getD_some, if_neg hmode]
    · show execPulseTimerExpiry r j s = _
      rw [execPulseTimerExpiry, Marker.nozzle_of_getElem? hz, hn]
      rfl
    · show execTestTimerExpiry r j s = _
      rw [execTestTimerExpiry, Marker.nozzle_of_getElem? hz, hk]
  · intro u j ms bad
    have scans : u.device.scans = true := hd
    have test : byteAt q.params 2 ≠ 1 → ∀ w : State, u.markerTest q = w → w.req.scan = rest → w.device = u.device →
        exec .markerTest s = .next (closeScan rest w) := fun ha w hw h1 h2 =>
      congrArg Host.Outcome.next (s.takeRequest_eq q rest _ _ hs (by simpa [hk] using ha) w hw h1 (h2 ▸ scans))
    have release : byteAt q.params 2 = 1 → ∀ w : State, u.markerRelease q = w → w.req.scan = rest → w.device = u.device →
        exec .markerRelease s = .next (closeScan rest w) := fun ha w hw h1 h2 =>
      congrArg Host.Outcome.next (s.takeRequest_eq q rest _ _ hs (by simpa [hk] using ha) w hw h1 (h2 ▸ scans))
    refine ⟨fun ha => ?_, fun ha => ⟨fun bounds => ?_, fun r hr hj h1 h2 => ?_⟩,
      fun ha => ⟨fun bounds => ?_, fun r hr hj => ?_⟩⟩
    · exact test (by omega) _ (u.markerTest_out_of_range q (by omega)) (u.refuse_scan q _) (u.refuse_device q _)
    · exact test (by omega) _ (u.markerTest_out_of_range q (by omega)) (u.refuse_scan q _) (u.refuse_device q _)
    · have taken := u.markerTest_in_range q r hr hj ha h1 h2
      refine ⟨fun hf undefined => ?_, fun defined => ?_⟩
      · have outside : (Plan.nozzle u.plan r j).isNone = true := Option.isNone_iff_eq_none.mpr undefined
        exact test (by omega) _ (taken.trans (if_pos ⟨hf, outside⟩)) (u.refuse_scan q _) (u.refuse_device q _)
      · have inPlan : ¬ (u.inForce = true ∧ (Plan.nozzle u.plan r j).isNone = true) := fun ⟨hf, undefined⟩ =>
          Option.not_isSome_iff_eq_none.mpr (Option.isNone_iff_eq_none.mp undefined) (defined hf)
        rw [if_neg inPlan] at taken
        refine ⟨fun running => ?_, fun free => ?_⟩
        · exact test (by omega) _ (taken.trans (if_pos running)) (u.refuse_scan q _) (u.refuse_device q _)
        · have idle : ¬ ((u.rail r).mrk.nozzle j).test.isSome = true := Option.not_isSome_iff_eq_none.mpr free
          exact test (by omega) _ (taken.trans (if_neg idle)) (u.take_scan q) (u.take_device q)
    · exact release ha _ (u.markerRelease_out_of_range q (by omega)) (u.refuse_scan q _) (u.refuse_device q _)
    · intro z sprays released
      refine release ha _ ?_ ?_ ?_
      · rw [u.markerRelease_in_range q r hr hj, State.modNozzle_release]
        rfl
      · rw [State.done_scan]
        split <;> rfl
      · rw [State.done_device]
        split <;> rfl

end Sys2Proof.Machine
end

section
/-! PROOFS. Going through a marker queue, entry by entry, comes to one offer of records, one row of raises, and one change of
the controller; and with it what a position change does (O42). -/

namespace Sys2Proof.Machine

/-! ## Ends of an interval (R133) -/

theorem Dir.passed_farEnd (d : Dir) (n : Int) (lo hi : Nat) : d.passed n (d.farEnd lo hi) =
    if d = .decreasing then decide (n < lo) else decide ((hi : Int) < n) := by
  cases d <;> rfl

/-! ## Updates of a controller -/

theorem State.modMrk_modMrk (s : State) (r : Rail) (f g : Marker → Marker) :
    (s.modMrk r f).modMrk r g = s.modMrk r fun m => g (f m) := s.modRail_modRail r _ _

/-! ## What a controller has handed on (R144) -/

/-- A state in which a controller has presented records and reported raises, and holds the nozzles given. -/
def State.marked (s : State) (r : Rail) (records : List Rec) (raises : List (Raiser × Report)) (zs : List Nozzle) : State :=
  ((s.offered (.marker r) records).modAlarm fun a => { a with reports := a.reports ++ raises }).modMrk r fun m =>
    { m with nozzles := zs }

/-- The raise of MARKER_UNMARKED for an entry. -/
def MarkEntry.raised (e : MarkEntry) (r : Rail) (reason : UnmarkedReason) : Raiser × Report :=
  (.marker r, .raise .markerUnmarked (.unmarked r e.nozzle reason (e.origins.headD 0)))

section
variable (s : State) (r : Rail) (records more : List Rec) (raises others : List (Raiser × Report)) (zs : List Nozzle)

@[simp] theorem State.marked_mrk :
    ((s.marked r records raises zs).rail r).mrk = { (s.rail r).mrk with nozzles := zs } := by
  rw [State.marked, State.modMrk_mrk_same]
  rfl

theorem State.marked_no_raises :
    s.marked r records [] zs = (s.offered (.marker r) records).modMrk r fun m => { m with nozzles := zs } := by
  simp only [State.marked, State.modAlarm, List.append_nil]

theorem State.marked_start : s.marked r [] [] (s.rail r).mrk.nozzles = s := by
  rw [State.marked_no_raises, State.offered_nil]
  exact s.modMrk_self r _ rfl

/-- What is presented and reported later stands behind what was earlier, and later nozzles replace earlier ones. -/
theorem State.marked_marked (zs' : List Nozzle) : (s.marked r records raises zs).marked r more others zs' =
    s.marked r (records ++ more) (raises ++ others) zs' := by
  have swapped : (s.marked r records raises zs).marked r more others zs' =
      ((((s.offered (.marker r) records).offered (.marker r) more).modAlarm fun a =>
        { a with reports := a.reports ++ raises ++ others }).modMrk r fun m => { m with nozzles := zs }).modMrk r fun m =>
          { m with nozzles := zs' } := rfl
  rw [swapped, State.offered_offered, State.modMrk_modMrk]
  simp only [List.append_assoc]
  rfl

theorem State.markerRecord_marked (e : MarkEntry) (reason : Option UnmarkedReason) :
    (s.marked r records raises zs).markerRecord r e reason = s.markerRecord r e reason := by
  simp only [State.markerRecord, State.marked_mrk]
  rfl

theorem State.unmark_eq_marked (e : MarkEntry) (reason : UnmarkedReason) : s.unmark r e reason =
    s.marked r [.marker (s.markerRecord r e (some reason))] [e.raised r reason] (s.rail r).mrk.nozzles := by
  rw [State.marked, State.modMrk_self, State.unmark, State.offer_eq_offered]
  · rfl
  · rfl

theorem State.marked_unmark (e : MarkEntry) (reason : UnmarkedReason) :
    (s.marked r records raises zs).unmark r e reason =
      s.marked r (records ++ [.marker (s.markerRecord r e (some reason))]) (raises ++ [e.raised r reason]) zs := by
  rw [State.unmark_eq_marked, State.marked_marked, State.markerRecord_marked, State.marked_mrk]

theorem State.sprayed_eq_marked (e : MarkEntry) :
    s.sprayed r e = s.marked r [.marker (s.markerRecord r e none)] [] (s.rail r).mrk.nozzles := by
  rw [State.marked_no_raises, State.modMrk_self, State.sprayed, State.offer_eq_offered]
  rfl

theorem State.marked_sprayed (e : MarkEntry) : (s.marked r records raises zs).sprayed r e =
    s.marked r (records ++ [.marker (s.markerRecord r e none)]) raises zs := by
  rw [State.sprayed_eq_marked, State.marked_marked, State.markerRecord_marked, State.marked_mrk, List.append_nil]

theorem State.marked_modNozzle (j : Nat) (f : Nozzle → Nozzle) :
    (s.marked r records raises zs).modNozzle r j f = s.marked r records raises (zs.modify j f) := by
  rw [State.modNozzle, State.marked, State.modMrk_modMrk]
  rfl

end

/-! ## Lists gone through -/

theorem flatMap_if {α β : Type} (p : α → Bool) (f : α → β) (xs : List α) :
    (xs.flatMap fun x => if p x = true then [f x] else []) = (xs.filter p).map f := by
  induction xs with
  | nil => rfl
  | cons x xs ih => cases h : p x <;> simp [h, ih]

theorem filterMap_if_not {α β : Type} (p : α → Bool) (f : α → β) (xs : List α) :
    (xs.filterMap fun x => if p x = true then none else some (f x)) = (xs.filter fun x => !p x).map f := by
  induction xs with
  | nil => rfl
  | cons x xs ih => cases h : p x <;> simp [h, ih]

/-- A change of one item that keeps what `g` reads keeps what it reads of the whole list. -/
theorem map_modify_of_keeps {α β : Type} (g : α → β) (f : α → α) (h : ∀ x, g (f x) = g x) (xs : List α) (j : Nat) :
    (xs.modify j f).map g = xs.map g := by
  refine List.ext_getElem? fun i => ?_
  rw [List.getElem?_map, List.getElem?_map, List.getElem?_modify]
  cases xs[i]? <;> simp [apply_ite, h]

/-! ## A queue gone through -/

/-- The outputs once the queue `before` has come to `left`: one with no SPRAYING entry left acts on the end of the last it
had (R136). -/
def settledNozzles (before left : List MarkEntry) (zs : List Nozzle) : List Nozzle :=
  (indexed zs).map fun x => if sprays before x.1 && !sprays left x.1 then x.2.finish else x.2

/-- `f` treats each entry of the queue as given: the records and raises it hands on, what it does to the nozzles, whose
positions it leaves as they are, and what it keeps of the entry. -/
structure State.Walk (s : State) (r : Rail) (f : State → MarkEntry → State × Option MarkEntry) (records : MarkEntry → List Rec)
    (raises : MarkEntry → List (Raiser × Report)) (move : MarkEntry → List Nozzle → List Nozzle)
    (kept : MarkEntry → Option MarkEntry) : Prop where
  entry : ∀ e ∈ (s.rail r).mrk.queue, ∀ rs xs zs, zs.map Nozzle.position = (s.rail r).mrk.nozzles.map Nozzle.position →
    f (s.marked r rs xs zs) e = (s.marked r (rs ++ records e) (xs ++ raises e) (move e zs), kept e)
  position : ∀ e zs, (move e zs).map Nozzle.position = zs.map Nozzle.position

section
variable {s : State} {r : Rail} {f : State → MarkEntry → State × Option MarkEntry} {records : MarkEntry → List Rec}
  {raises : MarkEntry → List (Raiser × Report)} {move : MarkEntry → List Nozzle → List Nozzle}
  {kept : MarkEntry → Option MarkEntry}

theorem State.Walk.foldl (w : s.Walk r f records raises move kept) (es : List MarkEntry)
    (hes : ∀ e ∈ es, e ∈ (s.rail r).mrk.queue) (rs : List Rec) (xs : List (Raiser × Report)) (zs : List Nozzle)
    (left : List MarkEntry) (hzs : zs.map Nozzle.position = (s.rail r).mrk.nozzles.map Nozzle.position) :
    es.foldl (fun acc e => ((f acc.1 e).1, acc.2 ++ (f acc.1 e).2.toList)) (s.marked r rs xs zs, left) =
      (s.marked r (rs ++ es.flatMap records) (xs ++ es.flatMap raises) (es.foldl (fun zs e => move e zs) zs),
       left ++ es.filterMap kept) := by
  induction es generalizing rs xs zs left with
  | nil => simp only [List.foldl_nil, List.flatMap_nil, List.filterMap_nil, List.append_nil]
  | cons e es ih =>
    rw [List.foldl_cons, w.entry e (hes e List.mem_cons_self) rs xs zs hzs,
      ih (fun v hv => hes v (List.mem_cons_of_mem e hv)) _ _ _ _ ((w.position e zs).trans hzs)]
    simp only [List.flatMap_cons, List.foldl_cons, List.append_assoc]
    cases h : kept e <;> simp [h]

theorem State.Walk.eachMark (w : s.Walk r f records raises move kept) :
    let queue := (s.rail r).mrk.queue
    s.eachMark r f = (s.marked r (queue.flatMap records) (queue.flatMap raises)
      (settledNozzles queue (queue.filterMap kept) (queue.foldl (fun zs e => move e zs) (s.rail r).mrk.nozzles))).modMrk r
        fun m => { m with queue := queue.filterMap kept } := by
  intro queue
  have run := w.foldl queue (fun _ h => h) [] [] (s.rail r).mrk.nozzles [] rfl
  rw [s.marked_start] at run
  unfold State.eachMark
  dsimp only
  rw [run]
  simp only [State.putQueue, State.marked, State.modMrk_modMrk, List.nil_append]
  rfl

end

/-! ## Position changes (R135) -/

/-- A PENDING entry whose nozzle stands in it. -/
def Marker.starts (m : Marker) (e : MarkEntry) : Bool :=
  e.state == .pending && (m.nozzle e.nozzle).position.any fun n => inside n e.xStart e.xEnd

/-- A SPRAYING entry whose far end its nozzle has passed. -/
def Marker.ends (m : Marker) (e : MarkEntry) : Bool :=
  e.state == .spraying && (m.nozzle e.nozzle).position.any fun n => m.dir.passed n (m.dir.farEnd e.xStart e.xEnd)

theorem State.passEntry_eq (s : State) (r : Rail) (e : MarkEntry) : s.passEntry r e =
    if (s.rail r).mrk.ends e = true then (s.sprayed r e, none)
    else if (s.rail r).mrk.starts e = true then (s.modNozzle r e.nozzle Nozzle.start, some { e with state := .spraying })
    else (s, some e) := by
  unfold State.passEntry Marker.ends Marker.starts
  dsimp only
  cases ((s.rail r).mrk.nozzle e.nozzle).position <;> cases e.state <;> simp

@[simp] theorem Nozzle.start_position (z : Nozzle) : z.start.position = z.position := by
  unfold Nozzle.start
  split
  · rfl
  · split <;> rfl

theorem position_of_map_eq {zs zs' : List Nozzle} (h : zs.map Nozzle.position = zs'.map Nozzle.position) (j : Nat) :
    (zs.getD j .cleared).position = (zs'.getD j .cleared).position := by
  have read (xs : List Nozzle) : (xs.getD j .cleared).position = (xs.map Nozzle.position).getD j none :=
    (List.getD_map xs Nozzle.cleared Nozzle.position).symm
  rw [read, read, h]

theorem State.passEntry_walk (s : State) (r : Rail) :
    let m := (s.rail r).mrk
    s.Walk r (fun s e => s.passEntry r e)
      (fun e => if m.ends e = true then [.marker (s.markerRecord r e none)] else []) (fun _ => [])
      (fun e zs => if m.starts e = true then zs.modify e.nozzle Nozzle.start else zs)
      (fun e => if m.ends e = true then none else some (if m.starts e = true then { e with state := .spraying } else e)) := by
  intro m
  refine ⟨fun e _ rs xs zs hzs => ?_, fun e zs => ?_⟩
  · have ends : ({ m with nozzles := zs } : Marker).ends e = m.ends e := by
      simp only [Marker.ends, Marker.nozzle, position_of_map_eq hzs]
      rfl
    have starts : ({ m with nozzles := zs } : Marker).starts e = m.starts e := by
      simp only [Marker.starts, Marker.nozzle, position_of_map_eq hzs]
      rfl
    have apart : m.ends e = true → m.starts e = false := by
      cases h : e.state <;> simp [Marker.ends, Marker.starts, h]
    rw [State.passEntry_eq, State.marked_mrk, show (s.rail r).mrk = m from rfl, ends, starts, List.append_nil]
    by_cases he : m.ends e = true
    · simp only [he, apart he, if_true, Bool.false_eq_true, if_false, State.marked_sprayed]
    · by_cases hs : m.starts e = true <;> simp [he, hs, State.marked_modNozzle]
  · split
    · exact map_modify_of_keeps _ _ Nozzle.start_position _ _
    · rfl

/-- Settles O42: a position change is one walk through the queue under the nozzles repositioned. -/
theorem positionChangesStartAndCompleteMarks : Obligations.PositionChangesStartAndCompleteMarks := by
  intro r s m
  refine ⟨fun d p rest h => ?_, fun p rest h => ?_⟩
  · show execMarkerDirectionDeclared r s = _
    rw [execMarkerDirectionDeclared, show (s.rail r).mrk.notices = _ from h]
    exact congrArg Host.Outcome.next (State.modMrk_modMrk ..)
  · intro nozzles at_ starts ends left sprays started u
    have row : exec (.positionChange r) s = .next
        (if u.inForce = true then u.eachMark r fun s e => s.passEntry r e else u) := by
      show execPositionChange r s = _
      rw [execPositionChange, show (s.rail r).mrk.notices = _ from h]
      simp only [State.positionChanges, State.putMarkNotices, State.modMrk_modMrk]
      rfl
    have mrk : (u.rail r).mrk = { m with notices := rest, p := p, nozzles := nozzles } := s.modMrk_mrk_same r _
    refine ⟨fun hf => row.trans (congrArg Host.Outcome.next (if_neg (by rw [show u.inForce = false from hf]; nofun))),
      fun hf => row.trans (congrArg Host.Outcome.next ((if_pos hf).trans ?_))⟩
    have hstarts : (u.rail r).mrk.starts = starts := by
      rw [mrk]
      rfl
    have hends : (u.rail r).mrk.ends = ends := by
      rw [mrk]
      funext e
      simp only [Marker.ends, Dir.passed_farEnd]
      rfl
    rw [(u.passEntry_walk r).eachMark, hstarts, hends, mrk]
    have quiet : (m.queue.flatMap fun _ => ([] : List (Raiser × Report))) = [] := by simp
    rw [quiet, flatMap_if, filterMap_if_not, State.marked_no_raises, State.modMrk_modMrk]
    simp only [State.markerRecord, mrk]
    rfl

end Sys2Proof.Machine
end

section
/-! PROOFS. The places of a marker queue, the entries near an interval, and what a merge gathers (R134, R138). -/

namespace Sys2Proof.Machine

/-! ## Travel order (R134) -/

theorem insertMark_eq (d : Dir) (e : MarkEntry) (queue : List MarkEntry) :
    let ahead (v : MarkEntry) : Bool := if d = .decreasing then decide (e.xEnd ≤ v.xEnd) else decide (v.xStart ≤ e.xStart)
    insertMark d e queue = queue.takeWhile ahead ++ e :: queue.dropWhile ahead := by
  intro ahead
  have split (v : MarkEntry) : e.before d v = !ahead v := by
    rw [Bool.eq_iff_iff]
    cases d <;> simp [MarkEntry.before, ahead]
  induction queue with
  | nil => rfl
  | cons v vs ih => cases h : ahead v <;> simp [insertMark, split, h, ih]

theorem insertMark_perm (d : Dir) (e : MarkEntry) (queue : List MarkEntry) : (insertMark d e queue).Perm (e :: queue) := by
  rw [insertMark_eq]
  exact List.perm_middle.trans (.of_eq (by rw [List.takeWhile_append_dropWhile]))

/-! ## Entries near an interval (R134, R138) -/

/-- An entry of a nozzle within a distance of an interval. -/
def MarkEntry.near (v : MarkEntry) (nozzle within lo hi : Nat) : Prop :=
  v.nozzle = nozzle ∧ intervalDistance lo hi v.xStart v.xEnd ≤ within

/-- The next entry of a queue against the nearest so far. -/
def nearStep (nozzle lo hi within : Nat) (best : Option (Nat × Nat)) (x : Nat × MarkEntry) : Option (Nat × Nat) :=
  let d := intervalDistance lo hi x.2.xStart x.2.xEnd
  if x.2.nozzle = nozzle ∧ d ≤ within then
    match best with
    | none => some (d, x.1)
    | some b => if d < b.1 then some (d, x.1) else some b
  else best

/-- The search for the nearest entry finds one that is near, and none only where there is none. -/
theorem nearestWithin_spec (queue : List MarkEntry) (nozzle lo hi within : Nat) :
    (nearestWithin queue nozzle lo hi within = none ∧ ∀ v ∈ queue, ¬ v.near nozzle within lo hi) ∨
      ∃ i e, nearestWithin queue nozzle lo hi within = some i ∧ queue[i]? = some e ∧ e.near nozzle within lo hi := by
  let search (q : List MarkEntry) := (indexed q).foldl (nearStep nozzle lo hi within) none
  suffices h : (search queue = none ∧ ∀ v ∈ queue, ¬ v.near nozzle within lo hi) ∨
      ∃ b e, search queue = some b ∧ queue[b.2]? = some e ∧ e.near nozzle within lo hi by
    rcases h with ⟨found, far⟩ | ⟨b, e, found, he, near⟩
    · exact .inl ⟨congrArg (Option.map Prod.snd) found, far⟩
    · exact .inr ⟨b.2, e, congrArg (Option.map Prod.snd) found, he, near⟩
  induction queue using List.reverseRecOn with
  | nil => exact .inl ⟨rfl, nofun⟩
  | append_singleton q e ih =>
    have next : search (q ++ [e]) = nearStep nozzle lo hi within (search q) (q.length, e) := by
      simp only [search, indexed_concat, List.foldl_append, List.foldl_cons, List.foldl_nil]
    have last : (q ++ [e])[q.length]? = some e := by simp
    rw [next]
    rcases ih with ⟨found, far⟩ | ⟨b, v, found, hv, near⟩ <;> rw [found]
    · by_cases h : e.near nozzle within lo hi
      · exact .inr ⟨_, e, if_pos h, last, h⟩
      · refine .inl ⟨if_neg h, fun v hv => ?_⟩
        rcases List.mem_append.mp hv with hv | hv
        · exact far v hv
        · exact List.mem_singleton.mp hv ▸ h
    · have before : (q ++ [e])[b.2]? = some v := by
        rw [List.getElem?_append_left (List.getElem?_eq_some_iff.mp hv).1, hv]
      by_cases h : e.near nozzle within lo hi
      · refine .inr ?_
        by_cases lt : intervalDistance lo hi e.xStart e.xEnd < b.1
        · exact ⟨_, e, (if_pos h).trans (if_pos lt), last, h⟩
        · exact ⟨b, v, (if_pos h).trans (if_neg lt), before, near⟩
      · exact .inr ⟨b, v, if_neg h, before, near⟩

theorem nearestWithin_isSome_iff (queue : List MarkEntry) (nozzle lo hi within : Nat) :
    (nearestWithin queue nozzle lo hi within).isSome = true ↔ ∃ v ∈ queue, v.near nozzle within lo hi := by
  rcases nearestWithin_spec queue nozzle lo hi within with ⟨found, far⟩ | ⟨i, e, found, he, near⟩ <;> rw [found]
  · simpa using far
  · simpa using ⟨e, List.mem_of_getElem? he, near⟩

theorem nearestWithin_eq_none (queue : List MarkEntry) (nozzle lo hi within : Nat)
    (h : ∀ v ∈ queue, ¬ v.near nozzle within lo hi) : nearestWithin queue nozzle lo hi within = none := by
  rw [← Option.not_isSome_iff_eq_none, nearestWithin_isSome_iff]
  exact fun ⟨v, hv, near⟩ => h v hv near

/-! ## Gathering (R138) -/

section
variable {nozzle within : Nat}

theorem gather_of_far (fuel : Nat) (g : Gathered) (queue : List MarkEntry)
    (h : ∀ v ∈ queue, ¬ v.near nozzle within g.xStart g.xEnd) : gather nozzle within fuel g queue = (g, queue) := by
  cases fuel with
  | zero => rfl
  | succ n => rw [gather, nearestWithin_eq_none _ _ _ _ _ h]

/-- A stage of gathering: nothing is near, or an entry that is near goes in and the rest is gathered on. -/
theorem gather_succ (fuel : Nat) (g : Gathered) (queue : List MarkEntry) :
    (gather nozzle within (fuel + 1) g queue = (g, queue) ∧ ∀ v ∈ queue, ¬ v.near nozzle within g.xStart g.xEnd) ∨
      ∃ i e, queue[i]? = some e ∧ e.near nozzle within g.xStart g.xEnd ∧
        gather nozzle within (fuel + 1) g queue = gather nozzle within fuel (g.add e) (queue.eraseIdx i) := by
  rcases nearestWithin_spec queue nozzle g.xStart g.xEnd within with ⟨found, far⟩ | ⟨i, e, found, he, near⟩
  · exact .inl ⟨by rw [gather, found], far⟩
  · exact .inr ⟨i, e, he, near, by rw [gather, found]; simp only [he]⟩

/-- Where one entry alone is near, and none is near what it makes of the interval, that one goes in. -/
theorem gather_one (fuel : Nat) (g : Gathered) (e : MarkEntry) (others : List MarkEntry)
    (near : e.near nozzle within g.xStart g.xEnd) (far : ∀ v ∈ others, ¬ v.near nozzle within g.xStart g.xEnd)
    (then_far : ∀ v ∈ others, ¬ v.near nozzle within (g.add e).xStart (g.add e).xEnd) :
    gather nozzle within (fuel + 1) g (e :: others) = (g.add e, others) := by
  rcases gather_succ (nozzle := nozzle) (within := within) fuel g (e :: others) with ⟨-, none⟩ | ⟨i, v, hv, hnear, next⟩
  · exact absurd near (none e List.mem_cons_self)
  · cases i with
    | zero =>
      cases hv
      rw [next]
      exact gather_of_far fuel _ _ then_far
    | succ i => exact absurd hnear (far v (List.mem_of_getElem? hv))

/-- What holds before gathering and is kept by each entry that goes in holds of what is gathered and left. -/
theorem gather_induction (P : Gathered → List MarkEntry → Prop)
    (add : ∀ g queue i e, queue[i]? = some e → e.near nozzle within g.xStart g.xEnd → P g queue →
      P (g.add e) (queue.eraseIdx i)) (fuel : Nat) (g : Gathered) (queue : List MarkEntry) (h : P g queue) :
    P (gather nozzle within fuel g queue).1 (gather nozzle within fuel g queue).2 := by
  induction fuel generalizing g queue with
  | zero => exact h
  | succ n ih =>
    rcases gather_succ (nozzle := nozzle) (within := within) n g queue with ⟨same, -⟩ | ⟨i, e, he, near, next⟩
    · rw [same]
      exact h
    · rw [next]
      exact ih _ _ (add g queue i e he near h)

/-- Gathering goes on until nothing is near. -/
theorem gather_far (fuel : Nat) (g : Gathered) (queue : List MarkEntry) (h : queue.length < fuel) :
    ∀ v ∈ (gather nozzle within fuel g queue).2, ¬ v.near nozzle within
      (gather nozzle within fuel g queue).1.xStart (gather nozzle within fuel g queue).1.xEnd := by
  induction fuel generalizing g queue with
  | zero => omega
  | succ n ih =>
    rcases gather_succ (nozzle := nozzle) (within := within) n g queue with ⟨same, far⟩ | ⟨i, e, he, -, next⟩
    · rw [same]
      exact far
    · rw [next]
      obtain ⟨hi, -⟩ := List.getElem?_eq_some_iff.mp he
      exact ih _ _ (by rw [List.length_eraseIdx_of_lt hi]; omega)

end

/-- What gathering from an interval and a queue has come to: what is left of the queue, the extent that covers all that went
in, and the ends of it. -/
structure Gathered.From (nozzle lo hi : Nat) (queue : List MarkEntry) (g : Gathered) (left : List MarkEntry) : Prop where
  sublist : left.Sublist queue
  covers : ∀ v ∈ queue, v ∈ left ∨ (v.nozzle = nozzle ∧ g.xStart ≤ v.xStart ∧ v.xEnd ≤ g.xEnd)
  start_le : g.xStart ≤ lo
  le_end : hi ≤ g.xEnd
  start_from : g.xStart = lo ∨
    ∃ v ∈ queue, v.nozzle = nozzle ∧ g.xStart ≤ v.xStart ∧ v.xEnd ≤ g.xEnd ∧ v.xStart = g.xStart
  end_from : g.xEnd = hi ∨
    ∃ v ∈ queue, v.nozzle = nozzle ∧ g.xStart ≤ v.xStart ∧ v.xEnd ≤ g.xEnd ∧ v.xEnd = g.xEnd

theorem mem_eraseIdx_or_eq {α : Type} {xs : List α} {i : Nat} {e v : α} (he : xs[i]? = some e) (hv : v ∈ xs) :
    v ∈ xs.eraseIdx i ∨ v = e := by
  obtain ⟨hi, rfl⟩ := List.getElem?_eq_some_iff.mp he
  have := (List.getElem_cons_eraseIdx_perm hi).symm.mem_iff.mp hv
  simpa [or_comm] using this

theorem Gathered.From.add {nozzle lo hi : Nat} {queue left : List MarkEntry} {g : Gathered}
    (h : g.From nozzle lo hi queue left) {i : Nat} {e : MarkEntry} (he : left[i]? = some e) (hn : e.nozzle = nozzle) :
    (g.add e).From nozzle lo hi queue (left.eraseIdx i) where
  sublist := (List.eraseIdx_sublist _ _).trans h.sublist
  covers v hv := by
    rcases h.covers v hv with hl | ⟨hj, h1, h2⟩
    · rcases mem_eraseIdx_or_eq he hl with hl | rfl
      · exact .inl hl
      · exact .inr ⟨hn, min_le_right _ _, le_max_right _ _⟩
    · exact .inr ⟨hj, (min_le_left _ _).trans h1, h2.trans (le_max_left _ _)⟩
  start_le := (min_le_left _ _).trans h.start_le
  le_end := h.le_end.trans (le_max_left _ _)
  start_from := by
    have grown : (g.add e).xStart = min g.xStart e.xStart := rfl
    rcases min_choice g.xStart e.xStart with first | first
    · refine h.start_from.imp (fun k => by rw [grown, first, k]) fun ⟨v, hv, hj, h1, h2, h3⟩ => ?_
      exact ⟨v, hv, hj, (min_le_left _ _).trans h1, h2.trans (le_max_left _ _), by rw [grown, first, h3]⟩
    · exact .inr ⟨e, h.sublist.mem (List.mem_of_getElem? he), hn, min_le_right _ _, le_max_right _ _, by rw [grown, first]⟩
  end_from := by
    have grown : (g.add e).xEnd = max g.xEnd e.xEnd := rfl
    rcases max_choice g.xEnd e.xEnd with last | last
    · refine h.end_from.imp (fun k => by rw [grown, last, k]) fun ⟨v, hv, hj, h1, h2, h3⟩ => ?_
      exact ⟨v, hv, hj, (min_le_left _ _).trans h1, h2.trans (le_max_left _ _), by rw [grown, last, h3]⟩
    · exact .inr ⟨e, h.sublist.mem (List.mem_of_getElem? he), hn, min_le_right _ _, le_max_right _ _, by rw [grown, last]⟩

theorem gather_from (nozzle within fuel : Nat) (g : Gathered) (queue : List MarkEntry) :
    (gather nozzle within fuel g queue).1.From nozzle g.xStart g.xEnd queue (gather nozzle within fuel g queue).2 :=
  gather_induction (fun g' left => g'.From nozzle g.xStart g.xEnd queue left)
    (fun _ _ _ _ he near h => h.add he near.1) fuel g queue
    ⟨.refl _, fun _ h => .inl h, le_rfl, le_rfl, .inl rfl, .inl rfl⟩

end Sys2Proof.Machine
end

section
/-! PROOFS. Mark requests and the case each is answered by (O41). -/

namespace Sys2Proof.Machine

/-! ## Passed millimetres (R137, R138) -/

theorem Dir.passed_eq (d : Dir) (n : Int) (x : Nat) :
    d.passed n x = if d = .decreasing then decide (n < x) else decide ((x : Int) < n) := by
  cases d <;> rfl

theorem Dir.nearEnd_eq (d : Dir) (lo hi : Nat) : d.nearEnd lo hi = if d = .decreasing then hi else lo := by
  cases d <;> rfl

theorem Dir.farEnd_eq (d : Dir) (lo hi : Nat) : d.farEnd lo hi = if d = .decreasing then lo else hi := by
  cases d <;> rfl

/-- A stretch has a millimetre outside every interval of a list of at most one, unless it is empty or that one covers it. -/
theorem exists_outside_iff (lo hi : Nat) (ks : List (Nat × Nat)) (h : ks.length ≤ 1) :
    (∃ x, lo ≤ x ∧ x ≤ hi ∧ ∀ k ∈ ks, ¬ (k.1 ≤ x ∧ x ≤ k.2)) ↔ lo ≤ hi ∧ ∀ k ∈ ks, ¬ (k.1 ≤ lo ∧ hi ≤ k.2) := by
  match ks, h with
  | [], _ => exact ⟨fun ⟨x, h1, h2, _⟩ => ⟨h1.trans h2, nofun⟩, fun ⟨h1, _⟩ => ⟨lo, le_rfl, h1, nofun⟩⟩
  | [k], _ =>
    simp only [List.forall_mem_singleton]
    refine ⟨fun ⟨x, h1, h2, h3⟩ => ⟨h1.trans h2, fun _ => h3 (by omega)⟩, fun ⟨h1, h2⟩ => ?_⟩
    by_cases first : k.1 ≤ lo
    · exact ⟨hi, h1, le_rfl, by omega⟩
    · exact ⟨lo, le_rfl, h1, by omega⟩

/-- The passed part of an interval is `[max lo (n + 1), hi]` going down and `[lo, min hi (n - 1)]` going up. -/
theorem uncovered_iff (d : Dir) (n : Int) (lo hi : Nat) (ks : List (Nat × Nat)) (hk : ks.length ≤ 1) (h : lo ≤ hi) :
    uncovered d n lo hi ks = true ↔
      ∃ x, lo ≤ x ∧ x ≤ hi ∧ d.passed n x = true ∧ ∀ k ∈ ks, ¬ (k.1 ≤ x ∧ x ≤ k.2) := by
  by_cases going : d = .decreasing
  · subst going
    have passed (x : Nat) : Dir.passed .decreasing n x = true ↔ n < x := decide_eq_true_iff
    have stretch := exists_outside_iff (max lo (n + 1).toNat) hi ks hk
    simp only [uncovered, passed, Bool.and_eq_true, decide_eq_true_iff, Bool.not_eq_true', List.any_eq_false]
    refine Iff.trans ?_ (stretch.symm.trans ?_)
    · exact and_congr (by omega) (forall₂_congr fun k _ => not_congr (and_congr_left fun _ => by omega))
    · exact exists_congr fun x => by rw [← and_assoc, ← and_assoc, ← and_assoc]; exact and_congr_left fun _ => by omega
  · have up : uncovered d n lo hi ks =
        (decide ((lo : Int) < n) && !ks.any fun k => decide (k.1 ≤ lo ∧ min (hi : Int) (n - 1) ≤ k.2)) :=
      match d, going with
      | .unknown, _ => rfl
      | .increasing, _ => rfl
      | .decreasing, h => absurd rfl h
    have passed (x : Nat) : d.passed n x = true ↔ (x : Int) < n := by
      rw [d.passed_eq, if_neg going, decide_eq_true_iff]
    have stretch := exists_outside_iff lo (min hi (n - 1).toNat) ks hk
    simp only [up, passed, Bool.and_eq_true, decide_eq_true_iff, Bool.not_eq_true', List.any_eq_false]
    by_cases reached : (lo : Int) < n
    · refine Iff.trans ?_ (stretch.symm.trans ?_)
      · exact and_congr (by omega) (forall₂_congr fun k _ => not_congr (and_congr_right fun _ => by omega))
      · exact exists_congr fun x => and_congr_right fun _ => by rw [← and_assoc]; exact and_congr_left fun _ => by omega
    · exact ⟨fun h => absurd h.1 reached, fun ⟨x, h1, _, h2, _⟩ => absurd (lt_of_le_of_lt (by omega) h2) reached⟩

/-! ## Requests judged (R137) -/

theorem State.modAsm_congr (s : State) (r : Rail) (f g : Assembler → Assembler) (h : f (s.rail r).asm = g (s.rail r).asm) :
    s.modAsm r f = s.modAsm r g := by
  have h' : f (s.rails.get r).asm = g (s.rails.get r).asm := h
  simp only [State.modAsm, State.modRail, Both.modify, h']

/-- The job with its request answered. -/
def Job.answered (job : Job) (x : MarkerStatus) : Job := { job with current := { job.current with answer := some x } }

theorem State.answerMark_eq (s : State) (r : Rail) (job : Job) (h : (s.rail r).asm.job = some job) (x : MarkerStatus) :
    s.answerMark r x = s.modAsm r fun a => { a with job := some (job.answered x) } :=
  s.modAsm_congr r _ _ (by rw [h]; rfl)

theorem State.asm_of_outsideQueue {s t : State} {r : Rail} (h : t.outsideQueue r = s.outsideQueue r) :
    (t.rail r).asm = (s.rail r).asm := congrArg Prod.fst h

theorem State.orders_of_outsideQueue {s t : State} {r : Rail} (h : t.outsideQueue r = s.outsideQueue r) :
    (t.rail r).mrk.orders = (s.rail r).mrk.orders := congrArg Prod.snd h

theorem State.rejectMark_eq (s : State) (r : Rail) (job : Job) (h : (s.rail r).asm.job = some job) (e : MarkEntry)
    (reason : UnmarkedReason) (x : MarkerStatus) : s.rejectMark r e reason x =
      (((s.offered (.marker r) [.marker (s.markerRecord r e (some reason))]).raiseReport (.marker r) .markerUnmarked
        (.unmarked r e.nozzle reason (e.origins.headD 0))).modAsm r fun a => { a with job := some (job.answered x) }) := by
  rw [State.rejectMark, State.answerMark_eq _ r job, State.unmark, State.offer_eq_offered]
  rw [State.asm_of_outsideQueue (s.unmark_outsideQueue r e reason), h]

theorem State.takeNozzleChecks_of_other (s : State) (r : Rail) (orders : List MarkerOrder)
    (h : orders.head? ≠ some .nozzleCheck) : State.takeNozzleChecks r orders s = s := by
  rcases orders with - | ⟨- | - | -, rest⟩
  · rfl
  · exact absurd rfl h
  · rfl
  · rfl

/-- A request in hand is judged at once in LOCKED, and where no check of the nozzles waits. -/
theorem exec_markRequest (s : State) (r : Rail) (job : Job) (hj : (s.rail r).asm.job = some job)
    (ha : job.current.answer = none) (h : s.device = .locked ∨ (s.rail r).mrk.orders.head? ≠ some .nozzleCheck) :
    exec (.markRequest r) s = .next (s.judgeRequest r job.current.request) := by
  refine congrArg Host.Outcome.next ?_
  rw [State.answerRequest, hj]
  simp only [ha, Option.isNone_none, if_true]
  rcases h with h | h
  · rw [if_pos h]
  · rw [State.takeNozzleChecks_of_other _ _ _ h, ite_self]

/-- Outside LOCKED a check of the nozzles that waits is carried out first. -/
theorem exec_markRequest_check (s u : State) (r : Rail) (job : Job) (rest : List MarkerOrder)
    (hj : (s.rail r).asm.job = some job) (ha : job.current.answer = none) (hd : s.device ≠ .locked)
    (ho : (s.rail r).mrk.orders = .nozzleCheck :: rest)
    (hu : exec (.nozzleCheck r) s = .next u) : exec (.markRequest r) s = exec (.markRequest r) u := by
  let w := s.putMarkOrders r rest
  obtain rfl : w.checkNozzles r = u := by
    have row : execNozzleCheck r s = .next (w.checkNozzles r) := by rw [execNozzleCheck, ho]
    exact Host.Outcome.next.inj (row.symm.trans hu)
  have outside : (w.checkNozzles r).outsideQueue r = w.outsideQueue r := w.checkNozzles_outsideQueue r
  have asm : ((w.checkNozzles r).rail r).asm = (s.rail r).asm :=
    (State.asm_of_outsideQueue outside).trans (State.modMrk_asm s r r _)
  have orders : ((w.checkNozzles r).rail r).mrk.orders = rest :=
    (State.orders_of_outsideQueue outside).trans (by simp [w, State.putMarkOrders])
  have device : (w.checkNozzles r).device = s.device := by
    rw [← State.view_device, State.checkNozzles_view]
    rfl
  refine congrArg Host.Outcome.next ?_
  rw [State.answerRequest, State.answerRequest, asm, orders, device, hj, ho]
  simp only [ha, Option.isNone_none, if_true, hd, if_false]
  rfl

section
variable (s : State) (r : Rail) (e : MarkEntry)

theorem State.judgeRequest_locked (h : s.device = .locked) : s.judgeRequest r e = s.rejectMark r e .locked .queueFull := by
  rw [State.judgeRequest]
  exact if_pos h

theorem State.judgeRequest_unplaced (hd : s.device ≠ .locked)
    (h : ((s.rail r).mrk.nozzle e.nozzle).position = none ∨ ((s.rail r).mrk.nozzle e.nozzle).desc = none) :
    s.judgeRequest r e = s.rejectMark r e .planEnded .queueFull := by
  rw [State.judgeRequest]
  refine (if_neg hd).trans ?_
  split
  · next n d hn hdesc => simp [hn, hdesc] at h
  · rfl

theorem State.judgeRequest_placed (hd : s.device ≠ .locked) (n : Int) (d : NozzleDesc)
    (hn : ((s.rail r).mrk.nozzle e.nozzle).position = some n) (hdesc : ((s.rail r).mrk.nozzle e.nozzle).desc = some d) :
    s.judgeRequest r e =
      if (s.rail r).mrk.dir.passed n ((s.rail r).mrk.dir.farEnd e.xStart e.xEnd) = true then s.rejectMark r e .late .late
      else if (nearestWithin (s.rail r).mrk.queue e.nozzle e.xStart e.xEnd d.mergeDistance).isSome = true then
        (s.mergeMark r e n d.mergeDistance).answerMark r .merged
      else if 32 ≤ (s.rail r).mrk.queue.length then s.rejectMark r e .queueFull .queueFull
      else (s.insertRequest r e n).answerMark r .queued := by
  rw [State.judgeRequest]
  refine (if_neg hd).trans ?_
  rw [hn, hdesc]
  rfl

/-- An entry placed in the queue: one that comes to spray starts its output. -/
theorem State.placeMark_eq (queue : List MarkEntry) (before : Bool) : s.placeMark r e queue before = s.modMrk r fun m =>
    { m with queue := insertMark (s.rail r).mrk.dir e queue,
             nozzles := if e.state = .spraying ∧ before = false then m.nozzles.modify e.nozzle Nozzle.start
               else m.nozzles } := by
  rw [State.placeMark, State.putQueue]
  split
  · exact State.modMrk_modMrk ..
  · rfl

end

/-- A request not merged, as an entry: it sprays at once where its nozzle stands inside it (R137). -/
theorem State.insertRequest_eq (s : State) (r : Rail) (e : MarkEntry) (n : Int) (hs : e.state = .pending)
    (hb : e.broken = false) :
    let m := (s.rail r).mrk
    s.insertRequest r e n = s.modMrk r fun k =>
      { k with queue := insertMark m.dir
                 { e with state := if inside n e.xStart e.xEnd = true then .spraying else .pending,
                          broken := inside n e.xStart e.xEnd && m.dir.passed n (m.dir.nearEnd e.xStart e.xEnd) } m.queue,
               nozzles := if inside n e.xStart e.xEnd = true then k.nozzles.modify e.nozzle Nozzle.start else k.nozzles } := by
  obtain ⟨nozzle, xStart, xEnd, origins, total, state, broken⟩ := e
  cases hs
  cases hb
  rw [State.insertRequest]
  dsimp only
  cases inside n xStart xEnd
  · exact (if_neg Bool.false_ne_true).trans (s.placeMark_eq r _ _ _)
  · exact (if_pos rfl).trans (s.placeMark_eq r _ _ _)

/-- A request merged (R138). -/
theorem State.mergeMark_eq (s : State) (r : Rail) (e : MarkEntry) (n : Int) (within : Nat) :
    let m := (s.rail r).mrk
    let res := gather e.nozzle within (m.queue.length + 1)
      { xStart := e.xStart, xEnd := e.xEnd, origins := [], originTotal := 0, broken := false, spraying := [] } m.queue
    let x := res.1.entry e.nozzle n (res.1.origins ++ e.origins) (res.1.originTotal + 1)
      (res.1.broken || uncovered m.dir n e.xStart e.xEnd res.1.spraying)
    s.mergeMark r e n within = s.modMrk r fun k =>
      { k with queue := insertMark m.dir x res.2,
               nozzles := if x.state = .spraying ∧ res.1.spraying = [] then k.nozzles.modify e.nozzle Nozzle.start
                 else k.nozzles } := by
  intro m res x
  rw [State.mergeMark, State.placeMark_eq]
  simp only [bne_eq_false_iff_eq]
  rfl

theorem Gathered.entry_eq (g : Gathered) (nozzle : Nat) (n : Int) (origins : List Nat) (total : Nat) (broken : Bool) :
    g.entry nozzle n origins total broken =
      { nozzle := nozzle, xStart := g.xStart, xEnd := g.xEnd, origins := origins.take 4, originTotal := min 65535 total,
        state := if g.spraying ≠ [] ∨ ((g.xStart : Int) ≤ n ∧ n ≤ g.xEnd) then .spraying else .pending, broken := broken } := by
  simp only [Gathered.entry, inside, decide_eq_true_iff]
  rfl

/-- A requested interval as the start of a merge, with no entry gathered yet. -/
def Gathered.ofRequest (lo hi : Nat) : Gathered :=
  { xStart := lo, xEnd := hi, origins := [], originTotal := 0, broken := false, spraying := [] }

/-- Settles O41: each case of the judgement in turn, and what a merge has gathered. -/
theorem markRequestIsAnsweredByTheFirstCase : Obligations.MarkRequestIsAnsweredByTheFirstCase := by
  intro r job s hj ha m j lo hi answered rejected
  have rejects (e : MarkEntry) (he : e = job.current.request) (reason : UnmarkedReason) (x : MarkerStatus)
      (h : exec (.markRequest r) s = .next (s.rejectMark r e reason x)) : rejected reason x := by
    refine h.trans (congrArg Host.Outcome.next ?_)
    rw [he]
    exact s.rejectMark_eq r job hj _ reason x
  refine ⟨fun hd => ?_, fun rest u hd ho hu => exec_markRequest_check s u r job rest hj ha hd ho hu,
    fun hd ho hz => ?_, fun n d hd ho hn hdesc => ?_⟩
  · refine rejects _ rfl _ _ ((exec_markRequest s r job hj ha (.inl hd)).trans ?_)
    rw [s.judgeRequest_locked r _ hd]
  · refine rejects _ rfl _ _ ((exec_markRequest s r job hj ha (.inr ho)).trans ?_)
    rw [s.judgeRequest_unplaced r _ hd hz]
  · intro passed near far close
    have answer (u : State) (hu : (u.rail r).asm = (s.rail r).asm) (x : MarkerStatus) : u.answerMark r x = answered u x :=
      u.answerMark_eq r job (hu ▸ hj) x
    have hpassed (x : Nat) : m.dir.passed n x = passed x := m.dir.passed_eq n x
    have hfar : m.dir.passed n (m.dir.farEnd lo hi) = passed far := by rw [hpassed, Dir.farEnd_eq]
    have some_near : (nearestWithin m.queue j lo hi d.mergeDistance).isSome = true ↔ ∃ v ∈ m.queue, close lo hi v :=
      nearestWithin_isSome_iff ..
    let q := job.current.request
    have judged : exec (.markRequest r) s = .next (
        if passed far = true then s.rejectMark r q .late .late
        else if (nearestWithin m.queue j lo hi d.mergeDistance).isSome = true then
          (s.mergeMark r q n d.mergeDistance).answerMark r .merged
        else if 32 ≤ m.queue.length then s.rejectMark r q .queueFull .queueFull
        else (s.insertRequest r q n).answerMark r .queued) := by
      rw [← hfar]
      exact (exec_markRequest s r job hj ha (.inr ho)).trans
        (congrArg Host.Outcome.next (s.judgeRequest_placed r q hd n d hn hdesc))
    refine ⟨fun late => ?_, fun ahead any => ?_, fun ahead none_near => ?_⟩
    · exact rejects _ rfl _ _ (judged.trans (congrArg Host.Outcome.next (if_pos late)))
    · intro res g e gathered
      have merged : g.From j lo hi m.queue res.2 := 
        gather_from j d.mergeDistance (m.queue.length + 1) (.ofRequest lo hi) m.queue
      have one (v : MarkEntry) (hv : m.queue = [v]) : g = (Gathered.ofRequest lo hi).add v := by
        obtain ⟨u, hu, near⟩ := any
        obtain rfl : u = v := by simpa [hv] using hu
        have alone := gather_one (nozzle := j) (within := d.mergeDistance) 1 (.ofRequest lo hi) u [] near nofun nofun
        simp only [g, res, hv]
        exact congrArg Prod.fst alone
      refine ⟨judged.trans (congrArg Host.Outcome.next ?_), merged.sublist, gather_far _ _ _ (Nat.lt_succ_self _),
        fun v hv => (merged.covers v hv).imp_right fun ⟨hj, h1, h2⟩ => ⟨hv, hj, h1, h2⟩, merged.start_le, merged.le_end,
        merged.start_from.imp_right fun ⟨v, hv, hj, h1, h2, h3⟩ => ⟨v, ⟨hv, hj, h1, h2⟩, h3⟩,
        merged.end_from.imp_right fun ⟨v, hv, hj, h1, h2, h3⟩ => ⟨v, ⟨hv, hj, h1, h2⟩, h3⟩, fun v hv => ?_, fun h1 h2 => ?_⟩
      · rw [if_neg (by rw [ahead]; nofun), if_pos (some_near.mpr any), State.mergeMark_eq, answer _ (State.modMrk_asm ..),
          Gathered.entry_eq]
        rfl
      · rw [one v hv]
        simp [Gathered.add, Gathered.ofRequest]
      · rw [uncovered_iff _ _ _ _ _ h2 h1]
        simp only [hpassed]
    · have unmerged {α : Sort _} (x y z : α) : (if passed far = true then x
          else if (nearestWithin m.queue j lo hi d.mergeDistance).isSome = true then y else z) = z :=
        (if_neg (by rw [ahead]; nofun)).trans
          (if_neg fun h => (some_near.mp h).elim fun v hv => none_near v hv.1 hv.2)
      refine ⟨fun full => ?_, fun room => ?_⟩
      · exact rejects _ rfl _ _ (judged.trans (congrArg Host.Outcome.next ((unmerged ..).trans (if_pos full))))
      · intro inside e ahead
        refine judged.trans (congrArg Host.Outcome.next (((unmerged ..).trans (if_neg (not_le.mpr room))).trans ?_))
        rw [s.insertRequest_eq r q n rfl rfl, answer _ (State.modMrk_asm ..), insertMark_eq, Dir.passed_eq, Dir.nearEnd_eq]
        exact congrArg (answered · .queued) (s.modMrk_congr r _ _ rfl)

end Sys2Proof.Machine
end

section
/-! PROOFS. Merging a queue under a plan's merge distances (R134, R141): the entries that come near one another merge, and
those that come near none are kept. -/

namespace Sys2Proof.Machine

/-! ## Distances (R134) -/

theorem intervalDistance_le_iff {lo hi a b n : Nat} (h : lo ≤ hi) (hab : a ≤ b) :
    intervalDistance lo hi a b ≤ n ↔ a ≤ hi + n ∧ lo ≤ b + n := by
  unfold intervalDistance
  split
  · omega
  · split <;> omega

/-- An interval farther than `n` from two intervals that are within `n` of each other is farther than `n` from what they
make together: a gap of theirs that it could lie in is no wider than `n`. -/
theorem intervalDistance_union {n lo hi a b c d : Nat} (h : lo ≤ hi) (hab : a ≤ b) (hcd : c ≤ d)
    (near : intervalDistance a b c d ≤ n) (h1 : ¬ intervalDistance a b lo hi ≤ n) (h2 : ¬ intervalDistance c d lo hi ≤ n) :
    ¬ intervalDistance (min a c) (max b d) lo hi ≤ n := by
  rw [intervalDistance_le_iff hab hcd] at near
  rw [intervalDistance_le_iff hab h] at h1
  rw [intervalDistance_le_iff hcd h] at h2
  rw [intervalDistance_le_iff (by omega) h]
  omega

/-- Two entries of one nozzle within its distance of each other, given that of each nozzle. -/
def MarkEntry.close (within : Nat → Nat) (u v : MarkEntry) : Prop :=
  u.nozzle = v.nozzle ∧ intervalDistance u.xStart u.xEnd v.xStart v.xEnd ≤ within u.nozzle

theorem MarkEntry.near_iff_close {within : Nat → Nat} {e v : MarkEntry} :
    v.near e.nozzle (within e.nozzle) e.xStart e.xEnd ↔ e.close within v := and_congr_left fun _ => eq_comm

theorem MarkEntry.close_comm {within : Nat → Nat} {u v : MarkEntry} (hu : u.xStart ≤ u.xEnd) (hv : v.xStart ≤ v.xEnd) :
    u.close within v ↔ v.close within u := by
  unfold MarkEntry.close
  rw [intervalDistance_le_iff hu hv, intervalDistance_le_iff hv hu, eq_comm, and_comm (a := v.xStart ≤ _)]
  exact and_congr_right fun h => by rw [h]

/-! ## What gathering keeps away from (R134) -/

theorem Gathered.add_valid {g : Gathered} (v : MarkEntry) (hg : g.xStart ≤ g.xEnd) :
    (g.add v).xStart ≤ (g.add v).xEnd := (min_le_left _ _).trans (hg.trans (le_max_left _ _))

section
variable {nozzle within : Nat} {u : MarkEntry} (hu : u.xStart ≤ u.xEnd)
include hu

theorem Gathered.add_far {g : Gathered} {v : MarkEntry} (hg : g.xStart ≤ g.xEnd) (hv : v.xStart ≤ v.xEnd)
    (near : v.near nozzle within g.xStart g.xEnd) (far : ¬ u.near nozzle within g.xStart g.xEnd)
    (apart : ¬ u.near nozzle within v.xStart v.xEnd) :
    ¬ u.near nozzle within (g.add v).xStart (g.add v).xEnd := fun ⟨hj, h⟩ =>
  intervalDistance_union hu hg hv near.2 (fun h => far ⟨hj, h⟩) (fun h => apart ⟨hj, h⟩) h

/-- An entry that is near neither the interval nor an entry of the queue is not near what they gather to. -/
theorem gather_not_near (fuel : Nat) (g : Gathered) (queue : List MarkEntry) (hg : g.xStart ≤ g.xEnd)
    (far : ¬ u.near nozzle within g.xStart g.xEnd)
    (hq : ∀ v ∈ queue, v.xStart ≤ v.xEnd ∧ (v.nozzle = nozzle → ¬ u.near nozzle within v.xStart v.xEnd)) :
    ¬ u.near nozzle within (gather nozzle within fuel g queue).1.xStart (gather nozzle within fuel g queue).1.xEnd := by
  refine (gather_induction (fun g' left => left.Sublist queue ∧ g'.xStart ≤ g'.xEnd ∧
    ¬ u.near nozzle within g'.xStart g'.xEnd) ?_ fuel g queue ⟨.refl _, hg, far⟩).2.2
  intro g' left i v hv near ⟨part, hg', far'⟩
  obtain ⟨valid, apart⟩ := hq v (part.mem (List.mem_of_getElem? hv))
  exact ⟨(List.eraseIdx_sublist _ _).trans part, Gathered.add_valid v hg',
    Gathered.add_far hu hg' valid near far' (apart near.1)⟩

/-- An entry that nothing else is near stays in the queue that is left, alone as it was. -/
theorem gather_lone (fuel : Nat) (g : Gathered) (queue others : List MarkEntry) (hg : g.xStart ≤ g.xEnd)
    (far : ¬ u.near nozzle within g.xStart g.xEnd) (perm : queue.Perm (u :: others))
    (hq : ∀ v ∈ others, v.xStart ≤ v.xEnd ∧ (v.nozzle = nozzle → ¬ u.near nozzle within v.xStart v.xEnd)) :
    ∃ left, (gather nozzle within fuel g queue).2.Perm (u :: left) ∧ left.Sublist others := by
  refine (gather_induction (fun g' rest => g'.xStart ≤ g'.xEnd ∧ ¬ u.near nozzle within g'.xStart g'.xEnd ∧
    ∃ left, rest.Perm (u :: left) ∧ left.Sublist others) ?_ fuel g queue ⟨hg, far, others, perm, .refl _⟩).2.2
  intro g' rest i v hv near ⟨hg', far', left, hperm, part⟩
  have other : v ≠ u := fun h => far' (h ▸ near)
  have hleft : v ∈ left := (List.mem_cons.mp (hperm.mem_iff.mp (List.mem_of_getElem? hv))).resolve_left other
  obtain ⟨valid, apart⟩ := hq v (part.mem hleft)
  refine ⟨Gathered.add_valid v hg', Gathered.add_far hu hg' valid near far' (apart near.1), left.erase v, ?_,
    List.erase_sublist.trans part⟩
  obtain ⟨hi, rfl⟩ := List.getElem?_eq_some_iff.mp hv
  refine List.Perm.cons_inv ((List.getElem_cons_eraseIdx_perm hi).trans (hperm.trans ?_))
  exact ((List.perm_cons_erase hleft).cons u).trans (.swap ..)

end

/-! ## Stages of a merge (R141, part 4) -/

/-- The merge distance of a nozzle as the controller holds it. -/
def Marker.mergeWithin (m : Marker) (j : Nat) : Nat := ((m.nozzle j).desc.map NozzleDesc.mergeDistance).getD 0

/-- What an entry and what stands behind it in the queue gather to. -/
def Marker.gathering (m : Marker) (e : MarkEntry) (rest : List MarkEntry) : Gathered × List MarkEntry :=
  gather e.nozzle (m.mergeWithin e.nozzle) (rest.length + 1) e.gathered rest

/-- The entry that a merge at a switch forms. -/
def Marker.formed (m : Marker) (e : MarkEntry) (g : Gathered) : MarkEntry :=
  g.entry e.nozzle ((m.nozzle e.nozzle).position.getD (-1)) g.origins g.originTotal g.broken

/-- The state behind a merge: an entry that comes to spray starts its output. -/
def State.afterMerge (s : State) (r : Rail) (x : MarkEntry) (g : Gathered) : State :=
  if x.state = .spraying ∧ g.spraying = [] then s.modNozzle r x.nozzle Nozzle.start else s

section
variable (r : Rail) (fuel : Nat) (e : MarkEntry) (rest kept merged : List MarkEntry) (s : State)

theorem Marker.gathering_of_far (m : Marker) (h : ∀ v ∈ rest, ¬ e.close m.mergeWithin v) :
    m.gathering e rest = (e.gathered, rest) :=
  gather_of_far _ _ _ fun v hv near => h v hv (MarkEntry.near_iff_close.mp near)

theorem Marker.gathering_from (m : Marker) :
    (m.gathering e rest).1.From e.nozzle e.xStart e.xEnd rest (m.gathering e rest).2 :=
  gather_from e.nozzle (m.mergeWithin e.nozzle) (rest.length + 1) e.gathered rest

theorem Marker.length_gathering (m : Marker) (h : ∃ v ∈ rest, e.close m.mergeWithin v) :
    (m.gathering e rest).2.length < rest.length := by
  obtain ⟨v, hv, close⟩ := h
  rcases gather_succ rest.length e.gathered rest with ⟨-, far⟩ | ⟨i, x, hx, -, next⟩
  · exact absurd (MarkEntry.near_iff_close.mpr close) (far v hv)
  · obtain ⟨hi, -⟩ := List.getElem?_eq_some_iff.mp hx
    rw [Marker.gathering, next]
    refine lt_of_le_of_lt (gather_from ..).sublist.length_le ?_
    rw [List.length_eraseIdx_of_lt hi]
    omega

theorem State.remerge_kept (h : ∀ v ∈ rest, ¬ e.close (s.rail r).mrk.mergeWithin v) :
    State.remerge r (fuel + 1) (e :: rest) kept merged s = State.remerge r fuel rest (kept ++ [e]) merged s := by
  have alone := congrArg Prod.snd ((s.rail r).mrk.gathering_of_far e rest h)
  rw [State.remerge]
  exact if_pos (congrArg List.length alone)

theorem State.remerge_merged (h : ∃ v ∈ rest, e.close (s.rail r).mrk.mergeWithin v) :
    State.remerge r (fuel + 1) (e :: rest) kept merged s =
      let m := (s.rail r).mrk
      let res := m.gathering e rest
      State.remerge r fuel res.2 kept (merged ++ [m.formed e res.1]) (s.afterMerge r (m.formed e res.1) res.1) := by
  have shorter := (s.rail r).mrk.length_gathering e rest h
  rw [State.remerge]
  exact if_neg shorter.ne

/-- Entries none of which is near one behind it are all kept. -/
theorem State.remerge_apart (todo : List MarkEntry) (hf : todo.length < fuel)
    (h : todo.Pairwise fun u v => ¬ u.close (s.rail r).mrk.mergeWithin v) :
    State.remerge r fuel todo kept merged s = s.putQueue r (insertMarks (s.rail r).mrk.dir (kept ++ todo) merged) := by
  induction todo generalizing fuel kept with
  | nil =>
    obtain ⟨n, rfl⟩ := Nat.exists_eq_succ_of_ne_zero (by omega : fuel ≠ 0)
    rw [List.append_nil]
    rfl
  | cons e rest ih =>
    obtain ⟨n, rfl⟩ := Nat.exists_eq_succ_of_ne_zero (by omega : fuel ≠ 0)
    obtain ⟨far, apart⟩ := List.pairwise_cons.mp h
    rw [State.remerge_kept r n e rest kept merged s far, ih n (kept ++ [e]) (by simpa using hf) apart, List.append_assoc]
    rfl

end

/-- What holds at the start of a merge of the queue and is kept by each stage holds at its end. -/
theorem State.remerge_induction (r : Rail) (P : List MarkEntry → List MarkEntry → List MarkEntry → State → Prop)
    (kept : ∀ e rest kept merged s, P (e :: rest) kept merged s → (∀ v ∈ rest, ¬ e.close (s.rail r).mrk.mergeWithin v) →
      P rest (kept ++ [e]) merged s)
    (merge : ∀ e rest kept merged s, P (e :: rest) kept merged s → (∃ v ∈ rest, e.close (s.rail r).mrk.mergeWithin v) →
      let m := (s.rail r).mrk
      let res := m.gathering e rest
      P res.2 kept (merged ++ [m.formed e res.1]) (s.afterMerge r (m.formed e res.1) res.1))
    (fuel : Nat) (todo done merged : List MarkEntry) (s : State) (hf : todo.length < fuel) (h : P todo done merged s) :
    ∃ done' merged' s', P [] done' merged' s' ∧
      State.remerge r fuel todo done merged s = s'.putQueue r (insertMarks (s'.rail r).mrk.dir done' merged') := by
  induction fuel generalizing todo done merged s with
  | zero => omega
  | succ n ih =>
    rcases todo with - | ⟨e, rest⟩
    · exact ⟨done, merged, s, h, rfl⟩
    · rw [List.length_cons] at hf
      by_cases any : ∃ v ∈ rest, e.close (s.rail r).mrk.mergeWithin v
      · have shorter := (s.rail r).mrk.length_gathering e rest any
        rw [State.remerge_merged r n e rest done merged s any]
        exact ih _ _ _ _ (by omega) (merge e rest done merged s h any)
      · have far : ∀ v ∈ rest, ¬ e.close (s.rail r).mrk.mergeWithin v := fun v hv close => any ⟨v, hv, close⟩
        rw [State.remerge_kept r n e rest done merged s far]
        exact ih _ _ _ _ (by omega) (kept e rest done merged s h far)

/-! ## What every stage keeps (R134, R141) -/

/-- The queue `left` part way through its merge, under the merge distances `within`: `todo` still to do, `done` done. What is
done is apart from itself and from what is to do; together they cover `left`, and each end of theirs is one of `left`'s. -/
structure Remerging (within : Nat → Nat) (left todo done : List MarkEntry) : Prop where
  valid : ∀ v ∈ todo ++ done, v.xStart ≤ v.xEnd
  aside : ∀ u ∈ done, ∀ v ∈ todo, ¬ u.close within v
  apart : done.Pairwise fun u v => ¬ u.close within v ∧ ¬ v.close within u
  covers : ∀ e ∈ left, ∃ v ∈ todo ++ done, v.nozzle = e.nozzle ∧ v.xStart ≤ e.xStart ∧ e.xEnd ≤ v.xEnd
  first : ∀ v ∈ todo ++ done, ∃ e ∈ left, e.nozzle = v.nozzle ∧ e.xStart = v.xStart
  last : ∀ v ∈ todo ++ done, ∃ e ∈ left, e.nozzle = v.nozzle ∧ e.xEnd = v.xEnd

section
variable {within : Nat → Nat} {left todo done : List MarkEntry}

theorem Remerging.start (valid : ∀ v ∈ left, v.xStart ≤ v.xEnd) : Remerging within left left [] := by
  refine ⟨?_, nofun, .nil, ?_, ?_, ?_⟩ <;> rw [List.append_nil]
  · exact valid
  · exact fun e he => ⟨e, he, rfl, le_rfl, le_rfl⟩
  · exact fun v hv => ⟨v, hv, rfl, rfl⟩
  · exact fun v hv => ⟨v, hv, rfl, rfl⟩

theorem Remerging.perm (h : Remerging within left todo done) {done' : List MarkEntry} (p : done.Perm done') :
    Remerging within left todo done' := by
  have all : ∀ v, v ∈ todo ++ done' ↔ v ∈ todo ++ done := fun v => (p.append_left todo).symm.mem_iff
  refine ⟨fun v hv => h.valid v ((all v).mp hv), fun u hu => h.aside u (p.mem_iff.mpr hu), ?_, fun e he => ?_,
    fun v hv => h.first v ((all v).mp hv), fun v hv => h.last v ((all v).mp hv)⟩
  · exact (p.pairwise_iff And.symm).mp h.apart
  · obtain ⟨v, hv, cover⟩ := h.covers e he
    exact ⟨v, (all v).mpr hv, cover⟩

/-- A stage of the merge: what the first entry and those behind it gather to is done, and what is left of them is to do. -/
theorem Remerging.stage {e : MarkEntry} {rest : List MarkEntry} (h : Remerging within left (e :: rest) done) (m : Marker)
    (hm : m.mergeWithin = within) (x : MarkEntry) (hn : x.nozzle = e.nozzle)
    (hs : x.xStart = (m.gathering e rest).1.xStart) (he : x.xEnd = (m.gathering e rest).1.xEnd) :
    Remerging within left (m.gathering e rest).2 (x :: done) := by
  subst hm
  have part : (m.gathering e rest).1.From e.nozzle e.xStart e.xEnd rest (m.gathering e rest).2 :=
    m.gathering_from e rest
  have far : ∀ v ∈ (m.gathering e rest).2, ¬ v.near x.nozzle (m.mergeWithin x.nozzle) x.xStart x.xEnd := by
    rw [hn, hs, he]
    exact gather_far _ _ _ (Nat.lt_succ_self _)
  have head : e ∈ e :: rest ++ done := List.mem_cons_self
  have tail {v : MarkEntry} (hv : v ∈ rest) : v ∈ e :: rest ++ done := List.mem_cons_of_mem e (List.mem_append_left _ hv)
  have old {v : MarkEntry} (hv : v ∈ done) : v ∈ e :: rest ++ done := List.mem_append_right _ hv
  have origin {v : MarkEntry} (hv : v ∈ (m.gathering e rest).2 ++ x :: done) : v ∈ e :: rest ++ done ∨ v = x := by
    rcases List.mem_append.mp hv with hv | hv
    · exact .inl (tail (part.sublist.mem hv))
    · exact (List.mem_cons.mp hv).symm.imp_left old
  have grown_start : x.xStart ≤ e.xStart := hs ▸ part.start_le
  have grown_end : e.xEnd ≤ x.xEnd := he ▸ part.le_end
  have hx : x.xStart ≤ x.xEnd := grown_start.trans ((h.valid e head).trans grown_end)
  refine ⟨fun v hv => ?_, fun u hu v hv => ?_, List.pairwise_cons.mpr ⟨fun u hu => ?_, h.apart⟩, fun v hv => ?_,
    fun v hv => ?_, fun v hv => ?_⟩
  · exact (origin hv).elim (h.valid v) fun eq => eq ▸ hx
  · rcases List.mem_cons.mp hu with rfl | hu
    · exact fun close => far v hv (MarkEntry.near_iff_close.mpr close)
    · exact h.aside u hu v (List.mem_cons_of_mem e (part.sublist.mem hv))
  · have valid := h.valid u (old hu)
    have away {v : MarkEntry} (hv : v ∈ e :: rest) : ¬ u.near v.nozzle (m.mergeWithin v.nozzle) v.xStart v.xEnd := fun near =>
      h.aside u hu v hv ((MarkEntry.close_comm valid (h.valid v (List.mem_append_left _ hv))).mpr
        (MarkEntry.near_iff_close.mp near))
    have apart : ¬ x.close m.mergeWithin u := by
      rw [← MarkEntry.near_iff_close, hn, hs, he]
      exact gather_not_near valid _ _ _ (h.valid e head) (away List.mem_cons_self) fun v hv =>
        ⟨h.valid v (tail hv), fun hj => hj ▸ away (List.mem_cons_of_mem e hv)⟩
    exact ⟨apart, fun close => apart ((MarkEntry.close_comm valid hx).mp close)⟩
  · obtain ⟨y, hy, hj, h1, h2⟩ := h.covers v hv
    have new : x ∈ (m.gathering e rest).2 ++ x :: done := List.mem_append_right _ List.mem_cons_self
    rcases List.mem_append.mp hy with hy | hy
    · rcases List.mem_cons.mp hy with rfl | hy
      · exact ⟨x, new, hn.trans hj, grown_start.trans h1, h2.trans grown_end⟩
      · rcases part.covers y hy with hy | ⟨hj', h1', h2'⟩
        · exact ⟨y, List.mem_append_left _ hy, hj, h1, h2⟩
        · exact ⟨x, new, (hn.trans hj'.symm).trans hj, (hs ▸ h1').trans h1, h2.trans (he ▸ h2')⟩
    · exact ⟨y, List.mem_append_right _ (List.mem_cons_of_mem x hy), hj, h1, h2⟩
  · rcases origin hv with hv | rfl
    · exact h.first v hv
    · rcases part.start_from with eq | ⟨y, hy, hj, -, -, eq⟩
      · rw [hn, hs, eq]
        exact h.first e head
      · rw [hn, hs, ← eq, ← hj]
        exact h.first y (tail hy)
  · rcases origin hv with hv | rfl
    · exact h.last v hv
    · rcases part.end_from with eq | ⟨y, hy, hj, -, -, eq⟩
      · rw [hn, he, eq]
        exact h.last e head
      · rw [hn, he, ← eq, ← hj]
        exact h.last y (tail hy)

/-! ## Entries that come near no other (R141, part 4) -/

/-- An entry with no other near it is kept, or still to do with no other near it. -/
def MarkEntry.lone (u : MarkEntry) (within : Nat → Nat) (todo kept : List MarkEntry) : Prop :=
  u ∈ kept ∨ ∃ others, todo.Perm (u :: others) ∧ ∀ v ∈ others, ¬ u.close within v

theorem perm_cons_cons_of_ne {e u : MarkEntry} {rest others : List MarkEntry} (p : (e :: rest).Perm (u :: others))
    (ne : e ≠ u) : ∃ others', others.Perm (e :: others') ∧ rest.Perm (u :: others') := by
  have he : e ∈ others := (List.mem_cons.mp (p.mem_iff.mp List.mem_cons_self)).resolve_left ne
  have moved := List.perm_cons_erase he
  exact ⟨_, moved, List.Perm.cons_inv (p.trans ((moved.cons u).trans (.swap ..)))⟩

section
variable {e u : MarkEntry} {rest kept : List MarkEntry} (h : u.lone within (e :: rest) kept)
include h

theorem MarkEntry.lone_of_kept : u.lone within rest (kept ++ [e]) := by
  rcases h with kept | ⟨others, p, far⟩
  · exact .inl (List.mem_append_left _ kept)
  · by_cases eq : e = u
    · exact .inl (by simp [eq])
    · obtain ⟨others', p1, p2⟩ := perm_cons_cons_of_ne p eq
      exact .inr ⟨others', p2, fun v hv => far v (p1.mem_iff.mpr (List.mem_cons_of_mem e hv))⟩

theorem MarkEntry.lone_of_merged (valid : ∀ v ∈ e :: rest, v.xStart ≤ v.xEnd) (m : Marker) (hm : m.mergeWithin = within)
    (any : ∃ v ∈ rest, e.close within v) : u.lone within (m.gathering e rest).2 kept := by
  subst hm
  rcases h with kept | ⟨others, p, far⟩
  · exact .inl kept
  · by_cases eq : e = u
    · subst eq
      obtain ⟨v, hv, close⟩ := any
      exact absurd close (far v (p.cons_inv.mem_iff.mp hv))
    · obtain ⟨others', p1, p2⟩ := perm_cons_cons_of_ne p eq
      have hu : u.xStart ≤ u.xEnd := valid u (p.mem_iff.mpr List.mem_cons_self)
      have other {v : MarkEntry} (hv : v ∈ others) : v.xStart ≤ v.xEnd ∧
          ¬ u.near v.nozzle (m.mergeWithin v.nozzle) v.xStart v.xEnd := by
        have hv' := valid v (p.mem_iff.mpr (List.mem_cons_of_mem u hv))
        rw [MarkEntry.near_iff_close, ← MarkEntry.close_comm hu hv']
        exact ⟨hv', far v hv⟩
      have head := other (p1.mem_iff.mpr List.mem_cons_self)
      obtain ⟨left, perm, part⟩ := gather_lone hu (rest.length + 1) e.gathered rest others' head.1 head.2 p2 fun v hv => by
        have hv := other (p1.mem_iff.mpr (List.mem_cons_of_mem e hv))
        exact ⟨hv.1, fun hj => hj ▸ hv.2⟩
      exact .inr ⟨left, perm, fun v hv => far v (p1.mem_iff.mpr (List.mem_cons_of_mem e (part.mem hv)))⟩

end

end

/-! ## The controller through a merge (R136, R141) -/

theorem Nozzle.start_start (z : Nozzle) : z.start.start = z.start := by
  rcases h : z.desc with - | d
  · simp only [Nozzle.start, h]
  · rcases hm : d.mode <;> simp only [Nozzle.start, h, hm]

@[simp] theorem Nozzle.start_desc (z : Nozzle) : z.start.desc = z.desc := by
  unfold Nozzle.start
  split
  · rfl
  · split <;> rfl

/-- A state with other nozzles, each as it was or started. -/
def State.Started (r : Rail) (w s : State) : Prop :=
  ∃ zs, s = (w.modMrk r fun m => { m with nozzles := zs }) ∧
    ∀ j : Nat, zs[j]? = (w.rail r).mrk.nozzles[j]? ∨ zs[j]? = ((w.rail r).mrk.nozzles[j]?).map Nozzle.start

theorem State.Started.refl (r : Rail) (w : State) : State.Started r w w :=
  ⟨_, (w.modMrk_self r _ rfl).symm, fun _ => .inl rfl⟩

theorem State.Started.mergeWithin {r : Rail} {w s : State} (h : State.Started r w s) :
    (s.rail r).mrk.mergeWithin = (w.rail r).mrk.mergeWithin := by
  obtain ⟨zs, rfl, started⟩ := h
  funext j
  simp only [Marker.mergeWithin, Marker.nozzle, State.modMrk_mrk_same, List.getD_eq_getElem?_getD]
  rcases started j with eq | eq <;> rw [eq]
  cases (w.rail r).mrk.nozzles[j]? <;> simp

theorem State.Started.afterMerge {r : Rail} {w s : State} (h : State.Started r w s) (x : MarkEntry) (g : Gathered) :
    State.Started r w (s.afterMerge r x g) := by
  rw [State.afterMerge]
  split
  · obtain ⟨zs, rfl, started⟩ := h
    refine ⟨zs.modify x.nozzle Nozzle.start, ?_, fun j => ?_⟩
    · rw [State.modNozzle, State.modMrk_modMrk]
    · rw [List.getElem?_modify]
      rcases started j with eq | eq <;> rw [eq] <;> cases (w.rail r).mrk.nozzles[j]? <;>
        by_cases at_ : x.nozzle = j <;> simp [at_, Nozzle.start_start]
  · exact h

theorem insertMarks_perm (d : Dir) (queue es : List MarkEntry) : (insertMarks d queue es).Perm (queue ++ es) := by
  induction es generalizing queue with
  | nil => simp [insertMarks]
  | cons e es ih =>
    refine (ih (insertMark d e queue)).trans (((insertMark_perm d e queue).append_right es).trans ?_)
    exact List.perm_middle.symm

/-- A merge of the queue `left` from `w` on, part way through: the state, the entries, and those that came near no other. -/
structure State.MergeStage (r : Rail) (w : State) (left todo kept merged : List MarkEntry) (s : State) : Prop where
  started : State.Started r w s
  remerging : Remerging (w.rail r).mrk.mergeWithin left todo (kept ++ merged)
  lone : ∀ u : MarkEntry, u.lone (w.rail r).mrk.mergeWithin left [] → u.lone (w.rail r).mrk.mergeWithin todo kept

section
variable {r : Rail} {w s : State} {left rest kept merged : List MarkEntry} {e : MarkEntry}
  (h : State.MergeStage r w left (e :: rest) kept merged s)
include h

theorem State.MergeStage.of_far (far : ∀ v ∈ rest, ¬ e.close (s.rail r).mrk.mergeWithin v) :
    State.MergeStage r w left rest (kept ++ [e]) merged s := by
  have alone := (s.rail r).mrk.gathering_of_far e rest far
  have stage := h.remerging.stage (s.rail r).mrk h.started.mergeWithin e rfl (by rw [alone]; rfl) (by rw [alone]; rfl)
  rw [alone] at stage
  refine ⟨h.started, stage.perm ?_, fun u hu => MarkEntry.lone_of_kept (h.lone u hu)⟩
  rw [List.append_assoc]
  exact List.perm_middle.symm

theorem State.MergeStage.of_close (any : ∃ v ∈ rest, e.close (s.rail r).mrk.mergeWithin v) :
    let m := (s.rail r).mrk
    let res := m.gathering e rest
    State.MergeStage r w left res.2 kept (merged ++ [m.formed e res.1]) (s.afterMerge r (m.formed e res.1) res.1) := by
  intro m res
  refine ⟨h.started.afterMerge _ _, ?_, fun u hu => ?_⟩
  · refine (h.remerging.stage m h.started.mergeWithin (m.formed e res.1) rfl rfl rfl).perm ?_
    rw [← List.append_assoc]
    exact (List.perm_append_singleton _ _).symm
  · exact MarkEntry.lone_of_merged (h.lone u hu) (fun v hv => h.remerging.valid v (List.mem_append_left _ hv)) m
      h.started.mergeWithin (h.started.mergeWithin ▸ any)

end

/-- The merge of a queue of valid entries: what stands in it behind is the queue merged, with each lone entry as it was. -/
theorem State.remerge_spec (r : Rail) (w : State) (left : List MarkEntry) (valid : ∀ v ∈ left, v.xStart ≤ v.xEnd) :
    ∃ queue zs, State.remerge r (left.length + 1) left [] [] w =
        (w.modMrk r fun m => { m with queue := queue, nozzles := zs }) ∧
      Remerging (w.rail r).mrk.mergeWithin left [] queue ∧
      (∀ u : MarkEntry, u.lone (w.rail r).mrk.mergeWithin left [] → u ∈ queue) ∧
      ∀ j : Nat, zs[j]? = (w.rail r).mrk.nozzles[j]? ∨ zs[j]? = ((w.rail r).mrk.nozzles[j]?).map Nozzle.start := by
  obtain ⟨kept, merged, s, ⟨started, remerging, lone⟩, eq⟩ := State.remerge_induction r (State.MergeStage r w left)
    (fun _ _ _ _ _ h far => h.of_far far) (fun _ _ _ _ _ h any => h.of_close any) (left.length + 1) left [] [] w
    (Nat.lt_succ_self _) ⟨.refl r w, .start valid, fun _ h => h⟩
  have all : (kept ++ merged).Perm (insertMarks (s.rail r).mrk.dir kept merged) := (insertMarks_perm _ _ _).symm
  obtain ⟨zs, rfl, nozzles⟩ := started
  refine ⟨_, zs, eq.trans (State.modMrk_modMrk ..), remerging.perm all, fun u hu => ?_, nozzles⟩
  rcases lone u hu with mem | ⟨others, p, -⟩
  · exact all.mem_iff.mp (List.mem_append_left _ mem)
  · exact absurd p.length_eq (by simp)

end Sys2Proof.Machine
end

section
/-! PROOFS. Presets, and the three parts of a nozzle check that go through the queue: the entries removed, the nozzles brought
under the new plan, and the entries judged afresh (R140, R141). -/

namespace Sys2Proof.Machine

theorem getElem?_indexed {α : Type} (xs : List α) (j : Nat) : (indexed xs)[j]? = xs[j]?.map fun x => (j, x) := by
  rcases h : xs[j]? with - | x
  · rw [Option.map_none, List.getElem?_eq_none_iff]
    simpa [indexed] using h
  · obtain ⟨hj, -⟩ := List.getElem?_eq_some_iff.mp h
    exact List.getElem?_zip_eq_some.mpr ⟨List.getElem?_range hj, h⟩

theorem getElem?_map_indexed {α β : Type} (f : Nat × α → β) (xs : List α) (j : Nat) :
    ((indexed xs).map f)[j]? = xs[j]?.map fun x => f (j, x) := by
  rw [List.getElem?_map, getElem?_indexed, Option.map_map]
  rfl

/-- Whether a nozzle has a SPRAYING entry depends on the nozzles and the states of the entries. -/
theorem sprays_map (f : MarkEntry → MarkEntry) (h : ∀ e, (f e).nozzle = e.nozzle ∧ (f e).state = e.state)
    (queue : List MarkEntry) (j : Nat) : sprays (queue.map f) j = sprays queue j := by
  simp only [sprays, List.any_map, Function.comp_def, h]

/-! ## Presets (R140) -/

/-- An entry that a preset takes wholly beyond a limit. -/
def MarkEntry.beyond (e : MarkEntry) (delta : Int) : Bool :=
  decide ((e.xEnd : Int) + delta < 0) || decide ((4294967295 : Int) < (e.xStart : Int) + delta)

/-- An entry translated by a preset, and shortened where it reaches across a limit. -/
def MarkEntry.translated (e : MarkEntry) (delta : Int) : MarkEntry :=
  { e with xStart := clampPos ((e.xStart : Int) + delta), xEnd := clampPos ((e.xEnd : Int) + delta),
           broken := e.broken || offScale ((e.xStart : Int) + delta) || offScale ((e.xEnd : Int) + delta) }

theorem State.translateEntry_eq (s : State) (r : Rail) (delta : Int) (e : MarkEntry) : s.translateEntry r delta e =
    if e.beyond delta = true then (s.unmark r e .presetLimit, none) else (s, some (e.translated delta)) := by
  simp only [MarkEntry.beyond, Bool.or_eq_true, decide_eq_true_iff]
  rfl

theorem State.translateEntry_walk (s : State) (r : Rail) (delta : Int) : s.Walk r (fun s e => s.translateEntry r delta e)
    (fun e => if e.beyond delta = true then [.marker (s.markerRecord r e (some .presetLimit))] else [])
    (fun e => if e.beyond delta = true then [e.raised r .presetLimit] else []) (fun _ zs => zs)
    (fun e => if e.beyond delta = true then none else some (e.translated delta)) := by
  refine ⟨fun e _ rs xs zs _ => ?_, fun _ _ => rfl⟩
  rw [State.translateEntry_eq]
  split
  · rw [State.marked_unmark]
  · simp only [List.append_nil]

theorem State.translate_eq (s : State) (r : Rail) (delta : Int) :
    let m := (s.rail r).mrk
    let stays := m.queue.filter fun e => !e.beyond delta
    s.eachMark r (fun s e => s.translateEntry r delta e) =
      (s.unmarked r .presetLimit (m.queue.filter fun e => e.beyond delta)).modMrk r fun k =>
        { k with queue := stays.map fun e => e.translated delta, nozzles := settledNozzles m.queue stays m.nozzles } := by
  intro m stays
  have same (zs : List Nozzle) : settledNozzles m.queue (stays.map fun e => e.translated delta) zs =
      settledNozzles m.queue stays zs := by
    simp only [settledNozzles, sprays_map (fun e => e.translated delta) fun _ => ⟨rfl, rfl⟩]
  rw [(s.translateEntry_walk r delta).eachMark, flatMap_if, flatMap_if, filterMap_if_not, List.foldl_fixed, same]
  exact State.modMrk_modMrk ..

/-! ## Entries removed and nozzles brought under a plan (R141, parts 1 and 2) -/

section
variable (s : State) (r : Rail)

/-- The descriptor that the plan gives a nozzle of a rail. -/
def State.descAt (j : Nat) : Option NozzleDesc := if j < 4 then Plan.nozzle s.plan r j else none

/-- The entries of the queue whose nozzles the plan defines. -/
def State.staying : List MarkEntry := (s.rail r).mrk.queue.filter fun e => (s.descAt r e.nozzle).isSome

/-- The entries of the queue whose nozzles the plan does not define. -/
def State.leaving : List MarkEntry := (s.rail r).mrk.queue.filter fun e => (s.descAt r e.nozzle).isNone

theorem any_filter_nozzle (p : Nat → Bool) (q : MarkEntry → Bool) (queue : List MarkEntry) (j : Nat) :
    ((queue.filter fun e => p e.nozzle).any fun e => e.nozzle == j && q e) =
      (p j && queue.any fun e => e.nozzle == j && q e) := by
  rw [List.any_filter]
  induction queue with
  | nil => exact (Bool.and_false _).symm
  | cons e es ih =>
    rw [List.any_cons, List.any_cons, ih]
    by_cases h : e.nozzle = j
    · cases hp : p j <;> simp [h, hp]
    · simp [beq_eq_false_iff_ne.mpr h]

theorem State.sprays_staying (j : Nat) :
    sprays (s.staying r) j = ((s.descAt r j).isSome && sprays (s.rail r).mrk.queue j) :=
  any_filter_nozzle (fun j => (s.descAt r j).isSome) (fun e => e.state == .spraying) _ j

theorem State.any_leaving (j : Nat) : ((s.leaving r).any fun e => e.nozzle == j) =
    ((s.descAt r j).isNone && (s.rail r).mrk.queue.any fun e => e.nozzle == j) := by
  simpa only [Bool.and_true, State.leaving] using
    any_filter_nozzle (fun j => (s.descAt r j).isNone) (fun _ => true) (s.rail r).mrk.queue j

/-- The nozzles with the outputs of the removed entries cleared. -/
def State.clearedNozzles : List Nozzle :=
  (s.leaving r).foldl (fun zs e => zs.modify e.nozzle Nozzle.clearOutput) (s.rail r).mrk.nozzles

theorem foldl_clear_getElem? (es : List MarkEntry) (zs : List Nozzle) (j : Nat) :
    (es.foldl (fun zs e => zs.modify e.nozzle Nozzle.clearOutput) zs)[j]? =
      zs[j]?.map fun z => if (es.any fun e => e.nozzle == j) = true then z.clearOutput else z := by
  induction es generalizing zs with
  | nil => simp
  | cons e es ih =>
    rw [List.foldl_cons, ih, List.getElem?_modify, List.any_cons]
    cases zs[j]? with
    | none => rfl
    | some z =>
      by_cases h : e.nozzle = j <;> cases es.any fun e => e.nozzle == j <;> simp [h, Nozzle.clearOutput]

theorem State.clearUndefined_walk (descs : List (Option NozzleDesc)) (h : ∀ j, descs.getD j none = s.descAt r j) :
    s.Walk r (fun s e => if (descs.getD e.nozzle none).isNone then
        ((s.unmark r e .planSwitch).modNozzle r e.nozzle Nozzle.clearOutput, none) else (s, some e))
      (fun e => if (s.descAt r e.nozzle).isNone = true then [.marker (s.markerRecord r e (some .planSwitch))] else [])
      (fun e => if (s.descAt r e.nozzle).isNone = true then [e.raised r .planSwitch] else [])
      (fun e zs => if (s.descAt r e.nozzle).isNone = true then zs.modify e.nozzle Nozzle.clearOutput else zs)
      (fun e => if (s.descAt r e.nozzle).isNone = true then none else some e) := by
  refine ⟨fun e _ rs xs zs _ => ?_, fun e zs => ?_⟩
  · rw [h]
    split
    · rw [State.marked_unmark, State.marked_modNozzle]
    · simp only [List.append_nil]
  · split
    · exact map_modify_of_keeps Nozzle.position Nozzle.clearOutput (fun _ => rfl) _ _
    · rfl

theorem State.removeUndefined_eq (hf : s.inForce = true) : s.removeUndefined r (s.nozzleDescs r) =
    (s.marked r ((s.leaving r).map fun e => .marker (s.markerRecord r e (some .planSwitch)))
      ((s.leaving r).map fun e => e.raised r .planSwitch)
      (settledNozzles (s.rail r).mrk.queue (s.staying r) (s.clearedNozzles r))).modMrk r fun m =>
        { m with queue := s.staying r } := by
  have kept : ((s.rail r).mrk.queue.filterMap fun e => if (s.descAt r e.nozzle).isNone = true then none else some e) =
      s.staying r := by
    have := filterMap_if_not (fun e : MarkEntry => (s.descAt r e.nozzle).isNone) id (s.rail r).mrk.queue
    simpa [State.staying] using this
  have cleared : ((s.rail r).mrk.queue.foldl (fun zs e => if (s.descAt r e.nozzle).isNone = true then
      zs.modify e.nozzle Nozzle.clearOutput else zs) (s.rail r).mrk.nozzles) = s.clearedNozzles r := by
    rw [State.clearedNozzles, State.leaving, List.foldl_filter]
  rw [State.removeUndefined, (s.clearUndefined_walk r _ (s.nozzleDescs_getD r hf)).eachMark, flatMap_if, flatMap_if, kept,
    cleared]
  rfl

/-- A nozzle brought under its new descriptor, given whether an entry of its was removed and whether one that stays sprays. -/
def Nozzle.brought (z : Nozzle) (new : Option NozzleDesc) (sense : Int) (p : Nat) (gone spraying : Bool) : Nozzle :=
  let y : Nozzle := { z with desc := new, position := new.map fun d => (p : Int) + sense * d.offset }
  match z.desc.map NozzleDesc.mode, new.map NozzleDesc.mode with
  | none, _ => if gone then y.clearOutput else y
  | some _, none => y.clearOutput
  | some a, some b => if a = b then y else { y.clearOutput with drive := b == .spray && spraying }

theorem Nozzle.rebrand_defined (z : Nozzle) (d : NozzleDesc) (sense : Int) (p : Nat) (spraying : Bool) :
    (z.rebrand (some d) spraying).at sense p = z.brought (some d) sense p false spraying := by
  rcases h : z.desc with - | a
  · simp [Nozzle.rebrand, Nozzle.brought, Nozzle.at, h]
  · by_cases same : a.mode = d.mode <;>
      simp [Nozzle.rebrand, Nozzle.brought, Nozzle.at, h, same, Nozzle.clearOutput, Bool.and_comm]

theorem Nozzle.finish_undefined (z : Nozzle) (h : z.desc = none) : z.finish = z := by
  rw [Nozzle.finish, h]

theorem Nozzle.finish_drive (z : Nozzle) : ∃ drive, z.finish = { z with drive := drive } := by
  unfold Nozzle.finish
  split
  · exact ⟨z.drive, rfl⟩
  · split
    · exact ⟨z.latched, rfl⟩
    · exact ⟨z.drive, rfl⟩

/-- Under a plan that does not define it a nozzle comes to the same whether its output has been settled before or not. -/
theorem Nozzle.rebrand_undefined (z : Nozzle) (sense : Int) (p : Nat) (gone finished spraying : Bool) :
    let cleared := if gone = true then z.clearOutput else z
    ((if finished = true then cleared.finish else cleared).rebrand none spraying).at sense p =
      z.brought none sense p gone spraying := by
  intro cleared
  have hdesc : cleared.desc = z.desc := by cases gone <;> rfl
  rcases h : z.desc with - | a
  · rw [cleared.finish_undefined (hdesc.trans h), ite_self]
    cases gone <;> simp [cleared, Nozzle.rebrand, Nozzle.brought, Nozzle.at, Nozzle.clearOutput, h]
  · obtain ⟨drive, settled⟩ : ∃ drive,
        (if finished = true then cleared.finish else cleared) = { cleared with drive := drive } := by
      cases finished
      · exact ⟨cleared.drive, rfl⟩
      · exact cleared.finish_drive
    rw [settled]
    cases gone <;> simp [cleared, Nozzle.rebrand, Nozzle.brought, Nozzle.at, Nozzle.clearOutput, h]

/-- The nozzles brought under the plan. -/
def State.broughtNozzles : List Nozzle := (indexed (s.rail r).mrk.nozzles).map fun x =>
  x.2.brought (s.descAt r x.1) (Plan.sense s.plan) (s.rail r).mrk.p ((s.leaving r).any fun e => e.nozzle == x.1)
    (sprays (s.staying r) x.1)

theorem State.adopted_nozzles :
    ((indexed (settledNozzles (s.rail r).mrk.queue (s.staying r) (s.clearedNozzles r))).map fun x =>
      (x.2.rebrand (s.descAt r x.1) (sprays (s.staying r) x.1)).at (Plan.sense s.plan) (s.rail r).mrk.p) =
    s.broughtNozzles r := by
  refine List.ext_getElem? fun j => ?_
  rw [State.broughtNozzles, settledNozzles, State.clearedNozzles, getElem?_map_indexed, getElem?_map_indexed,
    getElem?_map_indexed, foldl_clear_getElem?, Option.map_map, Option.map_map]
  refine Option.map_congr fun z _ => ?_
  simp only [Function.comp_apply]
  rcases h : s.descAt r j with - | d
  · exact z.rebrand_undefined _ _ _ _ _
  · have stays : sprays (s.staying r) j = sprays (s.rail r).mrk.queue j := by rw [State.sprays_staying, h]; rfl
    have gone : ((s.leaving r).any fun e => e.nozzle == j) = false := by rw [State.any_leaving, h]; rfl
    simp only [gone, stays, Bool.and_not_self, Bool.false_eq_true, if_false, Nozzle.rebrand_defined]

/-- A controller whose queue and nozzles have been brought under the plan, the records and raises not counted. -/
def State.broughtUnder : State := s.modMrk r fun m =>
  { m with queue := s.staying r, sense := Plan.sense s.plan, nozzles := s.broughtNozzles r }

theorem State.modMrk_marked (f : Marker → Marker) (rs : List Rec) (xs : List (Raiser × Report)) (zs : List Nozzle) :
    (s.modMrk r f).marked r rs xs zs =
      ((s.offered (.marker r) rs).modAlarm fun a => { a with reports := a.reports ++ xs }).modMrk r fun m =>
        { f m with nozzles := zs } :=
  State.modMrk_modMrk ((s.offered (.marker r) rs).modAlarm fun a => { a with reports := a.reports ++ xs }) r f _

/-- Parts 1 and 2 of the check. -/
theorem State.adopt_removeUndefined (hf : s.inForce = true) :
    (s.removeUndefined r (s.nozzleDescs r)).modMrk r (fun m => m.adopt (s.nozzleDescs r) (Plan.sense s.plan)) =
      (s.broughtUnder r).marked r ((s.leaving r).map fun e => .marker (s.markerRecord r e (some .planSwitch)))
        ((s.leaving r).map fun e => e.raised r .planSwitch) (s.broughtNozzles r) := by
  rw [s.removeUndefined_eq r hf, State.broughtUnder, State.modMrk_marked, State.marked, State.modMrk_modMrk,
    State.modMrk_modMrk]
  simp only [Marker.adopt, s.nozzleDescs_getD r hf]
  refine State.modMrk_congr _ r _ _ (congrArg (fun zs => ({ (s.rail r).mrk with
    queue := s.staying r, sense := Plan.sense s.plan, nozzles := zs } : Marker)) (s.adopted_nozzles r))

end

end Sys2Proof.Machine
end

section
/-! PROOFS. The entries judged afresh at a nozzle check, and the check as a whole up to its merges (R141). -/

namespace Sys2Proof.Machine

/-! ## Entries judged afresh (R141, part 3) -/

section
variable (m : Marker) (old : List Nozzle) (e : MarkEntry)

/-- The nozzle of an entry stands elsewhere than it did. -/
def Marker.moved : Bool := (m.nozzle e.nozzle).position != (old.getD e.nozzle .cleared).position

/-- Where the nozzle of an entry stands. -/
def Marker.standing : Int := (m.nozzle e.nozzle).position.getD 0

/-- A SPRAYING entry broken off. -/
def Marker.breaksOff : Bool := m.moved old e && e.state == .spraying

/-- A PENDING entry whose far end is passed. -/
def Marker.tooLate : Bool :=
  m.moved old e && e.state == .pending && m.dir.passed (m.standing e) (m.dir.farEnd e.xStart e.xEnd)

/-- A PENDING entry whose nozzle now stands in it. -/
def Marker.begins : Bool :=
  m.moved old e && e.state == .pending && !m.tooLate old e && inside (m.standing e) e.xStart e.xEnd

/-- An entry that starts at a check. -/
def Marker.begun : MarkEntry :=
  { e with state := .spraying, broken := e.broken || m.dir.passed (m.standing e) (m.dir.nearEnd e.xStart e.xEnd) }

/-- An entry is removed by the check of its position. -/
def Marker.judgedOut : Bool := m.breaksOff old e || m.tooLate old e

/-- Why an entry is removed: a mark broken off is SPRAYED. -/
def Marker.outcome : Option UnmarkedReason := if m.breaksOff old e = true then none else some .planSwitch

theorem Marker.tooLate_of_breaksOff (h : m.breaksOff old e = true) : m.tooLate old e = false := by
  cases hs : e.state <;> simp_all [Marker.breaksOff, Marker.tooLate]

end

/-- The record of an entry removed at a check: one broken off is partial (R141). -/
def State.checkRecord (s : State) (r : Rail) (reason : Option UnmarkedReason) (e : MarkEntry) : Rec :=
  .marker (s.markerRecord r { e with broken := e.broken || reason.isNone } reason)

theorem State.rejudge_eq (s : State) (r : Rail) (old : List Nozzle) (e : MarkEntry)
    (h : ((s.rail r).mrk.nozzle e.nozzle).position.isSome = true) :
    let m := (s.rail r).mrk
    s.rejudge r old e =
      if m.breaksOff old e = true then (s.sprayed r { e with broken := true }, none)
      else if m.tooLate old e = true then (s.unmark r e .planSwitch, none)
      else if m.begins old e = true then (s.modNozzle r e.nozzle Nozzle.start, some (m.begun e))
      else (s, some e) := by
  intro m
  obtain ⟨n, hn⟩ := Option.isSome_iff_exists.mp h
  have standing : m.standing e = n := by rw [Marker.standing, hn]; rfl
  have moved : m.moved old e = true ↔ ¬ (old.getD e.nozzle .cleared).position = some n := by
    rw [Marker.moved, hn, bne_iff_ne, ne_comm]
  unfold State.rejudge
  dsimp only
  rw [hn]
  dsimp only
  by_cases same : (old.getD e.nozzle .cleared).position = some n
  · have still : m.moved old e = false := Bool.eq_false_iff.mpr fun k => moved.mp k same
    rw [if_pos same]
    simp [Marker.breaksOff, Marker.tooLate, Marker.begins, still]
  · have gone : m.moved old e = true := moved.mpr same
    rw [if_neg same]
    cases hs : e.state
    · cases late : m.dir.passed n (m.dir.farEnd e.xStart e.xEnd) <;>
        simp [Marker.breaksOff, Marker.tooLate, Marker.begins, Marker.begun, gone, standing, hs, late, m]
    · simp [Marker.breaksOff, gone, hs]

theorem State.rejudge_walk (s : State) (r : Rail) (old : List Nozzle)
    (placed : ∀ e ∈ (s.rail r).mrk.queue, ((s.rail r).mrk.nozzle e.nozzle).position.isSome = true) :
    let m := (s.rail r).mrk
    s.Walk r (fun s e => s.rejudge r old e)
      (fun e => if m.judgedOut old e = true then [s.checkRecord r (m.outcome old e) e] else [])
      (fun e => if m.tooLate old e = true then [e.raised r .planSwitch] else [])
      (fun e zs => if m.begins old e = true then zs.modify e.nozzle Nozzle.start else zs)
      (fun e => if m.judgedOut old e = true then none else some (if m.begins old e = true then m.begun e else e)) := by
  intro m
  refine ⟨fun e he rs xs zs hzs => ?_, fun e zs => ?_⟩
  · let u : Marker := { m with nozzles := zs }
    have position : (u.nozzle e.nozzle).position = (m.nozzle e.nozzle).position := position_of_map_eq hzs e.nozzle
    have breaksOff : u.breaksOff old e = m.breaksOff old e := by simp only [Marker.breaksOff, Marker.moved, position]
    have tooLate : u.tooLate old e = m.tooLate old e := by
      simp only [Marker.tooLate, Marker.moved, Marker.standing, position]
      rfl
    have begins : u.begins old e = m.begins old e := by
      simp only [Marker.begins, Marker.moved, Marker.standing, position, tooLate]
    have begun : u.begun e = m.begun e := by
      simp only [Marker.begun, Marker.standing, position]
      rfl
    have hu : ((s.marked r rs xs zs).rail r).mrk = u := s.marked_mrk r rs xs zs
    rw [State.rejudge_eq _ r old e (by rw [hu, position]; exact placed e he), hu, breaksOff, tooLate, begins, begun]
    cases off : m.breaksOff old e
    · cases late : m.tooLate old e
      · cases m.begins old e <;> simp [Marker.judgedOut, off, late, State.marked_modNozzle]
      · have stays : m.begins old e = false := by simp [Marker.begins, late]
        simp [Marker.judgedOut, Marker.outcome, State.checkRecord, off, late, stays, State.marked_unmark]
    · have early := m.tooLate_of_breaksOff old e off
      have stays : m.begins old e = false := by cases hs : e.state <;> simp_all [Marker.breaksOff, Marker.begins]
      simp [Marker.judgedOut, Marker.outcome, State.checkRecord, off, early, stays, State.marked_sprayed]
  · split
    · exact map_modify_of_keeps _ _ Nozzle.start_position _ _
    · rfl

/-! ## The check up to its merges (R141) -/

theorem Nozzle.brought_desc (z : Nozzle) (new : Option NozzleDesc) (sense : Int) (p : Nat) (gone spraying : Bool) :
    (z.brought new sense p gone spraying).desc = new := by
  unfold Nozzle.brought
  dsimp only
  (repeat' split) <;> rfl

theorem Nozzle.brought_position (z : Nozzle) (new : Option NozzleDesc) (sense : Int) (p : Nat) (gone spraying : Bool) :
    (z.brought new sense p gone spraying).position = new.map fun d => (p : Int) + sense * d.offset := by
  unfold Nozzle.brought
  dsimp only
  (repeat' split) <;> rfl

section
variable (s : State) (r : Rail)

/-- The controller of a rail once its queue and its nozzles have been brought under the plan. -/
def State.checking : Marker :=
  { (s.rail r).mrk with queue := s.staying r, sense := Plan.sense s.plan, nozzles := s.broughtNozzles r }

theorem State.broughtUnder_mrk : ((s.broughtUnder r).rail r).mrk = s.checking r := s.modMrk_mrk_same r _

theorem State.checking_nozzle (h4 : (s.rail r).mrk.nozzles.length = 4) (j : Nat) :
    ((s.checking r).nozzle j).desc = s.descAt r j ∧
      ((s.checking r).nozzle j).position =
        (s.descAt r j).map fun d => ((s.rail r).mrk.p : Int) + Plan.sense s.plan * d.offset := by
  rw [Marker.nozzle, State.checking, List.getD_eq_getElem?_getD, State.broughtNozzles, getElem?_map_indexed]
  rcases h : (s.rail r).mrk.nozzles[j]? with - | z
  · have none : s.descAt r j = none := if_neg (by rw [List.getElem?_eq_none_iff] at h; omega)
    rw [none]
    exact ⟨rfl, rfl⟩
  · exact ⟨z.brought_desc .., z.brought_position ..⟩

/-- The entries left once those whose nozzles have moved have been judged afresh. -/
def State.judgedLeft : List MarkEntry :=
  let m := s.checking r
  let old := (s.rail r).mrk.nozzles
  ((s.staying r).filter fun e => !m.judgedOut old e).map fun e => if m.begins old e = true then m.begun e else e

/-- The nozzles with the outputs of the entries that start driven. -/
def State.startedNozzles : List Nozzle :=
  (s.staying r).foldl (fun zs e => if (s.checking r).begins (s.rail r).mrk.nozzles e = true then
    zs.modify e.nozzle Nozzle.start else zs) (s.broughtNozzles r)

/-- The records of a check before its merges: the entries removed with their nozzles, and then those judged out. -/
def State.checkRecords : List Rec :=
  let m := s.checking r
  let old := (s.rail r).mrk.nozzles
  (s.leaving r).map (s.checkRecord r (some .planSwitch)) ++
    ((s.staying r).filter (m.judgedOut old)).map fun e => s.checkRecord r (m.outcome old e) e

/-- The raises of a check. -/
def State.checkRaises : List (Raiser × Report) :=
  (s.leaving r ++ (s.staying r).filter ((s.checking r).tooLate (s.rail r).mrk.nozzles)).map fun e => e.raised r .planSwitch

/-- The state of a check before its merges. -/
def State.checked : State :=
  (s.marked r (s.checkRecords r) (s.checkRaises r)
    (settledNozzles (s.rail r).mrk.queue (s.judgedLeft r) (s.startedNozzles r))).modMrk r fun m =>
      { m with queue := s.judgedLeft r, sense := Plan.sense s.plan }

theorem State.startedNozzles_map {α : Type} (g : Nozzle → α) (h : ∀ z : Nozzle, g z.start = g z) :
    (s.startedNozzles r).map g = (s.broughtNozzles r).map g := by
  have fold (es : List MarkEntry) (p : MarkEntry → Bool) (zs : List Nozzle) :
      (es.foldl (fun zs e => if p e = true then zs.modify e.nozzle Nozzle.start else zs) zs).map g = zs.map g := by
    induction es generalizing zs with
    | nil => rfl
    | cons e es ih =>
      rw [List.foldl_cons, ih]
      split
      · exact map_modify_of_keeps _ _ h _ _
      · rfl
  exact fold ..

/-- A nozzle that the plan does not define has nothing to settle. -/
theorem State.settled_staying (left : List MarkEntry) : settledNozzles (s.staying r) left (s.startedNozzles r) =
    settledNozzles (s.rail r).mrk.queue left (s.startedNozzles r) := by
  refine List.ext_getElem? fun j => ?_
  rw [settledNozzles, settledNozzles, getElem?_map_indexed, getElem?_map_indexed]
  refine Option.map_congr fun z hz => ?_
  dsimp only
  rw [State.sprays_staying]
  rcases h : s.descAt r j with - | d
  · have desc : z.desc = none := by
      have read : ((s.startedNozzles r).map Nozzle.desc)[j]? = some z.desc := by rw [List.getElem?_map, hz]; rfl
      rw [s.startedNozzles_map r Nozzle.desc Nozzle.start_desc, List.getElem?_map, State.broughtNozzles,
        getElem?_map_indexed] at read
      obtain ⟨y, hy, eq⟩ := Option.map_eq_some_iff.mp read
      obtain ⟨x, -, rfl⟩ := Option.map_eq_some_iff.mp hy
      rw [← eq, Nozzle.brought_desc, h]
    rw [z.finish_undefined desc, ite_self, ite_self]
  · rfl

theorem State.checkNozzles_eq (hf : s.inForce = true) (h4 : (s.rail r).mrk.nozzles.length = 4) :
    s.checkNozzles r = State.remerge r ((s.judgedLeft r).length + 1) (s.judgedLeft r) [] [] (s.checked r) := by
  let old := (s.rail r).mrk.nozzles
  let rs := (s.leaving r).map fun e => Rec.marker (s.markerRecord r e (some .planSwitch))
  let xs := (s.leaving r).map fun e => e.raised r .planSwitch
  let u := (s.broughtUnder r).marked r rs xs (s.broughtNozzles r)
  have mrk : (u.rail r).mrk = s.checking r := by rw [State.marked_mrk, s.broughtUnder_mrk]; rfl
  have placed : ∀ e ∈ (u.rail r).mrk.queue, ((u.rail r).mrk.nozzle e.nozzle).position.isSome = true := by
    rw [mrk]
    intro e he
    rw [(s.checking_nozzle r h4 e.nozzle).2, Option.isSome_map]
    exact (List.mem_filter.mp he).2
  have judged : u.eachMark r (fun s e => s.rejudge r old e) = s.checked r := by
    rw [(u.rejudge_walk r old placed).eachMark, mrk, flatMap_if, flatMap_if, filterMap_if_not]
    have record (reason : Option UnmarkedReason) (e : MarkEntry) : u.checkRecord r reason e = s.checkRecord r reason e := by
      simp only [State.checkRecord, State.markerRecord, mrk]
      rfl
    have removed : rs = (s.leaving r).map (s.checkRecord r (some .planSwitch)) :=
      List.map_congr_left fun e _ => by simp only [State.checkRecord, Option.isNone_some, Bool.or_false]
    have settled : settledNozzles (s.checking r).queue (s.judgedLeft r) (s.startedNozzles r) = _ :=
      s.settled_staying r (s.judgedLeft r)
    simp only [record]
    refine (congrArg (fun zs => (State.marked u r _ _ zs).modMrk r _) settled).trans ?_
    rw [State.marked_marked, removed, ← List.map_append, State.broughtUnder, State.modMrk_marked, State.modMrk_modMrk,
      State.checked, State.marked, State.modMrk_modMrk]
    rfl
  have queue : ((s.checked r).rail r).mrk.queue = s.judgedLeft r := by
    rw [State.checked, State.modMrk_mrk_same]
  have plan : (s.removeUndefined r (s.nozzleDescs r)).plan = s.plan := by
    rw [State.plan, State.removeUndefined_plans]
    rfl
  rw [State.checkNozzles, plan, s.adopt_removeUndefined r hf]
  show State.remerge r _ ((u.eachMark r fun s e => s.rejudge r old e).rail r).mrk.queue [] [] _ = _
  rw [judged, queue]

end

end Sys2Proof.Machine
end

section
/-! PROOFS. The nozzle check with its merges, and what it leaves untouched; presets and switches (O44). -/

namespace Sys2Proof.Machine

/-! ## What a check holds of its nozzles -/

theorem settledNozzles_map {α : Type} (g : Nozzle → α) (h : ∀ z : Nozzle, g z.finish = g z) (before left : List MarkEntry)
    (zs : List Nozzle) : (settledNozzles before left zs).map g = zs.map g := by
  refine List.ext_getElem? fun j => ?_
  rw [List.getElem?_map, settledNozzles, getElem?_map_indexed, List.getElem?_map, Option.map_map]
  refine Option.map_congr fun z _ => ?_
  simp only [Function.comp_apply]
  split
  · exact h z
  · rfl

@[simp] theorem Nozzle.finish_desc (z : Nozzle) : z.finish.desc = z.desc := by
  obtain ⟨drive, eq⟩ := z.finish_drive
  rw [eq]

@[simp] theorem Nozzle.finish_position (z : Nozzle) : z.finish.position = z.position := by
  obtain ⟨drive, eq⟩ := z.finish_drive
  rw [eq]

section
variable (s : State) (r : Rail)

theorem State.checked_nozzle {α : Type} (g : Nozzle → α) (hs : ∀ z : Nozzle, g z.start = g z)
    (hf : ∀ z : Nozzle, g z.finish = g z) (j : Nat) :
    g (((s.checked r).rail r).mrk.nozzle j) = g ((s.checking r).nozzle j) := by
  have read (zs : List Nozzle) : g (zs.getD j .cleared) = (zs.map g).getD j (g .cleared) :=
    (List.getD_map zs Nozzle.cleared g).symm
  have same : ((s.checked r).rail r).mrk.nozzles.map g = (s.checking r).nozzles.map g := by
    rw [State.checked, State.modMrk_mrk_same, State.marked_mrk]
    exact (settledNozzles_map g hf ..).trans (s.startedNozzles_map r g hs)
  rw [Marker.nozzle, Marker.nozzle, read, read, same]

/-- The merge distances of a check are those of the plan's descriptors. -/
theorem State.checked_mergeWithin (h4 : (s.rail r).mrk.nozzles.length = 4) (j : Nat) :
    ((s.checked r).rail r).mrk.mergeWithin j = ((s.descAt r j).map NozzleDesc.mergeDistance).getD 0 := by
  rw [Marker.mergeWithin, s.checked_nozzle r Nozzle.desc Nozzle.start_desc Nozzle.finish_desc, (s.checking_nozzle r h4 j).1]

theorem State.checked_mrk : ((s.checked r).rail r).mrk =
    { (s.rail r).mrk with
      queue := s.judgedLeft r, sense := Plan.sense s.plan,
      nozzles := settledNozzles (s.rail r).mrk.queue (s.judgedLeft r) (s.startedNozzles r) } := by
  rw [State.checked, State.modMrk_mrk_same, State.marked_mrk]

/-- What is left of the queue are entries of nozzles that the plan defines. -/
theorem State.judgedLeft_defined {e : MarkEntry} (he : e ∈ s.judgedLeft r) : (s.descAt r e.nozzle).isSome = true := by
  obtain ⟨v, hv, rfl⟩ := List.mem_map.mp he
  have defined : (s.descAt r v.nozzle).isSome = true := (List.mem_filter.mp (List.mem_filter.mp hv).1).2
  split
  · exact defined
  · exact defined

/-! ## A queue that a check passes through (R141) -/

section
variable (hdesc : ∀ (j : Nat) (z : Nozzle), (s.rail r).mrk.nozzles[j]? = some z → z.desc = s.descAt r j)
  (hpos : ∀ z ∈ (s.rail r).mrk.nozzles,
    z.position = z.desc.map fun d => ((s.rail r).mrk.p : Int) + Plan.sense s.plan * d.offset)
  (hq : ∀ e ∈ (s.rail r).mrk.queue, (s.descAt r e.nozzle).isSome = true)
include hq

theorem State.staying_of_defined : s.staying r = (s.rail r).mrk.queue := List.filter_eq_self.mpr hq

theorem State.leaving_of_defined : s.leaving r = [] :=
  List.filter_eq_nil_iff.mpr fun e he => by rw [Option.isNone_iff_eq_none, ← Option.not_isSome_iff_eq_none]; simp [hq e he]

include hdesc hpos

theorem State.broughtNozzles_untouched : s.broughtNozzles r = (s.rail r).mrk.nozzles := by
  refine List.ext_getElem? fun j => ?_
  rw [State.broughtNozzles, getElem?_map_indexed, s.leaving_of_defined r hq]
  rcases h : (s.rail r).mrk.nozzles[j]? with - | z
  · rfl
  · have position := hpos z (List.mem_of_getElem? h)
    rw [Option.map_some, ← hdesc j z h]
    have same : ({ z with
        position := z.desc.map fun d => ((s.rail r).mrk.p : Int) + Plan.sense s.plan * d.offset } : Nozzle) = z := by
      rw [← position]
    unfold Nozzle.brought
    rcases z.desc.map NozzleDesc.mode with - | a
    · exact congrArg some same
    · simpa using same

theorem State.checking_still (e : MarkEntry) : (s.checking r).moved (s.rail r).mrk.nozzles e = false := by
  rw [Marker.moved, State.checking, Marker.nozzle, s.broughtNozzles_untouched r hdesc hpos hq, bne_self_eq_false]

theorem State.judgedLeft_untouched : s.judgedLeft r = (s.rail r).mrk.queue := by
  have still := s.checking_still r hdesc hpos hq
  simp [State.judgedLeft, Marker.judgedOut, Marker.breaksOff, Marker.tooLate, Marker.begins, still, s.staying_of_defined r hq]

theorem State.checked_untouched (hsense : (s.rail r).mrk.sense = Plan.sense s.plan) : s.checked r = s := by
  have still := s.checking_still r hdesc hpos hq
  have records : s.checkRecords r = [] := by
    simp [State.checkRecords, s.leaving_of_defined r hq, Marker.judgedOut, Marker.breaksOff, Marker.tooLate, still]
  have raises : s.checkRaises r = [] := by
    simp [State.checkRaises, s.leaving_of_defined r hq, Marker.tooLate, still]
  have nozzles : settledNozzles (s.rail r).mrk.queue (s.judgedLeft r) (s.startedNozzles r) = (s.rail r).mrk.nozzles := by
    have started : s.startedNozzles r = (s.rail r).mrk.nozzles := by
      simp [State.startedNozzles, Marker.begins, still, s.broughtNozzles_untouched r hdesc hpos hq]
    simp only [settledNozzles, s.judgedLeft_untouched r hdesc hpos hq, started, Bool.and_not_self, Bool.false_eq_true, if_false]
    exact map_snd_indexed _
  rw [State.checked, records, raises, nozzles, State.marked_start]
  exact s.modMrk_self r _ (by rw [s.judgedLeft_untouched r hdesc hpos hq, ← hsense])

end

end

end Sys2Proof.Machine
end

section
/-! PROOFS. A preset translates the queue; a switch brings it under the new plan (O44). -/

namespace Sys2Proof.Machine

/-! ## The merges of a check (R141, part 4) -/

section
variable (s : State) (r : Rail)

/-- A merge without entries near each other leaves the state whose queue it goes through. -/
theorem State.remerge_none (left : List MarkEntry) (h : (s.rail r).mrk.queue = left)
    (apart : left.Pairwise fun u v => ¬ u.close (s.rail r).mrk.mergeWithin v) :
    State.remerge r (left.length + 1) left [] [] s = s := by
  rw [State.remerge_apart r _ [] [] s left (Nat.lt_succ_self _) apart]
  exact s.modMrk_self r _ (by rw [← h]; rfl)

/-- A merge of the first two entries alone. -/
theorem State.remerge_two (a b : MarkEntry) (others : List MarkEntry)
    (close : a.close (s.rail r).mrk.mergeWithin b) (far : ∀ v ∈ others, ¬ a.close (s.rail r).mrk.mergeWithin v)
    (x : MarkEntry) (hx : x = (s.rail r).mrk.formed a (a.gathered.add b))
    (apart : (x :: others).Pairwise fun u v => ¬ u.close (s.rail r).mrk.mergeWithin v) :
    State.remerge r (others.length + 3) (a :: b :: others) [] [] s = s.modMrk r fun k =>
      { k with queue := insertMark (s.rail r).mrk.dir x others,
               nozzles := if x.state = .spraying ∧ (a.gathered.add b).spraying = [] then
                 k.nozzles.modify a.nozzle Nozzle.start else k.nozzles } := by
  subst hx
  obtain ⟨beyond, apart⟩ := List.pairwise_cons.mp apart
  have gathered : (s.rail r).mrk.gathering a (b :: others) = (a.gathered.add b, others) :=
    gather_one _ a.gathered b others (MarkEntry.near_iff_close.mpr close)
      (fun v hv near => far v hv (MarkEntry.near_iff_close.mp near))
      (fun v hv near => beyond v hv (MarkEntry.near_iff_close (e := (s.rail r).mrk.formed a (a.gathered.add b)).mp near))
  have started := (State.Started.refl r s).afterMerge ((s.rail r).mrk.formed a (a.gathered.add b)) (a.gathered.add b)
  rw [State.remerge_merged r _ a (b :: others) [] [] s ⟨b, List.mem_cons_self, close⟩]
  dsimp only
  rw [gathered, State.remerge_apart r _ [] _ _ others (by simp) (by rw [started.mergeWithin]; exact apart), State.afterMerge]
  split
  · rw [State.modNozzle, State.putQueue, State.modMrk_mrk_same, State.modMrk_modMrk]
    rfl
  · rfl

/-- Two entries within the merge distance that the plan gives their nozzle. -/
def State.within (u v : MarkEntry) : Prop :=
  u.nozzle = v.nozzle ∧ ∀ d, s.descAt r u.nozzle = some d →
    intervalDistance u.xStart u.xEnd v.xStart v.xEnd ≤ d.mergeDistance

section
variable (h4 : (s.rail r).mrk.nozzles.length = 4)
include h4

theorem State.not_close_of_not_within {u v : MarkEntry} (h : ¬ s.within r u v) :
    ¬ u.close ((s.checked r).rail r).mrk.mergeWithin v := fun ⟨hj, close⟩ =>
  h ⟨hj, fun d hd => by rwa [s.checked_mergeWithin r h4, hd] at close⟩

theorem State.close_of_within {u v : MarkEntry} (hd : (s.descAt r u.nozzle).isSome = true) (h : s.within r u v) :
    u.close ((s.checked r).rail r).mrk.mergeWithin v := by
  obtain ⟨d, hd⟩ := Option.isSome_iff_exists.mp hd
  exact ⟨h.1, by rw [s.checked_mergeWithin r h4, hd]; exact h.2 d hd⟩

theorem State.check_merges_none (apart : (s.judgedLeft r).Pairwise fun u v => ¬ s.within r u v) :
    State.remerge r ((s.judgedLeft r).length + 1) (s.judgedLeft r) [] [] (s.checked r) = s.checked r :=
  State.remerge_none _ r _ (by rw [State.checked_mrk]) (apart.imp (s.not_close_of_not_within r h4))

/-- The merges of a check end with no two entries within the merge distance; they cover what was left of the queue, make up no
end, and keep every entry that is within the merge distance of no other. -/
theorem State.check_merges (valid : ∀ e ∈ s.judgedLeft r, e.xStart ≤ e.xEnd) :
    ∃ queue zs, State.remerge r ((s.judgedLeft r).length + 1) (s.judgedLeft r) [] [] (s.checked r) =
        ((s.checked r).modMrk r fun k => { k with queue := queue, nozzles := zs }) ∧
      (queue.Pairwise fun u v => ¬ s.within r u v) ∧
      (∀ e ∈ s.judgedLeft r, ∃ v ∈ queue, v.nozzle = e.nozzle ∧ v.xStart ≤ e.xStart ∧ e.xEnd ≤ v.xEnd) ∧
      (∀ v ∈ queue, (∃ e ∈ s.judgedLeft r, e.nozzle = v.nozzle ∧ e.xStart = v.xStart) ∧
        ∃ e ∈ s.judgedLeft r, e.nozzle = v.nozzle ∧ e.xEnd = v.xEnd) ∧
      (∀ before e after, s.judgedLeft r = before ++ e :: after → (∀ v ∈ before ++ after, ¬ s.within r e v) → e ∈ queue) ∧
      ∀ j : Nat, zs[j]? = ((s.checked r).rail r).mrk.nozzles[j]? ∨
        zs[j]? = (((s.checked r).rail r).mrk.nozzles[j]?).map Nozzle.start := by
  obtain ⟨queue, zs, eq, remerging, lone, started⟩ := State.remerge_spec r (s.checked r) _ valid
  refine ⟨queue, zs, eq, remerging.apart.imp_of_mem fun {u v} hu _ far within => ?_, remerging.covers,
    fun v hv => ⟨remerging.first v hv, remerging.last v hv⟩, fun before e after hl far => lone e (.inr ?_), started⟩
  · obtain ⟨e, he, hj, -⟩ := remerging.first u hu
    exact far.1 (s.close_of_within r h4 (hj ▸ s.judgedLeft_defined r he) within)
  · exact ⟨before ++ after, hl ▸ List.perm_middle, fun v hv => s.not_close_of_not_within r h4 (far v hv)⟩

/-- Where the nozzle of an entry that is left stands. -/
theorem State.checked_standing {e : MarkEntry} (he : e ∈ s.judgedLeft r) :
    (((s.checked r).rail r).mrk.nozzle e.nozzle).position.getD (-1) = (s.checking r).standing e := by
  obtain ⟨d, hd⟩ := Option.isSome_iff_exists.mp (s.judgedLeft_defined r he)
  rw [s.checked_nozzle r Nozzle.position Nozzle.start_position Nozzle.finish_position, Marker.standing,
    (s.checking_nozzle r h4 e.nozzle).2, hd]
  rfl

/-- The merge of the first two entries of the queue, where they alone are within the merge distance. -/
theorem State.check_merges_two (a b : MarkEntry) (others : List MarkEntry) (hl : s.judgedLeft r = a :: b :: others)
    (hab : s.within r a b) (far : ∀ v ∈ others, ¬ s.within r a v) (x : MarkEntry)
    (hx : x = (a.gathered.add b).entry a.nozzle ((s.checking r).standing a) (a.origins ++ b.origins)
      (a.originTotal + b.originTotal) (a.broken || b.broken))
    (apart : (x :: others).Pairwise fun u v => ¬ s.within r u v) :
    State.remerge r ((s.judgedLeft r).length + 1) (s.judgedLeft r) [] [] (s.checked r) = (s.checked r).modMrk r fun k =>
      { k with queue := insertMark (s.rail r).mrk.dir x others,
               nozzles := if x.state = .spraying ∧ (a.gathered.add b).spraying = [] then
                 k.nozzles.modify a.nozzle Nozzle.start else k.nozzles } := by
  have ha : a ∈ s.judgedLeft r := hl ▸ List.mem_cons_self
  have close := s.close_of_within r h4 (s.judgedLeft_defined r ha) hab
  have formed : x = ((s.checked r).rail r).mrk.formed a (a.gathered.add b) := by
    rw [Marker.formed, s.checked_standing r h4 ha]
    exact hx
  have two := (s.checked r).remerge_two r a b others close (fun v hv => s.not_close_of_not_within r h4 (far v hv)) x formed
    (apart.imp (s.not_close_of_not_within r h4))
  rw [hl]
  exact two.trans (by rw [State.checked_mrk])

end

end

/-! ## Presets and switches -/

theorem exec_markerPresetTranslate (s : State) (r : Rail) (old new : Nat) (delta : Int) (rest : List PosNotice)
    (h : (s.rail r).mrk.notices = .preset old new delta :: rest) :
    let m := (s.rail r).mrk
    let stays := m.queue.filter fun e => !e.beyond delta
    exec (.markerPresetTranslate r) s = .next ((s.unmarked r .presetLimit (m.queue.filter fun e => e.beyond delta)).modMrk r
      fun k => { k with notices := rest, p := new, queue := stays.map fun e => e.translated delta,
                        nozzles := (settledNozzles m.queue stays m.nozzles).map fun z => z.at m.sense new }) := by
  intro m stays
  show execMarkerPresetTranslate r s = _
  rw [execMarkerPresetTranslate, h]
  dsimp only
  rw [State.translate_eq, State.modMrk_modMrk, State.putMarkNotices, State.modMrk_mrk_same]
  cases r <;> rfl

theorem exec_nozzleCheck (s : State) (r : Rail) (rest : List MarkerOrder) (h : (s.rail r).mrk.orders = .nozzleCheck :: rest)
    (hf : s.inForce = true) (h4 : (s.rail r).mrk.nozzles.length = 4) :
    let v := s.putMarkOrders r rest
    exec (.nozzleCheck r) s = .next (State.remerge r ((v.judgedLeft r).length + 1) (v.judgedLeft r) [] [] (v.checked r)) := by
  intro v
  show execNozzleCheck r s = _
  rw [execNozzleCheck, h]
  have nozzles : (v.rail r).mrk.nozzles.length = 4 := by
    rw [show (v.rail r).mrk = _ from s.modMrk_mrk_same r _]
    exact h4
  exact congrArg Host.Outcome.next (v.checkNozzles_eq r hf nozzles)

theorem MarkEntry.gathered_add_spraying (a b : MarkEntry) :
    (a.gathered.add b).spraying = [] ↔ a.state ≠ .spraying ∧ b.state ≠ .spraying := by
  cases ha : a.state <;> cases hb : b.state <;> simp [MarkEntry.gathered, Gathered.add, ha, hb]

/-- Settles O44: a preset is one walk through the queue; what the statement names of a switch, part by part, is the check
of `State.checked`, and its clauses are those of the merges that follow. -/
theorem presetsTranslateAndSwitchesCheckTheQueue : Obligations.PresetsTranslateAndSwitchesCheckTheQueue := by
  intro r s m unmarked sprays settled
  refine ⟨fun old new delta rest h => exec_markerPresetTranslate s r old new delta rest h, fun rest h hf => ?_⟩
  intro desc stays gone clear brought nozzles at_ moved passed ends late starts left record records judged w merged within h4
  let v := s.putMarkOrders r rest
  have hv : (v.rail r).mrk = { m with orders := rest } := s.modMrk_mrk_same r _
  have hstays : v.staying r = stays := by
    rw [State.staying, hv]
    rfl
  have hgone : v.leaving r = gone := by
    rw [State.leaving, hv]
    rfl
  have hnozzles : v.broughtNozzles r = nozzles := by
    rw [State.broughtNozzles, hv, hstays, hgone]
    rfl
  have hchecking : v.checking r =
      { m with orders := rest, queue := stays, sense := Plan.sense s.plan, nozzles := nozzles } := by
    rw [State.checking, hv, hstays, hnozzles]
    rfl
  have hends : (v.checking r).breaksOff (v.rail r).mrk.nozzles = ends := by
    rw [hchecking, hv]
    rfl
  have hlate : (v.checking r).tooLate (v.rail r).mrk.nozzles = late := by
    rw [hchecking, hv]
    funext e
    simp only [Marker.tooLate, Dir.passed_eq, Dir.farEnd_eq]
    rfl
  have hstarts : (v.checking r).begins (v.rail r).mrk.nozzles = starts := by
    funext e
    rw [Marker.begins, hlate, hchecking, hv]
    rfl
  have hbegun (e : MarkEntry) : (v.checking r).begun e =
      { e with state := .spraying, broken := e.broken || passed e (if m.dir = .decreasing then e.xEnd else e.xStart) } := by
    rw [hchecking]
    simp only [Marker.begun, Dir.passed_eq, Dir.nearEnd_eq]
    rfl
  have hleft : v.judgedLeft r = left := by
    simp only [State.judgedLeft, Marker.judgedOut, hends, hlate, hstarts, hbegun, hstays, Bool.not_or]
    rfl
  have hrecord : v.checkRecord r = record := by
    funext reason e
    rw [State.checkRecord, State.markerRecord, hv]
    rfl
  have hout : (v.checking r).judgedOut (v.rail r).mrk.nozzles = fun e => ends e || late e := by
    funext e
    rw [Marker.judgedOut, hends, hlate]
  have hrecords : v.checkRecords r = records := by
    simp only [State.checkRecords, Marker.outcome, hout, hends, hrecord, hstays, hgone]
    rfl
  have hraises : v.checkRaises r = (gone ++ stays.filter late).map fun e => e.raised r .planSwitch := by
    rw [State.checkRaises, hlate, hstays, hgone]
  have hz : settledNozzles (v.rail r).mrk.queue (v.judgedLeft r) (v.startedNozzles r) =
      settled left (stays.foldl (fun zs e => if starts e then zs.modify e.nozzle Nozzle.start else zs) nozzles) := by
    rw [hleft, State.startedNozzles, hstarts, hstays, hnozzles, hv]
    rfl
  have hw : v.checked r = w := by
    rw [State.checked, hrecords, hraises, hz, hleft]
    exact (congrArg (State.modMrk · r _) (s.modMrk_marked r _ _ _ _)).trans (State.modMrk_modMrk ..)
  have row : exec (.nozzleCheck r) s = .next merged := by
    rw [exec_nozzleCheck s r rest h hf h4, hleft, hw]
  have h4' : (v.rail r).mrk.nozzles.length = 4 := by rw [hv]; exact h4
  have none_merge := v.check_merges_none r h4'
  have merges := v.check_merges r h4'
  have two_merge := v.check_merges_two r h4'
  rw [hleft, hw] at none_merge merges two_merge
  refine ⟨row, none_merge, merges, fun a b others hl hab => ?_, fun hd hsense hpos hq hpair => ?_⟩
  · intro spray x hx hothers
    have silent := a.gathered_add_spraying b
    have sprayed : (∃ e ∈ [a, b], e.state = .spraying) ↔ (a.gathered.add b).spraying ≠ [] := by
      rw [Ne, silent, not_and_or, not_not, not_not]
      simp only [List.mem_cons, List.not_mem_nil, or_false, exists_eq_or_imp, exists_eq_left]
    have formed : x = (a.gathered.add b).entry a.nozzle ((v.checking r).standing a) (a.origins ++ b.origins)
        (a.originTotal + b.originTotal) (a.broken || b.broken) := by
      rw [Gathered.entry_eq, hchecking]
      exact congrArg (fun st => ({ x with state := st } : MarkEntry)) (if_congr (or_congr sprayed .rfl) rfl rfl)
    refine (two_merge a b others hl hab hothers x formed hx).trans ?_
    simp only [silent, hv]
  · have read (j : Nat) : (m.nozzle j).desc = v.descAt r j := by
      by_cases hj : j < 4
      · exact (hd j hj).trans (if_pos hj).symm
      · rw [Marker.nozzle, List.getD_eq_default _ _ (by omega)]
        exact (if_neg hj).symm
    have hdesc (j : Nat) (z : Nozzle) (hz : (v.rail r).mrk.nozzles[j]? = some z) : z.desc = v.descAt r j := by
      rw [hv] at hz
      exact (congrArg Nozzle.desc (Marker.nozzle_of_getElem? (m := m) hz)).symm.trans (read j)
    have hpos' : ∀ z ∈ (v.rail r).mrk.nozzles,
        z.position = z.desc.map fun d => ((v.rail r).mrk.p : Int) + Plan.sense v.plan * d.offset := by
      rw [hv]
      exact fun z hz => (hpos z hz).trans (by rw [hsense]; rfl)
    have hq' : ∀ e ∈ (v.rail r).mrk.queue, (v.descAt r e.nozzle).isSome = true := by
      rw [hv]
      exact fun e he => read e.nozzle ▸ hq e he
    have hsense' : (v.rail r).mrk.sense = Plan.sense v.plan := by
      rw [hv]
      exact hsense
    have still : w = v := hw.symm.trans (v.checked_untouched r hdesc hpos' hq' hsense')
    have same : left = m.queue := hleft.symm.trans ((v.judgedLeft_untouched r hdesc hpos' hq').trans (by rw [hv]))
    rw [row]
    exact congrArg Host.Outcome.next ((none_merge (same ▸ hpair)).trans still)

end Sys2Proof.Machine
end

section
/-! PROOFS. LOCKED is left by a reset alone (O8): what each row that can change the operating state does to it, and that every
row but a reset keeps LOCKED. -/

namespace Sys2Proof.Machine

/-! ## The operating state under the rows of a rail -/

@[simp] theorem View.modRail_device (v : View) (r : Rail) (f : RailView → RailView) :
    (v.modRail r f).device = v.device := rfl

theorem State.device_of_view {s t : State} (h : t.view = s.view) : t.device = s.device := congrArg View.device h

theorem State.device_of_modRail {s t : State} {r : Rail} {f : RailView → RailView} (h : t.view = s.view.modRail r f) :
    t.device = s.device := congrArg View.device h

@[simp] theorem State.count_device (s : State) (r : Rail) (f : SurveyCounters → SurveyCounters) :
    (s.count r f).device = s.device := rfl

@[simp] theorem State.fireShot_device (s : State) (r : Rail) (i : Nat) : (s.fireShot r i).device = s.device := by
  rcases s.fireShot_view r i with h | ⟨_, h⟩ <;> exact congrArg View.device h

@[simp] theorem State.afterShot_device (s : State) (r : Rail) (x : Shot) : (s.afterShot r x).device = s.device := by
  rcases s.afterShot_view r x with h | ⟨-, -, _, h⟩ <;> exact congrArg View.device h

@[simp] theorem State.judgeShot_device (s : State) (r : Rail) (x : Shot) (whole : Firing → Bool) :
    (s.judgeShot r x whole).device = s.device := State.device_of_modRail (s.judgeShot_view r x whole)

@[simp] theorem State.linkComesUp_device (s : State) (r : Rail) : (s.linkComesUp r).device = s.device :=
  State.device_of_modRail (s.linkComesUp_view r)

@[simp] theorem State.liftChanges_device (s : State) (r : Rail) (asserted : Bool) :
    (s.liftChanges r asserted).device = s.device := State.device_of_modRail (s.liftChanges_view r asserted)

theorem State.stepEffect_device (s : State) (r : Rail) : (s.stepEffect r).device = s.device := by
  have counted (u : State) (k : u.view = s.view) : u.device = s.device := State.device_of_view k
  cases hw : (s.rail r).seq.state with
  | off | lifted | linkDown =>
    rw [s.stepEffect_closed r (by simp [hw])]
    exact counted _ (s.countUntested_view r)
  | waiting =>
    cases hh : (s.rail r).seq.held
    · rw [s.stepEffect_waiting r hw hh]
      unfold State.startSweep
      split
      · exact s.fireShot_device r 0
      · exact counted _ (by simp)
    · rw [s.stepEffect_held r (.inl hw) hh]
      exact counted _ (s.countUntested_view r)
  | shot =>
    cases hh : (s.rail r).seq.held
    · rw [s.stepEffect_shot r hw hh]
      exact counted _ (by simp)
    · rw [s.stepEffect_held r (.inr hw) hh]
      exact counted _ (s.countUntested_view r)

theorem State.sweepStep_device (s : State) (r : Rail) (n : Nat) : (s.sweepStep r n).device = s.device := by
  unfold State.sweepStep
  split
  · exact State.stepEffect_device _ r
  · rfl

theorem State.endTimerExpires_device (s : State) (r : Rail) : (s.endTimerExpires r).device = s.device := by
  unfold State.endTimerExpires
  split
  · rfl
  · dsimp only
    split
    · simp
    · refine (State.device_of_view (State.reportHeld_view _ r)).trans
        ((State.device_of_view (State.countSweepOf_view _ r _)).trans
          ((State.device_of_modRail (State.seqLinkDown_view _ r)).trans
            ((State.device_of_modRail (State.linkGoesDown_view _ r)).trans ?_)))
      simp

/-! ## Rows that keep LOCKED -/

/-- From LOCKED to LOCKED. -/
def State.keepsLocked (s t : State) : Prop := s.device = .locked → t.device = .locked

theorem State.keepsLocked_of_device {s t : State} (h : t.device = s.device) : s.keepsLocked t := h.trans

theorem State.keepsLocked_of_view {s t : State} (h : t.view = s.view) : s.keepsLocked t :=
  State.keepsLocked_of_device (State.device_of_view h)

theorem State.keepsLocked.trans {s t u : State} (h : s.keepsLocked t) (k : t.keepsLocked u) : s.keepsLocked u := k ∘ h

/-- A row that acts in another operating state alone keeps LOCKED. -/
theorem State.keepsLocked_of_guard {s t : State} {d : OpState} (h : s.device = d) (hd : d ≠ .locked) : s.keepsLocked t :=
  fun hl => absurd (h.symm.trans hl) hd

theorem State.movesInRange.keepsLocked {s t : State} (h : s.movesInRange t) : s.keepsLocked t :=
  State.keepsLocked_of_device (congrArg View.device h.1)

theorem State.takeRaise_keepsLocked (s : State) (src : Source) (d : Detail) : s.keepsLocked (s.takeRaise src d) := by
  rcases s.takeRaise_view src d with h | ⟨hd | hd, -⟩ | ⟨hd, -⟩
  · exact State.keepsLocked_of_view h
  · exact State.keepsLocked_of_guard hd nofun
  · exact State.keepsLocked_of_guard hd nofun
  · exact State.keepsLocked_of_guard hd nofun

theorem State.ackAlarm_keepsLocked (s : State) (q : Request) : s.keepsLocked (s.ackAlarm q) := by
  rcases s.ackAlarm_view q with h | ⟨u, hu, h⟩
  · exact State.keepsLocked_of_view h
  · refine State.keepsLocked.trans (State.keepsLocked_of_view hu) ?_
    rcases u.leaveFaulted_view with k | ⟨hd, -⟩
    · exact State.keepsLocked_of_view (h.trans k)
    · exact State.keepsLocked_of_guard hd nofun

theorem State.railPurged_keepsLocked (s : State) (r : Rail) : s.keepsLocked (s.railPurged r) := by
  rcases s.railPurged_view r with h | ⟨hd, -⟩
  · exact State.keepsLocked_of_view h
  · exact fun hl => absurd hl hd

theorem State.stopRequest_keepsLocked (s : State) (q : Request) : s.keepsLocked (s.stopRequest q) := by
  rcases s.stopRequest_view q with h | ⟨hd, -⟩
  · exact State.keepsLocked_of_view h
  · exact State.keepsLocked_of_guard hd nofun

theorem State.endActivationLoad_keepsLocked (s : State) (l : Load) (c : List Byte) (fromActive : Bool)
    (mode : SwitchMode) (position : Nat) : s.keepsLocked (s.endActivationLoad l c fromActive mode position) := by
  rcases s.endActivationLoad_view l c fromActive mode position with h | ⟨hd, -⟩
  · exact State.keepsLocked_of_view h
  · exact State.keepsLocked_of_guard hd nofun

theorem State.takeRequest_keepsLocked (s : State) (kind : Request → Bool) (owner : State → Request → State)
    (h : ∀ (u : State) (q : Request), u.keepsLocked (owner u q)) : s.keepsLocked (s.takeRequest kind owner) := by
  unfold State.takeRequest
  split
  · exact id
  · rename_i q rest _
    have k : s.keepsLocked (owner (s.modReq fun h => { h with scan := rest }) q) :=
      h (s.modReq fun h => { h with scan := rest }) q
    split
    · dsimp only
      split
      · exact k.trans (State.keepsLocked_of_view (State.endScan_view _))
      · exact k
    · exact id

theorem State.beginBind_device (s : State) : s.beginBind.device = s.device := by
  unfold State.beginBind
  split <;> rfl

/-- A write to CONTROL whose command is not RESET. -/
theorem State.writeControl_keepsLocked (s : State) (v : Word) (h : commandField v ≠ 2) :
    s.keepsLocked (s.writeControl v) := by
  refine State.keepsLocked_of_device ?_
  unfold State.writeControl
  dsimp only
  split
  · exact State.beginBind_device _
  · split
    · exact absurd ‹_› h
    · rfl

theorem State.writeRegister_keepsLocked (s : State) (offset : Nat) (v : Word) (h : offset = 0x04 → commandField v ≠ 2) :
    s.keepsLocked (s.writeRegister offset v) := by
  unfold State.writeRegister
  split
  · exact s.writeControl_keepsLocked v (h ‹_›)
  · (repeat' split) <;> exact id

/-! ## Every row -/

/-- Every row but a reset, from a state in step, answers a next state that is LOCKED where this one is. -/
theorem exec_keepsLocked (c : Instr) (s : State) (h : s.inStep) (hc : ¬ isReset c) :
    ∃ t, exec c s = .next t ∧ s.keepsLocked t := by
  by_cases hv : c.keepsView = true
  · obtain ⟨t, ht, e⟩ := exec_view c s hv
    exact ⟨t, ht, State.keepsLocked_of_view e⟩
  cases c with
  | hardwareReset pins => exact absurd (.inl ⟨pins, rfl⟩) hc
  | rawInputChange a b m =>
    exact ⟨_, rfl, ((s.acceptDue_moves false).trans
      ((State.modPos_moves _ _ ⟨id, le_rfl, rfl⟩).inRange.trans (State.acceptDue_moves _ _))).keepsLocked⟩
  | holdTimerExpiry markFirst =>
    refine ⟨_, rfl, ?_⟩
    split
    · exact id
    · exact ((s.modPos_moves _ ⟨id, le_rfl, rfl⟩).inRange.trans (State.acceptDue_moves _ _)).keepsLocked
  | setPositionNow =>
    exact ⟨_, rfl, s.takeRequest_keepsLocked _ _ fun u q => (u.setPositionNow_moves q).inRange.keepsLocked⟩
  | setPositionAtMark =>
    exact ⟨_, rfl, s.takeRequest_keepsLocked _ _ fun u q => (u.setPositionAtMark_moves q).inRange.keepsLocked⟩
  | stop => exact ⟨_, rfl, s.takeRequest_keepsLocked _ _ State.stopRequest_keepsLocked⟩
  | ackAlarm => exact ⟨_, rfl, s.takeRequest_keepsLocked _ _ State.ackAlarm_keepsLocked⟩
  | bind v => exact ⟨_, rfl, s.writeControl_keepsLocked v fun e => hc (.inr ⟨v, e, .inl rfl⟩)⟩
  | reset v => exact ⟨_, rfl, s.writeControl_keepsLocked v fun e => hc (.inr ⟨v, e, .inr (.inl rfl)⟩)⟩
  | controlNone v =>
    exact ⟨_, rfl, s.writeControl_keepsLocked v fun e => hc (.inr ⟨v, e, .inr (.inr (.inl rfl))⟩)⟩
  | registerWrite offset v =>
    exact ⟨_, rfl, s.writeRegister_keepsLocked offset v fun ho e =>
      hc (.inr ⟨v, e, .inr (.inr (.inr (congrArg (Instr.registerWrite · v) ho)))⟩)⟩
  | bindComplete block =>
    refine ⟨_, rfl, ?_⟩
    split
    · exact id
    · obtain ⟨-, binding, -⟩ := h
      exact State.keepsLocked_of_guard (binding (by simp [*])) nofun
  | sampleFrame r bytes | endFrame r bytes | idleFrame r bytes | badFrame r bytes =>
    exact ⟨_, rfl, fun hl => by rw [s.receive_outside r bytes (by rw [hl]; nofun), hl]⟩
  | endTimerExpiry r =>
    refine ⟨_, rfl, State.keepsLocked_of_device ?_⟩
    split
    · exact s.endTimerExpires_device r
    · rfl
  | presenceTimerExpiry r =>
    refine ⟨_, rfl, ?_⟩
    split
    · rename_i running
      exact State.keepsLocked_of_guard running.1 nofun
    · exact id
  | linkUp r =>
    refine ⟨_, rfl, State.keepsLocked_of_device ?_⟩
    split
    · exact s.linkComesUp_device r
    · rfl
  | liftChange r asserted =>
    refine ⟨_, rfl, State.keepsLocked_of_device ?_⟩
    split
    · rfl
    · exact s.liftChanges_device r asserted
  | sweepStep r strikes =>
    have struck : (s.strike strikes).device = s.device := State.device_of_view (s.strike_view strikes)
    refine ⟨_, rfl, State.keepsLocked_of_device ?_⟩
    split
    · exact (State.device_of_view (State.putNotices_view _ r _)).trans ((State.sweepStep_device _ r _).trans struck)
    · exact struck
  | markerStopPurge r =>
    refine ⟨_, rfl, ?_⟩
    split
    · rename_i rest _
      have e : ((s.putMarkOrders r rest).purge r .stopped).view = s.view := by simp
      exact (State.keepsLocked_of_view e).trans (State.railPurged_keepsLocked _ r)
    · exact id
  | planLoadComplete bytes =>
    refine ⟨_, rfl, ?_⟩
    (repeat' split)
    · exact id
    · exact State.keepsLocked_of_view (s.endCheck_view _ _)
    · exact s.endActivationLoad_keepsLocked _ _ _ _ _
  | alarmRaise who =>
    refine ⟨_, rfl, ?_⟩
    (repeat' split) <;> try exact id
    rename_i rest _
    exact (State.keepsLocked_of_device (State.modAlarm_device s _)).trans (State.takeRaise_keepsLocked _ _ _)
  | recordOffer =>
    refine ⟨_, rfl, ?_⟩
    (repeat' split) <;> try exact id
    rename_i x rest _
    obtain ⟨queue, e, -⟩ := (s.modJrn fun j => { j with presented := rest }).placeRecord_view x.2
    exact State.keepsLocked_of_device (congrArg View.device e)
  | journalTakeRecord masks | roomCheckRetry masks =>
    have checked (u : State) (x : Rec) (hu : u.device = s.device) : s.keepsLocked (u.roomCheck x masks) := by
      refine State.keepsLocked_of_device (Eq.trans ?_ hu)
      rcases u.roomCheck_view x masks with e | e <;> exact congrArg View.device e
    refine ⟨_, rfl, ?_⟩
    (repeat' split)
    · exact id
    · exact checked _ _ rfl
    · exact id
  | journalWriteComplete =>
    have written (x : Rec) : (s.recordWritten x).device = s.device := State.device_of_view (s.recordWritten_view x)
    refine ⟨_, rfl, State.keepsLocked_of_device ?_⟩
    (repeat' split) <;> try rfl
    · exact written _
    · exact written _
  | _ => exact absurd rfl hv

/-- Settles O8: every row but a reset keeps LOCKED. -/
theorem lockedIsLeftOnlyByAReset : Obligations.LockedIsLeftOnlyByAReset := by
  intro c s t hs hl h hc
  obtain ⟨u, hu, k⟩ := exec_keepsLocked c s hs hc
  cases hu.symm.trans h
  exact k hl

end Sys2Proof.Machine
end

section
/-! PROOFS. The records of the alarm sources, each by its source: what a change of one leaves of the others, the alarm level
and the top source (R152), and ALARM records offered one after another as sources are acted on in turn. -/

namespace Sys2Proof.Machine

/-! ## Sources by their ids (R146) -/

theorem Source.all_getElem? (src : Source) : Source.all[src.id]? = some src := by
  cases src <;> rfl

theorem Source.mem_all (src : Source) : src ∈ Source.all := List.mem_of_getElem? src.all_getElem?

theorem Source.id_injective : Function.Injective Source.id := fun x y h =>
  Option.some.inj (x.all_getElem?.symm.trans (h ▸ y.all_getElem?))

theorem Source.all_pairwise : Source.all.Pairwise fun x y => x.id < y.id := by decide

theorem Source.nodup_all : Source.all.Nodup := by decide

theorem Source.map_id_all : Source.all.map Source.id = List.range 15 := rfl

theorem Source.id_lt (src : Source) : src.id < 15 :=
  List.mem_range.mp (Source.map_id_all ▸ List.mem_map_of_mem src.mem_all)

theorem Source.exists_id {i : Nat} (h : i < 15) : ∃ src : Source, src.id = i := by
  obtain ⟨src, -, hid⟩ := List.mem_map.mp (Source.map_id_all ▸ List.mem_range.mpr h)
  exact ⟨src, hid⟩

/-! ## The record of a source -/

theorem AlarmUnit.source_getElem? (a : AlarmUnit) (h : a.sources.length = 15) (src : Source) :
    a.sources[src.id]? = some (a.source src) := by
  have hlt : src.id < a.sources.length := by rw [h]; exact src.id_lt
  rw [AlarmUnit.source, List.getD_eq_getElem?_getD, List.getElem?_eq_getElem hlt, Option.getD_some]

/-- The records in id order. -/
theorem AlarmUnit.sources_eq (a : AlarmUnit) (h : a.sources.length = 15) : a.sources = Source.all.map a.source := by
  refine List.ext_getElem? fun i => ?_
  rw [List.getElem?_map]
  by_cases hi : i < 15
  · obtain ⟨src, rfl⟩ := Source.exists_id hi
    rw [a.source_getElem? h, src.all_getElem?, Option.map_some]
  · have none : Source.all[i]? = none := List.getElem?_eq_none (Nat.not_lt.mp hi)
    rw [List.getElem?_eq_none (by omega), none, Option.map_none]

theorem AlarmUnit.source_of_map {a : AlarmUnit} {g : Source → SourceRecord} (h : a.sources = Source.all.map g)
    (src : Source) : a.source src = g src := by
  rw [AlarmUnit.source, h, List.getD_eq_getElem?_getD, List.getElem?_map, src.all_getElem?]
  rfl

theorem AlarmUnit.mem_sources (a : AlarmUnit) (h : a.sources.length = 15) (x : SourceRecord) :
    x ∈ a.sources ↔ ∃ src, a.source src = x := by
  rw [a.sources_eq h, List.mem_map]
  exact ⟨fun ⟨src, _, e⟩ => ⟨src, e⟩, fun ⟨src, e⟩ => ⟨src, src.mem_all, e⟩⟩

theorem AlarmUnit.set_eq_map (a : AlarmUnit) (h : a.sources.length = 15) (src : Source) (y : SourceRecord) :
    a.sources.set src.id y = Source.all.map fun z => if z = src then y else a.source z := by
  refine List.ext_getElem? fun i => ?_
  rw [List.getElem?_map]
  by_cases hi : i < 15
  · obtain ⟨z, rfl⟩ := Source.exists_id hi
    rw [z.all_getElem?, Option.map_some]
    by_cases hz : z = src
    · rw [if_pos hz, hz, List.getElem?_set_self (by rw [h]; exact src.id_lt)]
    · rw [if_neg hz, List.getElem?_set_ne fun e => hz (Source.id_injective e.symm), a.source_getElem? h]
  · have none : Source.all[i]? = none := List.getElem?_eq_none (Nat.not_lt.mp hi)
    rw [List.getElem?_eq_none (by rw [List.length_set]; omega), none, Option.map_none]

/-- The record of one source replaced. -/
def State.putSource (s : State) (src : Source) (y : SourceRecord) : State :=
  { s with alarm := { s.alarm with sources := s.alarm.sources.set src.id y } }

theorem State.putSource_putSource (s : State) (src : Source) (x y : SourceRecord) :
    (s.putSource src x).putSource src y = s.putSource src y := by
  simp only [State.putSource, List.set_set]

section
variable {s : State} (h : s.alarm.sources.length = 15)
include h

theorem State.putSource_length (src : Source) (y : SourceRecord) : (s.putSource src y).alarm.sources.length = 15 := by
  rw [State.putSource, List.length_set, h]

theorem State.putSource_source (src z : Source) (y : SourceRecord) :
    (s.putSource src y).alarm.source z = if z = src then y else s.alarm.source z :=
  AlarmUnit.source_of_map (a := (s.putSource src y).alarm) (s.alarm.set_eq_map h src y) z

theorem State.putSource_source_same (src : Source) (y : SourceRecord) : (s.putSource src y).alarm.source src = y :=
  (State.putSource_source h src src y).trans (if_pos rfl)

theorem State.modSource_eq_putSource (src : Source) (f : SourceRecord → SourceRecord) :
    s.modSource src f = s.putSource src (f (s.alarm.source src)) := by
  have e : s.alarm.sources.modify src.id f = s.alarm.sources.set src.id (f (s.alarm.source src)) := by
    rw [List.modify_eq_set_getElem?, s.alarm.source_getElem? h]
    rfl
  rw [State.modSource, State.modAlarm, AlarmUnit.modSource, e]
  rfl

theorem State.putSource_self (src : Source) : s.putSource src (s.alarm.source src) = s := by
  have e : s.alarm.sources.set src.id (s.alarm.source src) = s.alarm.sources := by
    rw [s.alarm.set_eq_map h]
    conv_rhs => rw [s.alarm.sources_eq h]
    refine List.map_congr_left fun z _ => ?_
    split
    · rename_i hz
      rw [hz]
    · rfl
  rw [State.putSource, e]

end

/-! ## The alarm level (R152) -/

section
variable (a : AlarmUnit) (h : a.sources.length = 15)

/-- The alarm level is the greatest of 0 and what the sources add. -/
theorem AlarmUnit.alarmLevel_greatest : a.alarmLevel ∈ 0 :: a.sources.map SourceRecord.contribution ∧
    ∀ n ∈ 0 :: a.sources.map SourceRecord.contribution, n ≤ a.alarmLevel :=
  List.max?_eq_some_iff.mp List.max?_cons'

include h

theorem AlarmUnit.contribution_le (src : Source) : (a.source src).contribution ≤ a.alarmLevel :=
  a.alarmLevel_greatest.2 _ (List.mem_cons_of_mem _
    (List.mem_map_of_mem ((a.mem_sources h _).mpr ⟨src, rfl⟩)))

theorem AlarmUnit.alarmLevel_attained : a.alarmLevel = 0 ∨ ∃ src, (a.source src).contribution = a.alarmLevel := by
  refine (List.mem_cons.mp a.alarmLevel_greatest.1).imp id fun mem => ?_
  obtain ⟨x, hx, e⟩ := List.mem_map.mp mem
  obtain ⟨src, rfl⟩ := (a.mem_sources h x).mp hx
  exact ⟨src, e⟩

theorem AlarmUnit.level_le_of_pending (src : Source) (hp : (a.source src).state = .pending) :
    (a.source src).level ≤ a.alarmLevel := by
  have le := a.contribution_le h src
  rwa [SourceRecord.contribution, if_pos hp] at le

/-- A level above 0 is that of a PENDING source. -/
theorem AlarmUnit.alarmLevel_pending (hl : 0 < a.alarmLevel) :
    ∃ src, (a.source src).state = .pending ∧ (a.source src).level = a.alarmLevel := by
  rcases a.alarmLevel_attained h with zero | ⟨src, e⟩
  · omega
  · by_cases hp : (a.source src).state = .pending
    · rw [SourceRecord.contribution, if_pos hp] at e
      exact ⟨src, hp, e⟩
    · rw [SourceRecord.contribution, if_neg hp] at e
      omega

/-- What adds no more gives no higher level. -/
theorem AlarmUnit.alarmLevel_mono (b : AlarmUnit) (hb : b.sources.length = 15)
    (hle : ∀ src, (a.source src).contribution ≤ (b.source src).contribution) : a.alarmLevel ≤ b.alarmLevel := by
  rcases a.alarmLevel_attained h with zero | ⟨src, e⟩
  · omega
  · exact e ▸ (hle src).trans (b.contribution_le hb src)

/-- The top source is the first of the PENDING sources at the alarm level. -/
theorem AlarmUnit.topSource_pending (hl : 0 < a.alarmLevel) : ∃ src : Source, a.topSource = some src.id ∧
    (a.source src).state = .pending ∧ (a.source src).level = a.alarmLevel ∧
    ∀ other, (a.source other).state = .pending → (a.source other).level = a.alarmLevel → src.id ≤ other.id := by
  obtain ⟨top, pending, level⟩ := a.alarmLevel_pending h hl
  let p : SourceRecord → Bool := fun x => x.state == .pending && x.level == a.alarmLevel
  have hp (src : Source) : p (a.source src) = true ↔
      (a.source src).state = .pending ∧ (a.source src).level = a.alarmLevel := by simp [p]
  have search : a.topSource = a.sources.findIdx? p := if_neg (Nat.ne_of_gt hl)
  have some_found : (a.sources.findIdx? p).isSome = true := by
    rw [List.findIdx?_isSome, List.any_eq_true]
    exact ⟨_, (a.mem_sources h _).mpr ⟨top, rfl⟩, (hp top).mpr ⟨pending, level⟩⟩
  obtain ⟨i, hi⟩ := Option.isSome_iff_exists.mp some_found
  obtain ⟨hlt, found, first⟩ := List.findIdx?_eq_some_iff_getElem.mp hi
  obtain ⟨src, rfl⟩ := Source.exists_id (h ▸ hlt)
  have at_ (z : Source) (hz : z.id < a.sources.length) : a.sources[z.id] = a.source z :=
    Option.some.inj ((List.getElem?_eq_getElem hz).symm.trans (a.source_getElem? h z))
  rw [at_] at found
  refine ⟨src, search.trans hi, ((hp src).mp found).1, ((hp src).mp found).2, fun other ho hlo => ?_⟩
  by_contra lower
  refine first other.id (Nat.not_le.mp lower) ?_
  rw [at_]
  exact (hp other).mpr ⟨ho, hlo⟩

end

/-- A level formed anew that is no higher sets no cause. -/
theorem State.formed_of_le (s : State) (n : Nat) (h : s.alarm.alarmLevel ≤ n) : s.formed n = s :=
  if_neg (by omega)

/-- A level formed anew behind a change of one source that adds no more. -/
theorem State.alarmLevel_putSource_le {s : State} (h : s.alarm.sources.length = 15) (src : Source) (y : SourceRecord)
    (hy : y.contribution ≤ (s.alarm.source src).contribution) :
    (s.putSource src y).alarm.alarmLevel ≤ s.alarm.alarmLevel := by
  refine AlarmUnit.alarmLevel_mono _ (State.putSource_length h src y) _ h fun z => ?_
  rw [State.putSource_source h]
  split
  · rename_i hz
    exact hz ▸ hy
  · exact le_rfl

theorem SourceRecord.contribution_congr {x y : SourceRecord} (hs : x.state = y.state) (hl : x.level = y.level) :
    x.contribution = y.contribution := by
  rw [SourceRecord.contribution, SourceRecord.contribution, hs, hl]

/-- A change of one source that leaves its state and its level leaves the alarm level. -/
theorem State.alarmLevel_putSource_eq {s : State} (h : s.alarm.sources.length = 15) (src : Source) (y : SourceRecord)
    (hs : y.state = (s.alarm.source src).state) (hl : y.level = (s.alarm.source src).level) :
    (s.putSource src y).alarm.alarmLevel = s.alarm.alarmLevel := by
  have e := SourceRecord.contribution_congr hs hl
  refine le_antisymm (State.alarmLevel_putSource_le h src y e.le) ?_
  conv_lhs => rw [← State.putSource_self h src, ← State.putSource_putSource s src y]
  exact State.alarmLevel_putSource_le (State.putSource_length h src y) src _ (by rw [State.putSource_source_same h]; exact e.ge)

/-! ## Records -/

/-- The ALARM record of an action on a source, as the state stands. -/
def State.alarmRecordOf (s : State) (src : Source) (action : AlarmAction) (raises : Nat) (conflict : Bool) : AlarmRecord :=
  { source := src, action := action, state := (s.alarm.source src).state, level := (s.alarm.source src).level,
    raiseCount := raises, conflict := conflict, detail := (s.alarm.source src).detail, alarmLevel := s.alarm.alarmLevel,
    topSource := s.alarm.topSource, device := s.device, suppression := s.alarm.suppression, p := s.pos.p, t := s.pos.t }

theorem State.alarmRecord_eq (s : State) (src : Source) (action : AlarmAction) (raises : Nat) (conflict : Bool) :
    s.alarmRecord src action raises conflict =
      s.offered .alarmUnit [.alarm (s.alarmRecordOf src action raises conflict)] := s.offer_eq_offered ..

end Sys2Proof.Machine
end

section
/-! PROOFS. Raises of soft sources and ends of conditions: what either does to its source (R147, R148). -/

namespace Sys2Proof.Machine

/-! ## Reports taken (R147, R148) -/

theorem AlarmUnit.firstReport_eq (a : AlarmUnit) (who : Raiser) (x : Report) (before rest : List (Raiser × Report))
    (h : a.reports = before ++ (who, x) :: rest) (hb : ∀ y ∈ before, y.1 ≠ who) :
    a.firstReport who = some (x, before ++ rest) := by
  rw [AlarmUnit.firstReport, h, takeFirst_append _ before rest (who, x) (fun y hy => by simpa using hb y hy) (by simp)]
  rfl

theorem exec_alarmRaise_eq (s : State) (who : Raiser) (src : Source) (d : Detail) (before rest : List (Raiser × Report))
    (h : s.alarm.reports = before ++ (who, .raise src d) :: rest) (hb : ∀ y ∈ before, y.1 ≠ who) :
    exec (.alarmRaise who) s = .next ((s.putReports (before ++ rest)).takeRaise src d) := by
  show execAlarmRaise who s = _
  rw [execAlarmRaise, s.alarm.firstReport_eq who _ before rest h hb]

theorem exec_conditionEnd_eq (s : State) (who : Raiser) (src : Source) (rail : Option Rail)
    (before rest : List (Raiser × Report)) (h : s.alarm.reports = before ++ (who, .condEnd src rail) :: rest)
    (hb : ∀ y ∈ before, y.1 ≠ who) :
    exec (.conditionEnd who) s = .next ((s.putReports (before ++ rest)).endCondition src rail) := by
  show execConditionEnd who s = _
  rw [execConditionEnd, s.alarm.firstReport_eq who _ before rest h hb]

/-! ## Raises of a soft source (R147) -/

/-- The rail mask replaced. -/
def State.putMask (s : State) (mask : Both Bool) : State := { s with alarm := { s.alarm with linkMask := mask } }

/-- The detail and the mask that a raise stores. -/
def State.raiseStores (s : State) (src : Source) (d detail : Detail) (mask : Both Bool) : Prop :=
  src ≠ .linkDown ∧ detail = d ∧ mask = s.alarm.linkMask ∨
    src = .linkDown ∧ detail = .mask mask.a mask.b ∧ ∃ r, d = .rail r ∧ mask = s.alarm.linkMask.set r true

theorem State.maskRail_of_ne (s : State) (src : Source) (d : Detail) (h : src ≠ .linkDown) : s.maskRail src d = s := by
  unfold State.maskRail
  split
  · exact absurd rfl h
  · rfl

/-- A raise's first effect on the record of its source. -/
def SourceRecord.raised (x : SourceRecord) (src : Source) (detail : Detail) : SourceRecord :=
  { x with detail := some detail, present := x.present || src.isCondition }

theorem State.storeRaise_eq (s : State) (h : s.alarm.sources.length = 15) (src : Source) (d detail : Detail)
    (mask : Both Bool) (hm : s.raiseStores src d detail mask) :
    s.storeRaise src d = (s.putMask mask).putSource src ((s.alarm.source src).raised src detail) := by
  rcases hm with ⟨hs, rfl, rfl⟩ | ⟨rfl, rfl, r, rfl, rfl⟩
  · rw [State.storeRaise, s.maskRail_of_ne src _ hs, State.modSource_eq_putSource h, AlarmUnit.latestDetail, if_neg hs]
    rfl
  · exact State.modSource_eq_putSource (s := s.putMask (s.alarm.linkMask.set r true)) h .linkDown fun x =>
      x.raised .linkDown (.mask (s.alarm.linkMask.set r true).a (s.alarm.linkMask.set r true).b)

/-- A raise taken of a source whose case is not to become PENDING as a fault. -/
theorem State.takeRaise_soft (s u : State) (src : Source) (d : Detail) (hu : s.storeRaise src d = u)
    (hf : src.isFault = true → u.raiseCase src ≠ .pends) :
    s.takeRaise src d = (u.raiseSoft src).formed u.alarm.alarmLevel := by
  subst hu
  exact if_neg fun k => hf k.1 k.2

section
variable {u : State} {src : Source}

theorem State.raiseCase_unbound (hd : u.device = .unbound) : u.raiseCase src = .unbound := if_pos hd

variable (hd : u.device ≠ .unbound)
include hd

theorem State.raiseCase_disabled (hf : src.isFault = false) (hl : (u.alarm.source src).level = 0) :
    u.raiseCase src = .disabled := by
  rw [State.raiseCase, if_neg hd, if_pos ⟨hf, hl⟩]

theorem State.raiseCase_pending (hp : (u.alarm.source src).state = .pending) :
    u.raiseCase src = .disabled ∨ u.raiseCase src = .counts := by
  rw [State.raiseCase, if_neg hd, if_pos hp]
  split
  · exact .inl rfl
  · exact .inr rfl

theorem State.raiseCase_suppressed (hf : src.isFault = false) (hp : (u.alarm.source src).state ≠ .pending)
    (h1 : 1 ≤ (u.alarm.source src).level) (h6 : (u.alarm.source src).level ≤ 6) (hs : 0 < u.alarm.suppression) :
    u.raiseCase src = .suppressed := by
  rw [State.raiseCase, if_neg hd, if_neg (by omega), if_neg hp, if_pos ⟨by simp [AlarmUnit.suppressible, Machine.within, hf, h1, h6], hs⟩]

theorem State.raiseCase_pends (hp : (u.alarm.source src).state ≠ .pending)
    (hf : src.isFault = true ∨ 1 ≤ (u.alarm.source src).level ∧
      (6 < (u.alarm.source src).level ∨ u.alarm.suppression = 0)) : u.raiseCase src = .pends := by
  rw [State.raiseCase, if_neg hd, if_neg, if_neg hp, if_neg]
  · rintro ⟨k, hs⟩
    simp only [AlarmUnit.suppressible, Machine.within, Bool.and_eq_true, Bool.not_eq_true', decide_eq_true_eq] at k
    obtain ⟨soft, -, le⟩ := k
    simp only [soft, Bool.false_eq_true, false_or] at hf
    omega
  · rintro ⟨soft, zero⟩
    simp only [soft, Bool.false_eq_true, false_or] at hf
    omega

end

section
variable {u : State} (h : u.alarm.sources.length = 15) {src : Source}
include h

/-- A raise that only counts leaves the alarm level. -/
theorem State.raiseSoft_counts (hc : u.raiseCase src = .disabled ∨ u.raiseCase src = .counts) :
    (u.raiseSoft src).formed u.alarm.alarmLevel =
      u.putSource src { u.alarm.source src with raiseCount := bump16 (u.alarm.source src).raiseCount } := by
  have counted : u.raiseSoft src =
      u.putSource src { u.alarm.source src with raiseCount := bump16 (u.alarm.source src).raiseCount } := by
    rw [← State.modSource_eq_putSource h src fun x => { x with raiseCount := bump16 x.raiseCount }]
    rcases hc with hc | hc <;> rw [State.raiseSoft, hc] <;> rfl
  rw [counted]
  exact State.formed_of_le _ _ (State.alarmLevel_putSource_le h src _ (SourceRecord.contribution_congr rfl rfl).le)

/-- A raise that makes its source PENDING. -/
theorem State.raiseSoft_pends (hc : u.raiseCase src = .pends) :
    u.raiseSoft src =
      (u.putSource src { u.alarm.source src with state := .pending, raiseCount := 0 }).alarmRecord src .raised 0 false := by
  rw [State.raiseSoft, hc, ← State.modSource_eq_putSource h src fun x => { x with state := .pending, raiseCount := 0 }]
  rfl

end

theorem State.raiseSoft_unbound (u : State) (src : Source) (hd : u.device = .unbound) : u.raiseSoft src = u := by
  rw [State.raiseSoft, State.raiseCase_unbound hd]

/-- A raise held back by suppression leaves the alarm level. -/
theorem State.raiseSoft_suppressed (u : State) (src : Source) (hc : u.raiseCase src = .suppressed) :
    (u.raiseSoft src).formed u.alarm.alarmLevel =
      (u.modAlarm fun a => { a with suppressedCount := bump16 a.suppressedCount }).alarmRecord src .suppressed 0 false := by
  have suppressed : u.raiseSoft src =
      (u.modAlarm fun a => { a with suppressedCount := bump16 a.suppressedCount }).alarmRecord src .suppressed 0 false := by
    rw [State.raiseSoft, hc]
    rfl
  rw [suppressed, State.alarmRecord_eq]
  exact State.formed_of_le _ _ le_rfl

/-! ## Ends (R148) -/

/-- The mask that an end leaves. -/
def State.endLeaves (s : State) (src : Source) (rail : Option Rail) (mask : Both Bool) : Prop :=
  src ≠ .linkDown ∧ mask = s.alarm.linkMask ∨ src = .linkDown ∧ ∃ r, rail = some r ∧ mask = s.alarm.linkMask.set r false

theorem State.unmaskRail_eq (s : State) (src : Source) (rail : Option Rail) (mask : Both Bool)
    (hm : s.endLeaves src rail mask) : s.unmaskRail src rail = s.putMask mask := by
  rcases hm with ⟨hs, rfl⟩ | ⟨rfl, r, rfl, rfl⟩
  · unfold State.unmaskRail
    split
    · exact absurd rfl hs
    · rfl
  · rfl

theorem Both.eq_false_iff (mask : Both Bool) : mask = ⟨false, false⟩ ↔ ¬ (mask.a = true ∨ mask.b = true) := by
  cases mask
  simp

section
variable {s u : State} {src : Source} {rail : Option Rail} (h : u.alarm.sources.length = 15)
  (hu : s.unmaskRail src rail = u)
include hu

/-- An end of LINK_DOWN with the other rail still down takes its rail from the mask, no more. -/
theorem State.endCondition_remains (hl : src = .linkDown) (hm : u.alarm.linkMask ≠ ⟨false, false⟩) :
    s.endCondition src rail = u := by
  subst hu
  exact if_pos ⟨hl, not_not.mp fun k => hm ((Both.eq_false_iff _).mpr k)⟩

include h

/-- A condition that ends clears its present flag. -/
theorem State.endCondition_ended (hm : src ≠ .linkDown ∨ u.alarm.linkMask = ⟨false, false⟩) :
    s.endCondition src rail =
      if (u.alarm.source src).state = .acknowledged ∧ u.device ≠ .unbound then
        (u.putSource src { u.alarm.source src with present := false, state := .idle }).alarmRecord src .cleared
          (u.alarm.source src).raiseCount false
      else u.putSource src { u.alarm.source src with present := false } := by
  subst hu
  have ends : ¬ (src = .linkDown ∧ ((s.unmaskRail src rail).alarm.linkMask.a = true ∨
      (s.unmaskRail src rail).alarm.linkMask.b = true)) := fun ⟨k, down⟩ =>
    (Both.eq_false_iff _).mp (hm.resolve_left (not_not.mpr k)) down
  rw [State.endCondition]
  dsimp only
  rw [if_neg ends]
  generalize s.unmaskRail src rail = u at h ⊢
  rw [State.modSource_eq_putSource h src fun x => { x with present := false }]
  have length := State.putSource_length h src { u.alarm.source src with present := false }
  rw [State.modSource_eq_putSource length src fun x => { x with state := .idle }, State.putSource_source_same h,
    State.putSource_putSource]
  refine if_congr .rfl ?_ rfl
  rw [State.alarmRecord_eq]
  refine State.formed_of_le _ _ (State.alarmLevel_putSource_le h src _ ?_)
  exact Nat.zero_le _

end

end Sys2Proof.Machine
end

section
/-! PROOFS. Sources acted on in turn: the records they leave, and the records offered for them; new soft levels (R151). -/

namespace Sys2Proof.Machine

/-! ## Actions one after another -/

/-- A fold that acts on the elements that satisfy a predicate, from what it has acted on so far. -/
theorem foldl_actions {α β : Type} (f : β → α → β) (st : List α → β) (p : α → Bool) (done xs acts : List α)
    (hn : xs.Nodup) (hx : ∀ x ∈ xs, x ∈ acts → x ∈ done)
    (step : ∀ ys x, (x ∈ ys → x ∈ done) → f (st ys) x = if p x then st (ys ++ [x]) else st ys) :
    xs.foldl f (st acts) = st (acts ++ xs.filter p) := by
  induction xs generalizing acts with
  | nil => rw [List.foldl_nil, List.filter_nil, List.append_nil]
  | cons x xs ih =>
    obtain ⟨new, hn⟩ := List.nodup_cons.mp hn
    rw [List.foldl_cons, step acts x (hx x List.mem_cons_self), List.filter_cons]
    split
    · rw [ih (acts ++ [x]) hn, List.append_assoc, List.singleton_append]
      intro y hy hmem
      rcases List.mem_append.mp hmem with k | k
      · exact hx y (List.mem_cons_of_mem x hy) k
      · exact absurd (List.mem_singleton.mp k ▸ hy) new
    · exact ih acts hn fun y hy => hx y (List.mem_cons_of_mem x hy)

/-- What is done to a source: the record it gets, the action its ALARM record names, and the raises that record carries. -/
structure SourceAction where
  record : SourceRecord
  action : AlarmAction
  raises : Nat

section
variable (act : Source → SourceAction) (s : State)

/-- The Alarm Unit with some sources acted on. -/
def AlarmUnit.after (a : AlarmUnit) (acts : List Source) : AlarmUnit :=
  { a with sources := Source.all.map fun src => if src ∈ acts then (act src).record else a.source src }

/-- The ALARM record of the action numbered `k`, as the sources stand behind it. -/
def State.actionRecord (acts : List Source) (k : Nat × Source) : AlarmRecord :=
  let a := s.alarm.after act (acts.take (k.1 + 1))
  { source := k.2, action := (act k.2).action, state := (act k.2).record.state, level := (act k.2).record.level,
    raiseCount := (act k.2).raises, conflict := false, detail := (act k.2).record.detail, alarmLevel := a.alarmLevel,
    topSource := a.topSource, device := s.device, suppression := s.alarm.suppression, p := s.pos.p, t := s.pos.t }

/-- The records of some actions, in their order. -/
def State.actionRecords (acts : List Source) : List AlarmRecord := (indexed acts).map (s.actionRecord act acts)

/-- The state with some sources acted on in turn, their records offered. -/
def State.acted (acts : List Source) : State :=
  { s with alarm := s.alarm.after act acts }.offered .alarmUnit ((s.actionRecords act acts).map .alarm)

theorem State.acted_alarm (acts : List Source) : (s.acted act acts).alarm = s.alarm.after act acts := rfl

theorem State.acted_source (acts : List Source) (src : Source) :
    (s.acted act acts).alarm.source src = if src ∈ acts then (act src).record else s.alarm.source src :=
  AlarmUnit.source_of_map (a := s.alarm.after act acts)
    (g := fun z => if z ∈ acts then (act z).record else s.alarm.source z) rfl src

theorem State.acted_source_of_notMem {acts : List Source} {src : Source} (h : src ∉ acts) :
    (s.acted act acts).alarm.source src = s.alarm.source src := by
  rw [State.acted_source, if_neg h]

theorem State.acted_length (acts : List Source) : (s.acted act acts).alarm.sources.length = 15 := rfl

theorem State.actionRecords_concat (acts : List Source) (src : Source) : s.actionRecords act (acts ++ [src]) =
    s.actionRecords act acts ++ [s.actionRecord act (acts ++ [src]) (acts.length, src)] := by
  rw [State.actionRecords, indexed_concat, List.map_append, List.map_singleton]
  refine congrArg (· ++ _) (List.map_congr_left fun k hk => ?_)
  have below : k.1 + 1 ≤ acts.length := List.mem_range.mp (List.of_mem_zip hk).1
  rw [State.actionRecord, State.actionRecord, List.take_append_of_le_length below]

/-- With nothing acted on the state is as it was. -/
theorem State.acted_nil (h : s.alarm.sources.length = 15) : s.acted act [] = s := by
  have e : s.alarm.after act [] = s.alarm := by
    have none (src : Source) : (if src ∈ [] then (act src).record else s.alarm.source src) = s.alarm.source src :=
      if_neg List.not_mem_nil
    rw [AlarmUnit.after, funext none, ← s.alarm.sources_eq h]
  rw [State.acted, e]
  exact s.offered_nil .alarmUnit

/-- One more source acted on. -/
theorem State.acted_concat (acts : List Source) (src : Source) :
    ((s.acted act acts).putSource src (act src).record).alarmRecord src (act src).action (act src).raises false =
      s.acted act (acts ++ [src]) := by
  have length := s.acted_length act acts
  have sources : ((s.acted act acts).putSource src (act src).record).alarm = s.alarm.after act (acts ++ [src]) := by
    show ({ (s.acted act acts).alarm with sources := (s.acted act acts).alarm.sources.set src.id (act src).record }) = _
    rw [AlarmUnit.set_eq_map _ length]
    refine congrArg (fun xs => { s.alarm with sources := xs }) (List.map_congr_left fun z _ => ?_)
    rw [State.acted_source]
    by_cases hz : z = src <;> simp [hz]
  have whole : (acts ++ [src]).take (acts.length + 1) = acts ++ [src] := List.take_of_length_le (by simp)
  have record : ((s.acted act acts).putSource src (act src).record).alarmRecordOf src (act src).action (act src).raises false =
      s.actionRecord act (acts ++ [src]) (acts.length, src) := by
    rw [State.alarmRecordOf, State.putSource_source_same length, sources, State.actionRecord, whole]
    rfl
  rw [State.alarmRecord_eq, record]
  conv_rhs => rw [State.acted, State.actionRecords_concat, List.map_append, List.map_singleton, ← State.offered_offered]
  exact congrArg (fun a => (({ s with alarm := a } : State).offered _ _).offered _ _) sources

end

/-! ## Soft levels (R151) -/

section
variable (levels : List Nat) (s : State)

/-- The level that new soft levels give a source. -/
def State.newLevel (src : Source) : Nat := if src.isFault then (s.alarm.source src).level else levels.getD src.id 0

/-- The record of a source under its new level. -/
def State.relevel (src : Source) : SourceRecord := { s.alarm.source src with level := s.newLevel levels src }

/-- The sources under their new levels. -/
def State.releveled : State := { s with alarm := { s.alarm with sources := Source.all.map (s.relevel levels) } }

/-- A source that its new level disables. -/
def State.clears (src : Source) : Bool :=
  !src.isFault && s.newLevel levels src == 0 && (s.alarm.source src).state != .idle

/-- A waiting condition that a raise would make PENDING under its new level. -/
def State.raises (src : Source) : Bool :=
  !src.isFault && src.isCondition && (s.alarm.source src).state == .idle && (s.alarm.source src).present &&
    s.newLevel levels src != 0 && s.device != .unbound &&
    (decide (6 < s.newLevel levels src) || s.alarm.suppression == 0)

/-- What new soft levels do to a source that they disable, or raise. -/
def State.levelAction (src : Source) : SourceAction :=
  if s.clears levels src then
    { record := { s.relevel levels src with state := .idle }, action := .cleared,
      raises := (s.alarm.source src).raiseCount }
  else { record := { s.relevel levels src with state := .pending, raiseCount := 0 }, action := .raised, raises := 0 }

theorem State.releveled_source (src : Source) : (s.releveled levels).alarm.source src = s.relevel levels src :=
  AlarmUnit.source_of_map (a := (s.releveled levels).alarm) rfl src

theorem State.releveled_eq (h : s.alarm.sources.length = 15) : (s.modAlarm fun a =>
    { a with sources := (indexed a.sources).map fun x =>
        if x.1 < 12 then { x.2 with level := levels.getD x.1 0 } else x.2 }) = s.releveled levels := by
  refine congrArg (fun xs => { s with alarm := { s.alarm with sources := xs } }) (List.ext_getElem? fun i => ?_)
  rw [getElem?_map_indexed, List.getElem?_map]
  by_cases hi : i < 15
  · obtain ⟨src, rfl⟩ := Source.exists_id hi
    rw [s.alarm.source_getElem? h, src.all_getElem?, Option.map_some, Option.map_some, State.relevel, State.newLevel,
      Source.isFault]
    by_cases hf : 12 ≤ src.id
    · simp [hf, Nat.not_lt.mpr hf]
    · simp [hf, Nat.not_le.mp hf]
  · have none : Source.all[i]? = none := List.getElem?_eq_none (Nat.not_lt.mp hi)
    rw [List.getElem?_eq_none (by omega), none, Option.map_none, Option.map_none]

/-- The sources disabled, in id order. -/
theorem State.eachSource_clearDisabled :
    (s.releveled levels).eachSource State.clearDisabled =
      (s.releveled levels).acted (s.levelAction levels) (Source.all.filter (s.clears levels)) := by
  have start := ((s.releveled levels).acted_nil (s.levelAction levels) rfl).symm
  refine (congrArg (Source.all.foldl State.clearDisabled) start).trans
    (foldl_actions _ ((s.releveled levels).acted (s.levelAction levels)) (s.clears levels) [] _ [] Source.nodup_all
      (fun _ _ => id) fun acts src fresh => ?_)
  have source : ((s.releveled levels).acted (s.levelAction levels) acts).alarm.source src = s.relevel levels src := by
    rw [State.acted_source_of_notMem _ _ fun k => List.not_mem_nil (fresh k), State.releveled_source]
  rw [State.clearDisabled, source]
  by_cases hc : s.clears levels src = true
  · have hc' := hc
    simp only [State.clears, Bool.and_eq_true, Bool.not_eq_true', beq_iff_eq, bne_iff_ne] at hc'
    obtain ⟨⟨soft, zero⟩, active⟩ := hc'
    rw [if_pos ⟨soft, zero, active⟩, if_pos hc, ← State.acted_concat,
      State.modSource_eq_putSource (State.acted_length _ _ acts) src fun x => { x with state := .idle }, source,
      State.levelAction, if_pos hc]
    rfl
  · rw [if_neg hc, if_neg]
    rintro ⟨soft, zero, active⟩
    have zero' : s.newLevel levels src = 0 := zero
    have active' : (s.alarm.source src).state ≠ .idle := active
    exact hc (by simp [State.clears, soft, zero', active'])

/-- A waiting condition that a raise would make PENDING. -/
theorem State.raisesWaiting_iff (u : State) (src : Source) :
    (u.alarm.waiting src && u.raiseCase src == .pends) = true ↔
      src.isFault = false ∧ src.isCondition = true ∧ (u.alarm.source src).state = .idle ∧
        (u.alarm.source src).present = true ∧ (u.alarm.source src).level ≠ 0 ∧ u.device ≠ .unbound ∧
          (6 < (u.alarm.source src).level ∨ u.alarm.suppression = 0) := by
  simp only [AlarmUnit.waiting, Bool.and_eq_true, beq_iff_eq, Bool.not_eq_true']
  constructor
  · rintro ⟨⟨⟨⟨condition, soft⟩, idle⟩, present⟩, pends⟩
    unfold State.raiseCase at pends
    split_ifs at pends with bound disabled pending held
    simp only [AlarmUnit.suppressible, Machine.within, soft, Bool.not_false, Bool.true_and, decide_eq_true_eq] at held
    have level : (u.alarm.source src).level ≠ 0 := fun zero => disabled ⟨soft, zero⟩
    exact ⟨soft, condition, idle, present, level, bound, by omega⟩
  · rintro ⟨soft, condition, idle, present, level, bound, free⟩
    exact ⟨⟨⟨⟨condition, soft⟩, idle⟩, present⟩,
      State.raiseCase_pends bound (by rw [idle]; nofun) (.inr ⟨Nat.one_le_iff_ne_zero.mpr level, free⟩)⟩

/-- The waiting conditions raised, in id order, behind the sources disabled. -/
theorem State.eachSource_raiseWaiting (cleared : List Source) (hcl : cleared = Source.all.filter (s.clears levels)) :
    ((s.releveled levels).acted (s.levelAction levels) cleared).eachSource State.raiseWaiting =
      (s.releveled levels).acted (s.levelAction levels) (cleared ++ Source.all.filter (s.raises levels)) := by
  refine foldl_actions _ ((s.releveled levels).acted (s.levelAction levels)) (s.raises levels) cleared _ cleared
    Source.nodup_all (fun _ _ => id) fun acts src fresh => ?_
  have length := (s.releveled levels).acted_length (s.levelAction levels) acts
  have action := (s.releveled levels).acted_source (s.levelAction levels) acts src
  have waits := ((s.releveled levels).acted (s.levelAction levels) acts).raisesWaiting_iff src
  rw [State.raiseWaiting]
  by_cases hr : s.raises levels src = true
  · have hr' := hr
    simp only [State.raises, Bool.and_eq_true, Bool.or_eq_true, Bool.not_eq_true', beq_iff_eq, bne_iff_ne,
      decide_eq_true_eq] at hr'
    obtain ⟨⟨⟨⟨⟨⟨soft, condition⟩, idle⟩, present⟩, level⟩, bound⟩, free⟩ := hr'
    have uncleared : s.clears levels src ≠ true := fun k => by simp [State.clears, level] at k
    have new : src ∉ acts := fun k => uncleared (List.mem_filter.mp (hcl ▸ fresh k)).2
    rw [if_neg new, State.releveled_source] at action
    rw [action] at waits
    have pends := waits.mpr ⟨soft, condition, idle, present, level, bound, free⟩
    rw [if_pos pends, if_pos hr, ← State.acted_concat,
      State.raiseSoft_pends length (beq_iff_eq.mp (Bool.and_eq_true _ _ ▸ pends).2), action, State.levelAction,
      if_neg uncleared]
  · rw [if_neg hr, if_neg]
    intro k
    obtain ⟨soft, condition, idle, present, level, bound, free⟩ := waits.mp k
    by_cases hmem : src ∈ acts
    · have hc : s.clears levels src = true := (List.mem_filter.mp (hcl ▸ fresh hmem)).2
      rw [action, if_pos hmem, State.levelAction, if_pos hc] at level
      simp only [State.clears, Bool.and_eq_true, beq_iff_eq] at hc
      exact level hc.1.2
    · rw [action, if_neg hmem, State.releveled_source] at idle present level free
      have level' : s.newLevel levels src ≠ 0 := level
      have idle' : (s.alarm.source src).state = .idle := idle
      have present' : (s.alarm.source src).present = true := present
      have bound' : s.device ≠ .unbound := bound
      have free' : 6 < s.newLevel levels src ∨ s.alarm.suppression = 0 := free
      exact hr (by simp [State.raises, soft, condition, idle', present', level', bound', free'])

/-- New soft levels: the sources disabled, then the conditions raised, and the alarm level formed anew behind them. -/
theorem State.setSoftLevels_eq (h : s.alarm.sources.length = 15) : s.setSoftLevels levels =
    ((s.releveled levels).acted (s.levelAction levels)
      (Source.all.filter (s.clears levels) ++ Source.all.filter (s.raises levels))).formed s.alarm.alarmLevel := by
  rw [State.setSoftLevels, s.releveled_eq levels h, State.eachSource_clearDisabled,
    State.eachSource_raiseWaiting levels s _ rfl]

end

end Sys2Proof.Machine
end

section
/-! PROOFS. Raises and ends, the alarm level and soft levels (O55). -/

namespace Sys2Proof.Machine

/-- CAB_ALARM is on in LOCKED, and else at a level above 0 that reaches the cab level. -/
theorem State.cabAlarm_iff (s : State) : s.cabAlarm = true ↔
    s.device = .locked ∨ (0 < s.alarm.alarmLevel ∧ s.alarm.cabLevel ≤ s.alarm.alarmLevel) := by
  simp [State.cabAlarm]

/-- The record of a source under its new level, once some sources have been disabled or raised. -/
def State.levelRecord (s : State) (levels : List Nat) (acted : List Source) (src : Source) : SourceRecord :=
  if src ∉ acted then s.relevel levels src
  else if s.clears levels src then { s.relevel levels src with state := .idle }
  else { s.relevel levels src with state := .pending, raiseCount := 0 }

theorem State.levelAction_after (s : State) (levels : List Nat) (acted : List Source) :
    (s.releveled levels).alarm.after (s.levelAction levels) acted =
      { s.alarm with sources := Source.all.map (s.levelRecord levels acted) } := by
  refine congrArg (fun xs => { s.alarm with sources := xs }) (List.map_congr_left fun src _ => ?_)
  rw [State.releveled_source, State.levelRecord, ite_not]
  refine if_congr .rfl ?_ rfl
  rw [State.levelAction]
  split <;> rfl

/-- The record of an action on a source that its new level disables, or that is raised under it. -/
theorem State.levelAction_record (s : State) (levels : List Nat) (acts : List Source) (k : Nat × Source) (a : AlarmUnit)
    (ha : (s.releveled levels).alarm.after (s.levelAction levels) (acts.take (k.1 + 1)) = a) :
    (s.releveled levels).actionRecord (s.levelAction levels) acts k =
      { source := k.2, action := if s.clears levels k.2 then .cleared else .raised,
        state := if s.clears levels k.2 then .idle else .pending, level := s.newLevel levels k.2,
        raiseCount := if s.clears levels k.2 then (s.alarm.source k.2).raiseCount else 0, conflict := false,
        detail := (s.alarm.source k.2).detail, alarmLevel := a.alarmLevel, topSource := a.topSource, device := s.device,
        suppression := s.alarm.suppression, p := s.pos.p, t := s.pos.t } := by
  rw [State.actionRecord, ha, State.levelAction]
  by_cases hc : s.clears levels k.2 = true
  · simp only [if_pos hc]
    rfl
  · simp only [if_neg hc]
    rfl

/-- Settles O55. -/
theorem raisesAndEndsMoveTheirSource : Obligations.RaisesAndEndsMoveTheirSource := by
  refine ⟨fun who src before rest s h hb => ?_, fun s h => ?_, fun levels s h => ?_⟩
  · intro x put recorded
    refine ⟨?_, ?_⟩
    · intro d detail mask hr hm put y does
      have row := exec_alarmRaise_eq s who src d before rest hr hb
      have stored : (s.putReports (before ++ rest)).storeRaise src d = put y :=
        State.storeRaise_eq (s.putReports (before ++ rest)) h src d detail mask hm
      have length : (put y).alarm.sources.length = 15 :=
        State.putSource_length (s := (s.putReports (before ++ rest)).putMask mask) h src y
      have source : (put y).alarm.source src = y :=
        State.putSource_source_same (s := (s.putReports (before ++ rest)).putMask mask) h src y
      have put_put (z : SourceRecord) : (put y).putSource src z = put z :=
        State.putSource_putSource ((s.putReports (before ++ rest)).putMask mask) src y z
      have level : (put y).alarm.alarmLevel = s.alarm.alarmLevel :=
        State.alarmLevel_putSource_eq (s := (s.putReports (before ++ rest)).putMask mask) h src y rfl rfl
      have soft (hc : (put y).raiseCase src ≠ .pends ∨ src.isFault = false) :
          exec (.alarmRaise who) s = .next (((put y).raiseSoft src).formed (put y).alarm.alarmLevel) := by
        rw [row, State.takeRaise_soft _ (put y) src d stored fun hf => hc.resolve_right (by simp [hf])]
      have counts (hc : (put y).raiseCase src = .disabled ∨ (put y).raiseCase src = .counts) :
          does (put { y with raiseCount := bump16 x.raiseCount }) := by
        refine (soft (.inl (by rcases hc with hc | hc <;> rw [hc] <;> nofun))).trans ?_
        rw [State.raiseSoft_counts length hc, source, put_put]
      refine ⟨fun hd => ?_, fun hd hp => ?_, fun hd hf hl => ?_, fun hd hf hp h1 h6 hs => ?_, fun hd hf hp h1 hs => ?_⟩
      · refine (soft (.inl (by rw [State.raiseCase_unbound (u := put y) hd]; nofun))).trans ?_
        rw [State.raiseSoft_unbound (put y) src hd, State.formed_of_le _ _ le_rfl]
      · exact counts (State.raiseCase_pending (u := put y) hd (by rw [source]; exact hp))
      · exact counts (.inl (State.raiseCase_disabled (u := put y) hd hf (by rw [source]; exact hl)))
      · have hc : (put y).raiseCase src = .suppressed := State.raiseCase_suppressed (u := put y) hd hf
          (by rw [source]; exact hp) (by rw [source]; exact h1) (by rw [source]; exact h6) hs
        refine (soft (.inr hf)).trans ?_
        rw [State.raiseSoft_suppressed _ _ hc, State.alarmRecord_eq]
        rfl
      · intro w
        have hc : (put y).raiseCase src = .pends := State.raiseCase_pends (u := put y) hd
          (by rw [source]; exact hp) (.inr (by rw [source]; exact ⟨h1, hs⟩))
        refine (soft (.inr hf)).trans ?_
        rw [State.raiseSoft_pends length hc, source, put_put, level, State.alarmRecord_eq]
        rfl
    · intro rail mask hr hm put
      have row := exec_conditionEnd_eq s who src rail before rest hr hb
      have unmasked : (s.putReports (before ++ rest)).unmaskRail src rail = (s.putReports (before ++ rest)).putMask mask :=
        State.unmaskRail_eq _ src rail mask hm
      have length : ((s.putReports (before ++ rest)).putMask mask).alarm.sources.length = 15 := h
      refine ⟨fun hl hn => ?_, fun hl => ?_⟩
      · rw [row, State.endCondition_remains unmasked hl hn]
        exact congrArg Host.Outcome.next (State.putSource_self length src).symm
      · have ended := row.trans (congrArg Host.Outcome.next (State.endCondition_ended length unmasked hl))
        refine ⟨fun ha => ended.trans (congrArg Host.Outcome.next (if_neg ?_)),
          fun ha hd => ended.trans (congrArg Host.Outcome.next ((if_pos ⟨ha, hd⟩).trans ?_))⟩
        · rintro ⟨acknowledged, bound⟩
          exact ha.elim (· acknowledged) bound
        · exact State.alarmRecord_eq ..
  · intro pends level top
    refine ⟨s.alarm.level_le_of_pending h, fun ⟨src, hp⟩ => ?_, fun hn => ?_, fun ht => if_pos ht,
      s.alarm.topSource_pending h, s.cabAlarm_iff⟩
    · rcases Nat.eq_zero_or_pos top with zero | pos
      · exact ⟨src, hp, Nat.le_antisymm (s.alarm.level_le_of_pending h src hp) (zero ▸ Nat.zero_le _)⟩
      · exact s.alarm.alarmLevel_pending h pos
    · by_contra hz
      obtain ⟨src, hp, -⟩ := s.alarm.alarmLevel_pending h (Nat.pos_of_ne_zero hz)
      exact hn src hp
  · intro level clears raises acts sources record w
    have after (acted : List Source) : (s.releveled levels).alarm.after (s.levelAction levels) acted =
        { s.alarm with sources := sources acted } := s.levelAction_after levels acted
    have records : ((s.releveled levels).actionRecords (s.levelAction levels) acts).map .alarm = (indexed acts).map record := by
      rw [State.actionRecords, List.map_map]
      refine List.map_congr_left fun k _ => ?_
      exact congrArg Rec.alarm (s.levelAction_record levels acts k _ (after _))
    have whole : (s.releveled levels).acted (s.levelAction levels) acts = w := by
      rw [State.acted, after, records]
      rfl
    have threshold : w.alarm.threshold = s.alarm.threshold := rfl
    rw [s.setSoftLevels_eq levels h]
    refine (congrArg (State.formed s.alarm.alarmLevel) whole).trans ?_
    rw [State.formed, threshold]

end Sys2Proof.Machine
end

section
/-! PROOFS. Faults (O56): what turning rails off leaves alone, what a fault does beside, and the entry to LOCKED. -/

namespace Sys2Proof.Machine

/-! ## Causes and announcements -/

theorem State.setCause_writesTo (s : State) (c : AttnCause) : s.writesTo (s.setCause c) := s.setCause_onto s c

theorem State.writesTo_jrn {s t : State} (h : s.writesTo t) : t.jrn = s.jrn := by
  unfold State.writesTo at h
  rw [h]
  rfl

theorem AttnBits.get_put_true (b : AttnBits) (c k : AttnCause) :
    (b.put c true).get k = (decide (c = k) || b.get k) := by
  cases c <;> cases k <;> rfl

theorem State.setCause_keeps (s : State) (c k : AttnCause) (h : s.bus.causes.get k = true) :
    (s.setCause c).bus.causes.get k = true := by
  unfold State.setCause
  dsimp only
  split
  · exact h
  · have put : (s.bus.causes.put c true).get k = true := by rw [AttnBits.get_put_true, h, Bool.or_true]
    split <;> exact put

theorem State.announce_keeps (s : State) (k : AttnCause) (h : s.bus.causes.get k = true) :
    s.announce.bus.causes.get k = true := State.setCause_keeps _ _ _ h

theorem State.announce_state (s : State) : s.announce.bus.causes.state = true := State.setCause_set s.rewriteStatus .state

/-- A cause that has been set is not set again. -/
theorem State.setCause_setCause (s : State) (c : AttnCause) : (s.setCause c).setCause c = s.setCause c :=
  if_pos (s.setCause_set c)

theorem State.formed_setCause (s : State) (n : Nat) : (s.formed n).setCause .alarm = s.setCause .alarm := by
  unfold State.formed
  split
  · exact s.setCause_setCause .alarm
  · rfl

/-! ## Rails off (R43, R59) -/

/-- A rail without what turning it off changes. -/
def RailBlocks.halted (b : RailBlocks) : RailBlocks :=
  { b with seq := (State.reset.rail .A).seq, shot := none, link := (State.reset.rail .A).link }

/-- A state without what turning its rails off changes. -/
def State.halted (s : State) : State :=
  { s with rails := ⟨s.rails.a.halted, s.rails.b.halted⟩, alarm := { s.alarm with reports := [] },
           plans := { s.plans with heldReports := ⟨0, 0⟩ }, req := { s.req with snapshot := ⟨none, none⟩ } }

theorem State.halted_of_eased {s t : State} (h : t.eased = s.eased) : t.halted = s.halted :=
  (congrArg State.halted h : t.eased.halted = s.eased.halted)

theorem State.reportHeld_halted (s : State) (r : Rail) : (s.reportHeld r).halted = s.halted := by
  unfold State.reportHeld
  dsimp only
  split
  · cases r <;> rfl
  · rfl

theorem State.railOff_halted (s : State) (r : Rail) : (s.railOff r).halted = s.halted := by
  have off (u : State) : (u.modSeq r fun q => { q with state := .off }).halted = u.halted := by cases r <;> rfl
  rw [State.railOff, State.reportHeld_halted, State.halted_of_eased (State.holdLink_eased _ r), off,
    State.halted_of_eased (s.abandonShot_eased r)]

/-- What turning rails off leaves alone. -/
theorem State.halted_blocks {s t : State} (h : t.halted = s.halted) : t.device = s.device ∧ t.pos = s.pos ∧
    t.jrn = s.jrn ∧ t.bus = s.bus ∧ { t.alarm with reports := [] } = { s.alarm with reports := [] } ∧
    { t.plans with heldReports := ⟨0, 0⟩ } = { s.plans with heldReports := ⟨0, 0⟩ } ∧
    ∀ r, (t.rail r).trk = (s.rail r).trk ∧ (t.rail r).asm = (s.rail r).asm ∧ (t.rail r).mrk = (s.rail r).mrk := by
  refine ⟨(congrArg State.device h : t.halted.device = s.halted.device), (congrArg State.pos h : t.halted.pos = s.halted.pos),
    (congrArg State.jrn h : t.halted.jrn = s.halted.jrn), (congrArg State.bus h : t.halted.bus = s.halted.bus),
    congrArg State.alarm h, congrArg State.plans h, fun r => ?_⟩
  have rail (u : State) : u.halted.rail r = (u.rail r).halted := by cases r <;> rfl
  have same : t.halted.rail r = s.halted.rail r := congrArg (State.rail · r) h
  rw [rail, rail] at same
  simp only [RailBlocks.halted, RailBlocks.mk.injEq, true_and] at same
  obtain ⟨-, trk, asm, mrk⟩ := same
  exact ⟨trk, asm, mrk⟩

theorem State.enterFaulted_halted (s : State) : s.enterFaulted.halted =
    State.halted { s with device := .faulted, alarm := { s.alarm with remembered := some s.device } } := by
  rw [State.enterFaulted, State.bothRails, State.railOff_halted, State.railOff_halted]
  rfl

/-- A rail that is off: its Sequencer OFF with no shot in flight, its link held DOWN. -/
def RailBlocks.isOff (b : RailBlocks) : Prop :=
  b.seq.state = .off ∧ b.shot = none ∧ b.link.state = .down ∧ b.link.presence = false

theorem State.isOff_of_view {s : State} {v : View} (h : s.view = v.railsOff) (r : Rail) : (s.rail r).isOff := by
  have rail : (s.rail r).view = v.railsOff.rails.get r := by rw [← s.view_rail, h]
  have resting : (s.rail r).view.resting := by
    rw [rail]
    cases r <;> exact ⟨rfl, rfl, rfl, rfl⟩
  obtain ⟨state, shot, link, presence⟩ := resting
  exact ⟨state, by simpa [RailBlocks.view] using shot, link, presence⟩

/-! ## What a fault does beside (R153, R154) -/

/-- What the effects of a fault leave alone. -/
theorem State.faultEffects_blocks (s : State) (src : Source) : (s.faultEffects src).device = s.device ∧
    (s.faultEffects src).pos = s.pos ∧ (s.faultEffects src).bus = s.bus ∧ (s.faultEffects src).plans = s.plans ∧
    (s.faultEffects src).alarm = { s.alarm with planFaultSeen := s.alarm.planFaultSeen || src == .planFault } ∧
    (s.faultEffects src).jrn.presented = s.jrn.presented ∧ (s.faultEffects src).jrn.consumers = s.jrn.consumers ∧
    (s.faultEffects src).jrn.stopped = (s.jrn.stopped || src == .contextFault) := by
  unfold State.faultEffects
  split
  · have plan : (Source.tachFault == .planFault) = false := rfl
    have context : (Source.tachFault == .contextFault) = false := rfl
    rw [plan, context, Bool.or_false, Bool.or_false]
    exact ⟨rfl, rfl, rfl, rfl, rfl, rfl, rfl, rfl⟩
  · have plan : (Source.contextFault == .planFault) = false := rfl
    rw [plan, Bool.or_false]
    exact ⟨rfl, rfl, rfl, rfl, rfl, rfl, rfl, (Bool.or_true _).symm⟩
  · have context : (Source.planFault == .contextFault) = false := rfl
    rw [context, Bool.or_false]
    refine ⟨rfl, rfl, rfl, rfl, ?_, rfl, rfl, rfl⟩
    rw [show (Source.planFault == .planFault) = true from rfl, Bool.or_true]
    rfl
  · rename_i ht hc hp
    have plan : (src == .planFault) = false := by simpa using hp
    have context : (src == .contextFault) = false := by simpa using hc
    rw [plan, context, Bool.or_false, Bool.or_false]
    exact ⟨rfl, rfl, rfl, rfl, rfl, rfl, rfl, rfl⟩

/-- On a rail they are the TACH_FAULT notices alone. -/
theorem State.faultEffects_rail (s : State) (src : Source) (r : Rail) :
    let n := if src = .tachFault then 1 else 0
    (s.faultEffects src).rail r = { s.rail r with
      trk := { (s.rail r).trk with tachNotices := (s.rail r).trk.tachNotices + n }
      mrk := { (s.rail r).mrk with tachNotices := (s.rail r).mrk.tachNotices + n } } := by
  intro n
  by_cases ht : src = .tachFault
  · simp only [n, if_pos ht]
    subst ht
    cases r <;> rfl
  · simp only [n, if_neg ht]
    unfold State.faultEffects
    split
    · exact absurd rfl ht
    · rfl
    · rfl
    · rfl

end Sys2Proof.Machine
end

section
/-! PROOFS. A conflict of faults (R157): what a TACH_FAULT in conflict does to the tracks and the markers, and the entry to
LOCKED. -/

namespace Sys2Proof.Machine

/-! ## The tracks cut and the markers purged (log entry 21) -/

/-- What a TACH_FAULT in conflict does to the correlator of a rail and to the records: the tracks are closed with a marker
behind them, and the marks in the queue have their records. -/
def State.tachCut (s : State) (r : Rail) : State :=
  let w := if s.inForce then (s.tracksClosed r (fun _ => true) (fun k => k.state == .confirmed) flagCut .cut
      (some .tachFault)).modTrk r fun k => { k with path := k.path ++ [.marker { cause := .tachFault, tag := 0 }] }
    else s
  w.offered (.marker r) ((w.rail r).mrk.queue.map fun e => .marker (w.markerRecord r e (some .tachFault)))

/-- It changes one correlator and the records presented. -/
theorem State.tachCut_blocks (s : State) (r : Rail) : (s.tachCut r).device = s.device ∧ (s.tachCut r).pos = s.pos ∧
    (s.tachCut r).jrn.consumers = s.jrn.consumers ∧
    ∀ q, ((s.tachCut r).rail q).asm = (s.rail q).asm ∧ (q ≠ r → ((s.tachCut r).rail q).trk = (s.rail q).trk) := by
  unfold State.tachCut
  dsimp only
  split
  · refine ⟨rfl, rfl, rfl, fun q => ?_⟩
    cases q <;> cases r
    · exact ⟨rfl, fun other => absurd rfl other⟩
    · exact ⟨rfl, fun _ => rfl⟩
    · exact ⟨rfl, fun _ => rfl⟩
    · exact ⟨rfl, fun other => absurd rfl other⟩
  · exact ⟨rfl, rfl, rfl, fun q => ⟨rfl, fun _ => rfl⟩⟩

theorem State.tachCut_modAlarm (s : State) (r : Rail) (f : AlarmUnit → AlarmUnit) :
    (s.modAlarm f).tachCut r = (s.tachCut r).modAlarm f := by
  have inForce : (s.modAlarm f).inForce = s.inForce := rfl
  unfold State.tachCut
  rw [inForce]
  dsimp only
  split <;> rfl

theorem State.tachCut_modBus (s : State) (r : Rail) (f : BusInterface → BusInterface) :
    (s.modBus f).tachCut r = (s.tachCut r).modBus f := by
  have inForce : (s.modBus f).inForce = s.inForce := rfl
  unfold State.tachCut
  rw [inForce]
  dsimp only
  split <;> rfl

theorem State.tachCut_modMrk_A (s : State) (f : Marker → Marker) :
    (s.modMrk .A f).tachCut .B = (s.tachCut .B).modMrk .A f := by
  have inForce : (s.modMrk .A f).inForce = s.inForce := rfl
  unfold State.tachCut
  rw [inForce]
  dsimp only
  split <;> rfl

theorem State.tachClose_eq (s : State) (r : Rail) (h : (s.rail r).trk.table.length = 48) : s.tachClose r =
    if s.inForce then (s.tracksClosed r (fun _ => true) (fun k => k.state == .confirmed) flagCut .cut
      (some .tachFault)).modTrk r fun k => { k with path := k.path ++ [.marker { cause := .tachFault, tag := 0 }] }
    else s := by
  rw [State.tachClose]
  split
  · rename_i inForce
    exact s.forcedClose_eq r h inForce flagCut .cut .tachFault (some .tachFault)
  · rename_i idle
    exact s.forcedClose_idle r (by simpa using idle) _ _ _ _

/-- A rail in conflict: the raises and the emptied queue stand beside. -/
theorem State.tachConflictRail_eq (s : State) (r : Rail) (h : (s.rail r).trk.table.length = 48) :
    ∃ raises nozzles, (s.tachClose r).purge r .tachFault =
      ((s.tachCut r).modAlarm fun a => { a with reports := a.reports ++ raises }).modMrk r fun m =>
        { m with queue := [], nozzles := nozzles } := by
  refine ⟨((s.tachClose r).rail r).mrk.queue.map fun e =>
      (.marker r, .raise .markerUnmarked (.unmarked r e.nozzle .tachFault (e.origins.headD 0))),
    (((s.tachClose r).rail r).mrk.nozzles.map Nozzle.finish), ?_⟩
  rw [State.purge_eq, State.unmarked, State.tachCut, ← s.tachClose_eq r h]
  exact State.modMrk_congr _ r _ _ (by cases r <;> rfl)

/-- What is left of the state it finds, both rails in conflict: but for the raises and the marker queues, the two rails cut one
after the other. -/
theorem State.tachConflict_blocks (s : State) (a : AlarmUnit) (b : BusInterface)
    (h : ∀ r, (s.rail r).trk.table.length = 48) :
    let u : State := { s with alarm := a, bus := b }
    let v := (s.tachCut .A).tachCut .B
    u.tachConflict.device = s.device ∧ u.tachConflict.pos = s.pos ∧ u.tachConflict.bus = b ∧
      u.tachConflict.jrn = v.jrn ∧ u.tachConflict.jrn.consumers = s.jrn.consumers ∧
      { u.tachConflict.alarm with reports := [] } = { a with reports := [] } ∧
      ∀ r, (u.tachConflict.rail r).trk = (v.rail r).trk ∧ (u.tachConflict.rail r).asm = (s.rail r).asm := by
  intro u v
  obtain ⟨deviceA, posA, consumersA, railA⟩ := s.tachCut_blocks .A
  obtain ⟨deviceB, posB, consumersB, railB⟩ := (s.tachCut .A).tachCut_blocks .B
  have cutU : u.tachCut .A = ((s.tachCut .A).modAlarm fun _ => a).modBus fun _ => b := by
    rw [← State.tachCut_modAlarm, ← State.tachCut_modBus]
    rfl
  obtain ⟨raisesA, nozzlesA, first⟩ := u.tachConflictRail_eq .A (h .A)
  have length : ((s.tachCut .A).rail .B).trk.table.length = 48 := by rw [(railA .B).2 nofun, h .B]
  obtain ⟨raisesB, nozzlesB, second⟩ := State.tachConflictRail_eq ((u.tachClose .A).purge .A .tachFault) .B (by
    rw [first, cutU]
    simpa using length)
  have whole : u.tachConflict = (((((v.modAlarm fun _ => a).modBus fun _ => b).modAlarm fun x =>
      { x with reports := x.reports ++ raisesA }).modMrk .A fun m => { m with queue := [], nozzles := nozzlesA }).modAlarm
        fun x => { x with reports := x.reports ++ raisesB }).modMrk .B fun m => { m with queue := [], nozzles := nozzlesB } := by
    rw [State.tachConflict, State.bothRails, second, first, cutU, State.tachCut_modMrk_A, State.tachCut_modAlarm,
      State.tachCut_modBus, State.tachCut_modAlarm]
  rw [whole]
  have device : v.device = s.device := deviceB.trans deviceA
  have pos : v.pos = s.pos := posB.trans posA
  have consumers : v.jrn.consumers = s.jrn.consumers := consumersB.trans consumersA
  have asm (r : Rail) : (v.rail r).asm = (s.rail r).asm := (railB r).1.trans (railA r).1
  clear_value v
  refine ⟨by simp [device], by simp [pos], by simp, by simp, by simp [consumers], by simp, fun r => ?_⟩
  cases r <;> simp [asm]

/-! ## The entry to LOCKED (R39, R145, R157) -/

/-- What the entry to LOCKED comes to but for the rails going off. -/
def State.lockSettled (s : State) (higher raised : Source) : State :=
  let u : State := { s with device := .locked, alarm := { s.alarm with lockPair := some (higher.id, raised.id) } }
  ((u.bothRails fun r s => s.lockMarker r).lockPlans).modReq fun q => { q with scan := [], scanTimer := false }

theorem State.lockDevice_halted (s : State) (higher raised : Source) :
    (s.lockDevice higher raised).halted = (s.lockSettled higher raised).halted := by
  have marker (u : State) (r : Rail) : (u.lockMarker r).halted = u.halted.lockMarker r := by cases r <;> rfl
  have plans (u : State) : (u.lockPlans.modReq fun q => { q with scan := [], scanTimer := false }).halted =
      (u.halted.lockPlans.modReq fun q => { q with scan := [], scanTimer := false }).halted := rfl
  rw [State.lockDevice, State.lockSettled, plans]
  conv_rhs => rw [plans]
  simp only [State.bothRails, marker, State.railOff_halted]
  rfl

end Sys2Proof.Machine
end

section
/-! PROOFS. Faults made PENDING, by the operating state they find (O56). -/

namespace Sys2Proof.Machine

/-! ## Faults of higher level (R157) -/

theorem Source.above_fault {src g : Source} (hf : src.isFault = true) (h : src.id < g.id) :
    g = .tachFault ∨ g = .contextFault := by
  have fault : 12 ≤ src.id := of_decide_eq_true hf
  have above : 13 ≤ g.id := by omega
  have below := g.id_lt
  have two : g.id = 13 ∨ g.id = 14 := by omega
  exact two.imp (fun e => Source.id_injective (e : g.id = Source.tachFault.id))
    fun e => Source.id_injective (e : g.id = Source.contextFault.id)

section
variable (a : AlarmUnit) {src : Source} (hf : src.isFault = true)

theorem AlarmUnit.higherFault_none (h : ∀ g, ¬ (src.id < g.id ∧ (a.source g).state = .pending)) :
    a.higherFault src = none := by
  refine List.find?_eq_none.mpr fun g _ => ?_
  simpa using h g

include hf

theorem AlarmUnit.higherFault_some {h : Source} (hh : src.id < h.id ∧ (a.source h).state = .pending)
    (top : ∀ g, src.id < g.id ∧ (a.source g).state = .pending → g.id ≤ h.id) : a.higherFault src = some h := by
  rcases Source.above_fault hf hh.1 with rfl | rfl
  · have context : ¬ ((a.source .contextFault).state = .pending) := fun k =>
      absurd (top .contextFault ⟨hh.1.trans (by decide), k⟩) (by decide)
    simp [AlarmUnit.higherFault, hh, context]
  · simp [AlarmUnit.higherFault, hh]

end

/-! ## A fault made PENDING -/

/-- The record of a fault made PENDING. -/
def SourceRecord.faulted (x : SourceRecord) (src : Source) (d : Detail) : SourceRecord :=
  { x with state := .pending, raiseCount := 0, detail := some d, present := x.present || src.isCondition }

/-- The state with a fault PENDING and its cause set, before its effects. -/
def State.faultPending (s : State) (src : Source) (d : Detail) : State :=
  (s.putSource src ((s.alarm.source src).faulted src d)).setCause .alarm

section
variable (s : State) (h : s.alarm.sources.length = 15) {src : Source} (d : Detail) (hf : src.isFault = true)
  (hn : (s.alarm.source src).state ≠ .pending)

theorem State.faultPending_writesTo :
    (s.putSource src ((s.alarm.source src).faulted src d)).writesTo (s.faultPending src d) :=
  State.setCause_writesTo _ _

theorem State.faultPending_device : (s.faultPending src d).device = s.device :=
  (State.writesTo_blocks (s.faultPending_writesTo d)).1

include h hf hn

/-- A raise of a fault outside UNBOUND is made PENDING, with the higher faults as they stand. -/
theorem State.takeRaise_fault (hd : s.device ≠ .unbound) : ∃ u : State,
    s.takeRaise src d = u.faultPends src ∧ u.alarm.higherFault src = s.alarm.higherFault src ∧
      ((u.pend src).formed u.alarm.alarmLevel).setCause .alarm = s.faultPending src d := by
  have soft : src ≠ .linkDown := by
    rintro rfl
    exact absurd hf (by decide)
  have stored : s.storeRaise src d = s.putSource src ((s.alarm.source src).raised src d) :=
    s.storeRaise_eq h src d d s.alarm.linkMask (.inl ⟨soft, rfl, rfl⟩)
  have length := State.putSource_length h src ((s.alarm.source src).raised src d)
  have source := State.putSource_source_same h src ((s.alarm.source src).raised src d)
  have pends : (s.storeRaise src d).raiseCase src = .pends := by
    rw [stored]
    exact State.raiseCase_pends hd (by rw [source]; exact hn) (.inl hf)
  refine ⟨s.storeRaise src d, if_pos ⟨hf, pends⟩, ?_, ?_⟩
  · rw [stored, AlarmUnit.higherFault, AlarmUnit.higherFault]
    congr 1
    funext g
    by_cases hg : g = src
    · subst hg
      simp
    · rw [State.putSource_source h, if_neg hg]
  · rw [State.formed_setCause, stored, State.pend,
      State.modSource_eq_putSource length src fun x => { x with state := .pending, raiseCount := 0 }, source,
      State.putSource_putSource]
    rfl

theorem State.takeRaise_locked (hd : s.device = .locked) :
    s.takeRaise src d = (s.faultPending src d).alarmRecord src .raised 0 false := by
  obtain ⟨u, e, -, pending⟩ := s.takeRaise_fault h d hf hn (by rw [hd]; nofun)
  rw [e, State.faultPends, pending]
  dsimp only
  rw [s.faultPending_device, hd]

theorem State.takeRaise_operating (hd : s.device = .active ∨ s.device = .bound) : s.takeRaise src d =
    (((s.faultPending src d).enterFaulted.faultEffects src).alarmRecord src .raised 0 false).announce := by
  obtain ⟨u, e, -, pending⟩ := s.takeRaise_fault h d hf hn (by rcases hd with hd | hd <;> rw [hd] <;> nofun)
  rw [e, State.faultPends, pending]
  dsimp only
  rcases hd with hd | hd <;> rw [s.faultPending_device, hd]

theorem State.takeRaise_joins (hd : s.device = .faulted) (hh : s.alarm.higherFault src = none) : s.takeRaise src d =
    ((s.faultPending src d).faultEffects src).alarmRecord src .raised 0 false := by
  obtain ⟨u, e, higher, pending⟩ := s.takeRaise_fault h d hf hn (by rw [hd]; nofun)
  rw [e, State.faultPends, pending, higher, hh]
  dsimp only
  rw [s.faultPending_device, hd]

theorem State.takeRaise_conflict (hd : s.device = .faulted) (g : Source) (hh : s.alarm.higherFault src = some g) :
    s.takeRaise src d =
      (((((if src = .tachFault then (s.faultPending src d).tachConflict else s.faultPending src d).lockDevice g src).alarmRecord
        src .raised 0 true)).setCause .alarm).announce := by
  obtain ⟨u, e, higher, pending⟩ := s.takeRaise_fault h d hf hn (by rw [hd]; nofun)
  rw [e, State.faultPends, pending, higher, hh]
  dsimp only
  rw [s.faultPending_device, hd]

end

/-! ## The record of a fault -/

theorem State.alarmRecordOf_congr {s t : State} (ha : t.alarm = s.alarm) (hd : t.device = s.device) (hp : t.pos = s.pos)
    (src : Source) (action : AlarmAction) (raises : Nat) (conflict : Bool) :
    t.alarmRecordOf src action raises conflict = s.alarmRecordOf src action raises conflict := by
  rw [State.alarmRecordOf, State.alarmRecordOf, ha, hd, hp]

/-- An ALARM record is presented outside UNBOUND, where a consumer subscribes to its kind. -/
theorem State.alarmRecord_presented (s : State) (src : Source) (action : AlarmAction) (raises : Nat) (conflict : Bool)
    (hd : s.device ≠ .unbound) : (s.alarmRecord src action raises conflict).jrn.presented = s.jrn.presented ++
      if readerMask s.jrn.consumers .alarm = 0 then []
      else [(.alarmUnit, .alarm (s.alarmRecordOf src action raises conflict))] := by
  show (s.offer .alarmUnit (.alarm (s.alarmRecordOf src action raises conflict))).jrn.presented = _
  have kind : (Rec.alarm (s.alarmRecordOf src action raises conflict)).kind = .alarm := rfl
  unfold State.offer
  rw [kind]
  by_cases hm : readerMask s.jrn.consumers .alarm = 0
  · rw [if_pos (.inr hm), if_pos hm, List.append_nil]
  · rw [if_neg (not_or.mpr ⟨hd, hm⟩), if_neg hm]
    rfl

theorem State.alarmRecord_blocks (s : State) (src : Source) (action : AlarmAction) (raises : Nat) (conflict : Bool) :
    (s.alarmRecord src action raises conflict).alarm = s.alarm ∧
    (s.alarmRecord src action raises conflict).device = s.device ∧ (s.alarmRecord src action raises conflict).pos = s.pos ∧
    (s.alarmRecord src action raises conflict).bus = s.bus ∧ (s.alarmRecord src action raises conflict).plans = s.plans ∧
    (s.alarmRecord src action raises conflict).req = s.req ∧
    (s.alarmRecord src action raises conflict).jrn.stopped = s.jrn.stopped ∧
    (s.alarmRecord src action raises conflict).rails = s.rails := by
  rw [State.alarmRecord_eq]
  exact ⟨rfl, rfl, rfl, rfl, rfl, rfl, rfl, rfl⟩

end Sys2Proof.Machine
end

section
/-! PROOFS. A fault in each operating state, as O56 says it. -/

namespace Sys2Proof.Machine

/-- What the fault's own effects say: the flags they set, and on a rail the TACH_FAULT notices. -/
def State.fellFaulty (s t : State) (src : Source) : Prop :=
  t.alarm.planFaultSeen = (s.alarm.planFaultSeen || src == .planFault) ∧
    t.jrn.stopped = (s.jrn.stopped || src == .contextFault) ∧ t.plans.active = s.plans.active ∧
    ∀ r, (t.rail r).asm = (s.rail r).asm ∧ (t.rail r).mrk.queue = (s.rail r).mrk.queue ∧
      (t.rail r).trk.table = (s.rail r).trk.table ∧
      (t.rail r).trk.tachNotices = (s.rail r).trk.tachNotices + (if src = .tachFault then 1 else 0) ∧
      (t.rail r).mrk.tachNotices = (s.rail r).mrk.tachNotices + (if src = .tachFault then 1 else 0)

/-- A fault's effects on a state that agrees with `s` where they act. -/
theorem State.faultEffects_fell {s u : State} (src : Source) (ha : u.alarm.planFaultSeen = s.alarm.planFaultSeen)
    (hj : u.jrn.stopped = s.jrn.stopped) (hp : u.plans.active = s.plans.active)
    (hr : ∀ r, (u.rail r).trk = (s.rail r).trk ∧ (u.rail r).asm = (s.rail r).asm ∧ (u.rail r).mrk = (s.rail r).mrk) :
    s.fellFaulty (u.faultEffects src) src := by
  obtain ⟨-, -, -, plans, alarm, -, -, stopped⟩ := u.faultEffects_blocks src
  refine ⟨?_, ?_, ?_, fun r => ?_⟩
  · rw [alarm, ← ha]
  · rw [stopped, hj]
  · rw [plans, hp]
  · obtain ⟨trk, asm, mrk⟩ := hr r
    rw [u.faultEffects_rail src r, ← trk, ← asm, ← mrk]
    exact ⟨rfl, rfl, rfl, rfl, rfl⟩

/-- The raise of a fault taken: the fault PENDING with raise_count 0, the ALARM cause set, the Position Unit as it was. -/
def State.faultTaken (s t : State) (src : Source) (d : Detail) : Prop :=
  (t.alarm.source src).state = .pending ∧ (t.alarm.source src).raiseCount = 0 ∧
    (t.alarm.source src).detail = some d ∧ t.bus.causes.alarm = true ∧ t.pos = s.pos

/-- The ALARM record of a fault, as `t` stands, presented behind `xs` where a consumer subscribes. -/
def State.faultRecorded (s t : State) (src : Source) (conflict : Bool) (xs : List (Producer × Rec)) : Prop :=
  t.jrn.presented = xs ++ if readerMask s.jrn.consumers .alarm = 0 then []
    else [(.alarmUnit, .alarm (t.alarmRecordOf src .raised 0 conflict))]

/-- A record built in `u`, `t` differing from it in what the record does not show. -/
theorem State.faultRecorded_of {s t u : State} {src : Source} {conflict : Bool} {xs : List (Producer × Rec)}
    (hj : t.jrn = (u.alarmRecord src .raised 0 conflict).jrn) (ha : t.alarm = u.alarm) (hd : t.device = u.device)
    (hp : t.pos = u.pos) (hu : u.device ≠ .unbound) (hc : u.jrn.consumers = s.jrn.consumers)
    (hx : u.jrn.presented = xs) : s.faultRecorded t src conflict xs := by
  rw [State.faultRecorded, hj, State.alarmRecord_presented _ _ _ _ _ hu, State.alarmRecordOf_congr ha hd hp, hc, hx]

/-- What the entry to FAULTED leaves of the blocks outside the Sequencers and the links. -/
theorem State.enterFaulted_blocks (s : State) : s.enterFaulted.device = .faulted ∧ s.enterFaulted.pos = s.pos ∧
    s.enterFaulted.jrn = s.jrn ∧ s.enterFaulted.bus = s.bus ∧ s.enterFaulted.plans.active = s.plans.active ∧
    s.enterFaulted.alarm.sources = s.alarm.sources ∧ s.enterFaulted.alarm.suppression = s.alarm.suppression ∧
    s.enterFaulted.alarm.planFaultSeen = s.alarm.planFaultSeen ∧ s.enterFaulted.alarm.remembered = some s.device ∧
    ∀ r, (s.enterFaulted.rail r).trk = (s.rail r).trk ∧ (s.enterFaulted.rail r).asm = (s.rail r).asm ∧
      (s.enterFaulted.rail r).mrk = (s.rail r).mrk := by
  obtain ⟨device, pos, jrn, bus, alarm, plans, rails⟩ := State.halted_blocks s.enterFaulted_halted
  simp only [AlarmUnit.mk.injEq, PlanStore.mk.injEq] at alarm plans
  obtain ⟨sources, -, suppression, -, -, remembered, seen, -⟩ := alarm
  exact ⟨device, pos, jrn, bus, plans.1, sources, suppression, seen, remembered, rails⟩

section
variable (s : State) (h : s.alarm.sources.length = 15) {src : Source} (d : Detail)

theorem State.faultPending_blocks : (s.faultPending src d).device = s.device ∧ (s.faultPending src d).pos = s.pos ∧
    (s.faultPending src d).plans = s.plans ∧ (s.faultPending src d).rails = s.rails ∧ (s.faultPending src d).jrn = s.jrn ∧
    (s.faultPending src d).alarm =
      { s.alarm with sources := s.alarm.sources.set src.id ((s.alarm.source src).faulted src d) } := by
  have frame := s.faultPending_writesTo (src := src) d
  obtain ⟨device, pos, plans, rails, -, alarm⟩ := State.writesTo_blocks frame
  have jrn := State.writesTo_jrn frame
  exact ⟨device, pos, plans, rails, jrn, alarm⟩

include h

/-- A state with the sources of the fault PENDING. -/
theorem State.faultTaken_of {t : State} (ha : t.alarm.sources = (s.faultPending src d).alarm.sources)
    (hc : t.bus.causes.get .alarm = true) (hp : t.pos = s.pos) : s.faultTaken t src d := by
  obtain ⟨-, -, -, -, -, alarm⟩ := s.faultPending_blocks (src := src) d
  have source : t.alarm.source src = (s.alarm.source src).faulted src d := by
    rw [alarm] at ha
    rw [AlarmUnit.source_of_map (ha.trans (s.alarm.set_eq_map h src _)), if_pos rfl]
  rw [State.faultTaken, source]
  exact ⟨rfl, rfl, rfl, hc, hp⟩

variable (hf : src.isFault = true) (hn : (s.alarm.source src).state ≠ .pending)
include hf hn

/-- In LOCKED: its record, its cause, and nothing else. -/
theorem State.takeRaise_fault_locked (hd : s.device = .locked) : ∃ t, s.takeRaise src d = t ∧ s.faultTaken t src d ∧
    t.alarm = (s.faultPending src d).alarm ∧
    t = (s.faultPending src d).offered .alarmUnit [.alarm (t.alarmRecordOf src .raised 0 false)] := by
  obtain ⟨-, pos, -, -, -, -⟩ := s.faultPending_blocks (src := src) d
  have row := (s.takeRaise_locked h d hf hn hd).trans (State.alarmRecord_eq _ src .raised 0 false)
  exact ⟨_, row, s.faultTaken_of h d rfl (State.setCause_set _ .alarm) pos, rfl, rfl⟩

/-- In ACTIVE or BOUND: the device enters FAULTED. -/
theorem State.takeRaise_fault_operating (hd : s.device = .active ∨ s.device = .bound) : ∃ t, s.takeRaise src d = t ∧
    s.faultTaken t src d ∧ s.fellFaulty t src ∧ s.faultRecorded t src false s.jrn.presented ∧
    (∀ r, (t.rail r).isOff) ∧ t.device = .faulted ∧ t.alarm.remembered = some s.device ∧
    t.alarm.suppression = s.alarm.suppression ∧ t.bus.causes.state = true := by
  obtain ⟨device, pos, plans, rails, jrn, alarm⟩ := s.faultPending_blocks (src := src) d
  have cause : (s.faultPending src d).bus.causes.get .alarm = true := State.setCause_set _ .alarm
  have row := s.takeRaise_operating h d hf hn hd
  have off := State.isOff_of_view (s.faultPending src d).enterFaulted_view
  obtain ⟨eDevice, ePos, eJrn, eBus, eActive, eSources, eSuppression, eSeen, eRemembered, eRails⟩ :=
    (s.faultPending src d).enterFaulted_blocks
  have rail (r : Rail) : (s.faultPending src d).rail r = s.rail r := congrArg (Both.get · r) rails
  simp only [rail, alarm, plans, pos, jrn, device] at ePos eJrn eActive eSuppression eSeen eRemembered eRails
  have fell := State.faultEffects_fell src eSeen (congrArg JournalWriter.stopped eJrn) eActive eRails
  obtain ⟨fDevice, fPos, fBus, -, fAlarm, fPresented, fConsumers, -⟩ :=
    (s.faultPending src d).enterFaulted.faultEffects_blocks src
  have fRail := (s.faultPending src d).enterFaulted.faultEffects_rail src
  generalize (s.faultPending src d).enterFaulted.faultEffects src = u at *
  obtain ⟨rAlarm, rDevice, rPos, rBus, rPlans, -, rStopped, rRails⟩ := u.alarmRecord_blocks src .raised 0 false
  have frame := (u.alarmRecord src .raised 0 false).announce_writesTo
  have tJrn := State.writesTo_jrn frame
  obtain ⟨tDevice, tPos, tPlans, tRails, -, tAlarm⟩ := State.writesTo_blocks frame
  have tState := (u.alarmRecord src .raised 0 false).announce_state
  have tCause := (u.alarmRecord src .raised 0 false).announce_keeps .alarm (by rw [rBus, fBus, eBus]; exact cause)
  generalize (u.alarmRecord src .raised 0 false).announce = t at *
  have tRail (r : Rail) : t.rail r = u.rail r := congrArg (Both.get · r) (tRails.trans rRails)
  have alarm' := tAlarm.trans rAlarm
  obtain ⟨fellSeen, fellStopped, fellActive, fellRails⟩ := fell
  refine ⟨t, row, s.faultTaken_of h d ?_ tCause ?_, ⟨?_, ?_, ?_, fun r => ?_⟩, ?_, fun r => ?_, ?_, ?_, ?_, tState⟩
  · rw [alarm', fAlarm, ← eSources]
  · rw [tPos, rPos, fPos, ePos]
  · rw [alarm', fellSeen]
  · rw [tJrn, rStopped, fellStopped]
  · rw [tPlans, rPlans, fellActive]
  · rw [tRail]
    exact fellRails r
  · exact State.faultRecorded_of tJrn alarm' (tDevice.trans rDevice) (tPos.trans rPos)
      (by rw [fDevice, eDevice]; nofun) (by rw [fConsumers, eJrn]) (by rw [fPresented, eJrn])
  · rw [tRail, fRail]
    exact off r
  · rw [tDevice, rDevice, fDevice, eDevice]
  · rw [alarm', fAlarm, eRemembered]
  · rw [alarm', fAlarm, eSuppression]

/-- In FAULTED with no higher fault PENDING: the fault joins the stay. -/
theorem State.takeRaise_fault_joins (hd : s.device = .faulted)
    (hh : ∀ g : Source, ¬ (src.id < g.id ∧ (s.alarm.source g).state = .pending)) : ∃ t, s.takeRaise src d = t ∧
    s.faultTaken t src d ∧ s.fellFaulty t src ∧ s.faultRecorded t src false s.jrn.presented ∧ t.device = .faulted ∧
    t.alarm.remembered = s.alarm.remembered ∧ t.alarm.suppression = s.alarm.suppression ∧
    ∀ r, (t.rail r).seq = (s.rail r).seq ∧ (t.rail r).link = (s.rail r).link := by
  obtain ⟨device, pos, plans, rails, jrn, alarm⟩ := s.faultPending_blocks (src := src) d
  have cause : (s.faultPending src d).bus.causes.get .alarm = true := State.setCause_set _ .alarm
  have row := s.takeRaise_joins h d hf hn hd (s.alarm.higherFault_none hh)
  have rail (r : Rail) : (s.faultPending src d).rail r = s.rail r := congrArg (Both.get · r) rails
  have fell : s.fellFaulty ((s.faultPending src d).faultEffects src) src :=
    State.faultEffects_fell src (by rw [alarm]) (by rw [jrn]) (by rw [plans]) fun r => by
      rw [rail]
      exact ⟨rfl, rfl, rfl⟩
  obtain ⟨fDevice, fPos, fBus, -, fAlarm, fPresented, fConsumers, -⟩ := (s.faultPending src d).faultEffects_blocks src
  have fRail := (s.faultPending src d).faultEffects_rail src
  simp only [rail] at fRail
  generalize (s.faultPending src d).faultEffects src = u at *
  obtain ⟨rAlarm, rDevice, rPos, rBus, rPlans, -, rStopped, rRails⟩ := u.alarmRecord_blocks src .raised 0 false
  have rRail (r : Rail) : (u.alarmRecord src .raised 0 false).rail r = u.rail r := congrArg (Both.get · r) rRails
  obtain ⟨fellSeen, fellStopped, fellActive, fellRails⟩ := fell
  refine ⟨_, row, s.faultTaken_of h d ?_ ?_ ?_, ⟨?_, ?_, ?_, fun r => ?_⟩, ?_, ?_, ?_, ?_, fun r => ?_⟩
  · rw [rAlarm, fAlarm]
  · rw [rBus, fBus, cause]
  · rw [rPos, fPos, pos]
  · rw [rAlarm, fellSeen]
  · rw [rStopped, fellStopped]
  · rw [rPlans, fellActive]
  · rw [rRail]
    exact fellRails r
  · exact State.faultRecorded_of rfl rAlarm rDevice rPos (by rw [fDevice, device, hd]; nofun) (by rw [fConsumers, jrn])
      (by rw [fPresented, jrn])
  · rw [rDevice, fDevice, device, hd]
  · rw [rAlarm, fAlarm, alarm]
  · rw [rAlarm, fAlarm, alarm]
  · rw [rRail, fRail]
    exact ⟨rfl, rfl⟩

end

end Sys2Proof.Machine
end

section
/-! PROOFS. A fault that locks the device, and the four operating states together (O56). -/

namespace Sys2Proof.Machine

/-- What the entry to LOCKED leaves of the blocks outside the Sequencers and the links. -/
theorem State.lockDevice_blocks (s : State) (higher raised : Source) : (s.lockDevice higher raised).device = .locked ∧
    (s.lockDevice higher raised).pos = s.pos ∧ (s.lockDevice higher raised).jrn = s.jrn ∧
    (s.lockDevice higher raised).bus = s.bus ∧ (s.lockDevice higher raised).alarm.sources = s.alarm.sources ∧
    (s.lockDevice higher raised).alarm.suppression = s.alarm.suppression ∧
    (s.lockDevice higher raised).alarm.lockPair = some (higher.id, raised.id) ∧
    (s.lockDevice higher raised).plans.load = none ∧ (s.lockDevice higher raised).plans.pendingActivation = none ∧
    (s.lockDevice higher raised).plans.standby = .cleared ∧
    ∀ r, ((s.lockDevice higher raised).rail r).mrk.queue = [] ∧
      ((s.lockDevice higher raised).rail r).trk.table = (s.rail r).trk.table ∧
      ((s.lockDevice higher raised).rail r).trk.path = (s.rail r).trk.path ∧
      ((s.lockDevice higher raised).rail r).asm = (s.rail r).asm := by
  obtain ⟨device, pos, jrn, bus, alarm, plans, rails⟩ := State.halted_blocks (s.lockDevice_halted higher raised)
  simp only [AlarmUnit.mk.injEq, PlanStore.mk.injEq] at alarm plans
  obtain ⟨sources, -, suppression, -, -, -, -, pair, -⟩ := alarm
  obtain ⟨-, standby, load, pending, -⟩ := plans
  refine ⟨device, pos, jrn, bus, sources, suppression, pair, load, pending, standby, fun r => ?_⟩
  obtain ⟨trk, asm, mrk⟩ := rails r
  rw [trk, asm, mrk]
  cases r <;> exact ⟨rfl, rfl, rfl, rfl⟩

theorem State.lockDevice_scan (s : State) (higher raised : Source) :
    (s.lockDevice higher raised).req.scan = [] ∧ (s.lockDevice higher raised).req.scanTimer = false := ⟨rfl, rfl⟩

theorem State.announce_scan (s : State) :
    s.announce.req.scan = s.req.scan ∧ s.announce.req.scanTimer = s.req.scanTimer := by
  rw [State.announce, State.setCause_req]
  exact ⟨rfl, rfl⟩

/-- In LOCKED no nozzle output is on. -/
theorem State.nozzleOn_locked (s : State) (h : s.device = .locked) (r : Rail) (j : Nat) : s.nozzleOn r j = false := by
  simp [State.nozzleOn, h]

/-- The state a conflict finds once a TACH_FAULT has cut the tracks and the markers. -/
def State.conflictCut (s : State) (src : Source) : State :=
  if src = .tachFault then (s.tachCut .A).tachCut .B else s

theorem State.conflictCut_putReports (s : State) (xs : List (Raiser × Report)) (src : Source) :
    (s.putReports xs).conflictCut src = (s.conflictCut src).putReports xs := by
  unfold State.conflictCut
  split
  · rw [State.putReports, State.tachCut_modAlarm, State.tachCut_modAlarm]
    rfl
  · rfl

section
variable (s : State) (h : s.alarm.sources.length = 15) {src : Source} (d : Detail)

theorem State.faultPending_eq : s.faultPending src d =
    { s with alarm := (s.faultPending src d).alarm, bus := (s.faultPending src d).bus } := by
  have frame : s.faultPending src d = (s.putSource src ((s.alarm.source src).faulted src d)).onto (s.faultPending src d) :=
    s.faultPending_writesTo d
  have req : (s.faultPending src d).req = s.req := State.setCause_req _ _
  obtain ⟨-, -, -, -, -, alarm⟩ := s.faultPending_blocks (src := src) d
  conv_lhs => rw [frame, State.onto, req]
  rw [alarm]
  rfl

/-- What the conflict has done before the device locks. -/
theorem State.conflict_blocks (h48 : ∀ r, (s.rail r).trk.table.length = 48) :
    let p := s.faultPending src d
    let u := if src = .tachFault then p.tachConflict else p
    let v := s.conflictCut src
    u.pos = s.pos ∧ u.bus = p.bus ∧ u.jrn = v.jrn ∧ u.jrn.consumers = s.jrn.consumers ∧
      u.alarm.sources = p.alarm.sources ∧ u.alarm.suppression = s.alarm.suppression ∧
      ∀ r, (u.rail r).trk = (v.rail r).trk ∧ (u.rail r).asm = (s.rail r).asm := by
  intro p u v
  obtain ⟨-, pos, -, rails, jrn, alarm⟩ := s.faultPending_blocks (src := src) d
  have suppressing : p.alarm.suppression = s.alarm.suppression := by simp only [p, alarm]
  by_cases ht : src = .tachFault
  · obtain ⟨-, cPos, cBus, cJrn, cConsumers, cAlarm, cRails⟩ := s.tachConflict_blocks p.alarm p.bus h48
    rw [← s.faultPending_eq] at cPos cBus cJrn cConsumers cAlarm cRails
    simp only [AlarmUnit.mk.injEq] at cAlarm
    obtain ⟨sources, -, suppression, -⟩ := cAlarm
    have hu : u = p.tachConflict := if_pos ht
    have hv : v = (s.tachCut .A).tachCut .B := if_pos ht
    rw [hu, hv]
    exact ⟨cPos, cBus, cJrn, cConsumers, sources, suppression.trans suppressing, cRails⟩
  · have hu : u = p := if_neg ht
    have hv : v = s := if_neg ht
    have rail (r : Rail) : p.rail r = s.rail r := congrArg (Both.get · r) rails
    rw [hu, hv]
    refine ⟨pos, rfl, jrn, congrArg JournalWriter.consumers jrn, rfl, suppressing, fun r => ?_⟩
    rw [rail]
    exact ⟨rfl, rfl⟩

include h

/-- In FAULTED with a higher fault PENDING: the device locks. -/
theorem State.takeRaise_fault_conflict (hf : src.isFault = true) (hn : (s.alarm.source src).state ≠ .pending)
    (hd : s.device = .faulted) (g : Source) (hg : s.alarm.higherFault src = some g)
    (h48 : ∀ r, (s.rail r).trk.table.length = 48) : ∃ t, s.takeRaise src d = t ∧ s.faultTaken t src d ∧
      s.faultRecorded t src true (s.conflictCut src).jrn.presented ∧ (∀ r, (t.rail r).isOff) ∧ t.device = .locked ∧
      t.alarm.lockPair = some (g.id, src.id) ∧ t.alarm.suppression = s.alarm.suppression ∧ t.bus.causes.state = true ∧
      t.plans.load = none ∧ t.plans.pendingActivation = none ∧ t.plans.standby = .cleared ∧
      t.req.scan = [] ∧ t.req.scanTimer = false ∧
      ∀ r, (t.rail r).mrk.queue = [] ∧ (t.rail r).trk.table = ((s.conflictCut src).rail r).trk.table ∧
        (t.rail r).trk.path = ((s.conflictCut src).rail r).trk.path ∧ (t.rail r).asm = (s.rail r).asm := by
  have cause : (s.faultPending src d).bus.causes.get .alarm = true := State.setCause_set _ .alarm
  have row := s.takeRaise_conflict h d hf hn hd g hg
  obtain ⟨uPos, uBus, uJrn, uConsumers, uSources, uSuppression, uRails⟩ := s.conflict_blocks (src := src) d h48
  generalize (if src = .tachFault then (s.faultPending src d).tachConflict else s.faultPending src d) = u at *
  obtain ⟨lDevice, lPos, lJrn, lBus, lSources, lSuppression, lPair, lLoad, lPending, lStandby, lRails⟩ :=
    u.lockDevice_blocks g src
  obtain ⟨lScan, lTimer⟩ := u.lockDevice_scan g src
  have off := State.isOff_of_view (u.lockDevice_view g src)
  generalize u.lockDevice g src = l at *
  obtain ⟨rAlarm, rDevice, rPos, rBus, rPlans, rReq, -, rRails⟩ := l.alarmRecord_blocks src .raised 0 true
  have frame := State.writesTo_trans ((l.alarmRecord src .raised 0 true).setCause_writesTo .alarm)
    (State.announce_writesTo _)
  have tJrn := State.writesTo_jrn frame
  obtain ⟨tDevice, tPos, tPlans, tRails, -, tAlarm⟩ := State.writesTo_blocks frame
  have tState := ((l.alarmRecord src .raised 0 true).setCause .alarm).announce_state
  have tCause := ((l.alarmRecord src .raised 0 true).setCause .alarm).announce_keeps .alarm (State.setCause_set _ _)
  have tReq : ((l.alarmRecord src .raised 0 true).setCause .alarm).announce.req.scan = [] ∧
      ((l.alarmRecord src .raised 0 true).setCause .alarm).announce.req.scanTimer = false := by
    obtain ⟨scan, timer⟩ := ((l.alarmRecord src .raised 0 true).setCause .alarm).announce_scan
    rw [scan, timer, State.setCause_req, rReq]
    exact ⟨lScan, lTimer⟩
  generalize ((l.alarmRecord src .raised 0 true).setCause .alarm).announce = t at *
  have tRail (r : Rail) : t.rail r = l.rail r := congrArg (Both.get · r) (tRails.trans rRails)
  have alarm' := tAlarm.trans rAlarm
  have plans' := tPlans.trans rPlans
  refine ⟨t, row, s.faultTaken_of h d ?_ tCause ?_, ?_, fun r => ?_, ?_, ?_, ?_, tState, ?_, ?_, ?_, tReq.1, tReq.2,
    fun r => ?_⟩
  · rw [alarm', lSources, uSources]
  · rw [tPos, rPos, lPos, uPos]
  · exact State.faultRecorded_of tJrn alarm' (tDevice.trans rDevice) (tPos.trans rPos) (by rw [lDevice]; nofun)
      (by rw [lJrn, uConsumers]) (by rw [lJrn, uJrn])
  · rw [tRail]
    exact off r
  · rw [tDevice, rDevice, lDevice]
  · rw [alarm', lPair]
  · rw [alarm', lSuppression, uSuppression]
  · rw [plans', lLoad]
  · rw [plans', lPending]
  · rw [plans', lStandby]
  · obtain ⟨queue, table, path, asm⟩ := lRails r
    obtain ⟨trk, asm'⟩ := uRails r
    rw [tRail, queue, table, path, asm, trk, asm']
    exact ⟨rfl, rfl, rfl, rfl⟩

end

/-- Settles O56. -/
theorem faultsFaultTheDeviceAndConflictsLockIt : Obligations.FaultsFaultTheDeviceAndConflictsLockIt := by
  intro who src d before rest s hr hb hf h hn higher pends effects off record recorded cut
  have row := exec_alarmRaise_eq s who src d before rest hr hb
  have taken {t : State} (ht : (s.putReports (before ++ rest)).takeRaise src d = t)
      (k : (s.putReports (before ++ rest)).faultTaken t src d) : pends t := ⟨row.trans (congrArg _ ht), k⟩
  have record_eq {t : State} (conflict : Bool) (hs : t.alarm.suppression = s.alarm.suppression) (hp : t.pos = s.pos) :
      record t conflict = .alarm (t.alarmRecordOf src .raised 0 conflict) := by
    simp only [record, State.alarmRecordOf, hs, hp]
  have presented {t : State} {conflict : Bool} {xs : List (Producer × Rec)}
      (hs : t.alarm.suppression = s.alarm.suppression) (hp : t.pos = s.pos)
      (k : (s.putReports (before ++ rest)).faultRecorded t src conflict xs) : recorded t conflict xs := by
    simp only [recorded, record_eq conflict hs hp]
    exact k
  refine ⟨fun hd => ?_, fun hd => ?_, fun hd hh => ?_, fun g hd hg top h48 => ?_⟩
  · obtain ⟨t, ht, k, alarm, e⟩ := (s.putReports (before ++ rest)).takeRaise_fault_locked h d hf hn hd
    obtain ⟨-, -, -, -, pos⟩ := id k
    refine ⟨t, taken ht k, ?_⟩
    intro y w
    obtain ⟨-, -, -, -, -, pending⟩ := (s.putReports (before ++ rest)).faultPending_blocks (src := src) d
    rw [record_eq false (by rw [alarm, pending]; rfl) pos]
    exact e
  · obtain ⟨t, ht, k, fell, rec, isOff, device, remembered, suppression, state⟩ :=
      (s.putReports (before ++ rest)).takeRaise_fault_operating h d hf hn hd
    obtain ⟨-, -, -, -, pos⟩ := id k
    exact ⟨t, taken ht k, fell, presented suppression pos rec, isOff, device, remembered, state⟩
  · obtain ⟨t, ht, k, fell, rec, device, remembered, suppression, rails⟩ :=
      (s.putReports (before ++ rest)).takeRaise_fault_joins h d hf hn hd hh
    obtain ⟨-, -, -, -, pos⟩ := id k
    exact ⟨t, taken ht k, fell, presented suppression pos rec, device, remembered, rails⟩
  · intro v
    obtain ⟨t, ht, k, rec, isOff, device, pair, suppression, state, load, pending, standby, scan, timer, rails⟩ :=
      (s.putReports (before ++ rest)).takeRaise_fault_conflict h d hf hn hd g
        (AlarmUnit.higherFault_some _ hf hg top) h48
    obtain ⟨-, -, -, -, pos⟩ := id k
    have cut_eq (r : Rail) (w : State) (hw : w.pos = s.pos) : cut r w = w.tachCut r := by
      simp only [cut, State.tachCut, State.markerRecord, ← hw]
      split <;> rfl
    obtain ⟨-, posA, -⟩ := s.tachCut_blocks .A
    have hv : v = s.conflictCut src := by
      simp only [v, State.conflictCut, cut_eq .A s rfl, cut_eq .B _ posA]
    rw [State.conflictCut_putReports] at rec rails
    rw [hv]
    refine ⟨t, taken ht k, presented suppression pos rec, isOff, device, pair, ?_, state, load, pending, standby, scan, timer,
      fun r => ?_⟩
    · exact t.cabAlarm_iff.mpr (.inl device)
    · obtain ⟨queue, table, path, asm⟩ := rails r
      exact ⟨queue, t.nozzleOn_locked device r, table, path, asm⟩

end Sys2Proof.Machine
end

section
/-! PROOFS. Acknowledgements (R155): the sources that one changes, one after another, and what it answers where the device
stays as it is. -/

namespace Sys2Proof.Machine

/-! ## The sources named (R155) -/

theorem ackSources_unknown (id : Nat) (h : 14 < id) (h' : id ≠ 255) : ackSources id = none := by
  have none : Source.all[id]? = none := List.getElem?_eq_none h
  rw [ackSources, if_neg h', none]
  rfl

theorem ackSources_known (id : Nat) (h : id ≤ 14 ∨ id = 255) : ∃ srcs, ackSources id = some srcs ∧
    (∀ src : Source, src ∈ srcs ↔ id = 255 ∨ src.id = id) ∧ srcs.Pairwise fun x y => x.id < y.id := by
  by_cases all : id = 255
  · exact ⟨Source.all, if_pos all, fun src => ⟨fun _ => .inl all, fun _ => src.mem_all⟩, Source.all_pairwise⟩
  · obtain ⟨src, rfl⟩ := Source.exists_id (Nat.lt_succ_of_le (h.resolve_right all))
    refine ⟨[src], ?_, fun z => ?_, List.pairwise_singleton _ _⟩
    · rw [ackSources, if_neg all, src.all_getElem?]
      rfl
    · rw [List.mem_singleton]
      exact ⟨fun e => .inr (congrArg Source.id e), fun e => Source.id_injective (e.resolve_left all)⟩

/-! ## One source after another -/

/-- An acknowledgement changes a source that is PENDING, but for TACH_FAULT still present. -/
theorem SourceRecord.acknowledged_isSome (x : SourceRecord) (src : Source) : (x.acknowledged src).isSome = true ↔
    x.state = .pending ∧ ((src.isCondition = false ∨ x.present = false) ∨ src ≠ .tachFault) := by
  unfold SourceRecord.acknowledged
  split_ifs with active gone tach
  · simp [active]
  · simp [not_not.mp active, gone]
  · exact ⟨nofun, fun k => (k.2.elim gone fun other => other tach).elim⟩
  · simp [not_not.mp active, tach]

theorem SourceRecord.acknowledged_ne_pending (x : SourceRecord) (src : Source) : x.acknowledged src ≠ some .pending := by
  unfold SourceRecord.acknowledged
  split_ifs <;> nofun

/-- What an acknowledgement does to a source that it changes. -/
def State.ackAction (s : State) (src : Source) : SourceAction :=
  { record := { s.alarm.source src with
      state := ((s.alarm.source src).acknowledged src).getD (s.alarm.source src).state }
    action := .acknowledged, raises := (s.alarm.source src).raiseCount }

/-- The sources that an acknowledgement changes, of those it names. -/
def State.ackChanges (s : State) (srcs : List Source) : List Source :=
  srcs.filter fun src => ((s.alarm.source src).acknowledged src).isSome

theorem State.foldl_acknowledge (s : State) (h : s.alarm.sources.length = 15) (srcs : List Source) (hn : srcs.Nodup) :
    srcs.foldl State.acknowledge (s, 0) =
      (s.acted s.ackAction (s.ackChanges srcs), (s.ackChanges srcs).length) := by
  have start : (s, 0) = (s.acted s.ackAction [], ([] : List Source).length) := by rw [s.acted_nil _ h]; rfl
  rw [start]
  refine foldl_actions _ (fun acts => (s.acted s.ackAction acts, acts.length)) _ [] srcs [] hn (fun _ _ => id)
    fun acts src fresh => ?_
  have length := s.acted_length s.ackAction acts
  have source := s.acted_source_of_notMem s.ackAction fun k : src ∈ acts => List.not_mem_nil (fresh k)
  rw [State.acknowledge]
  dsimp only
  rw [source]
  cases hst : (s.alarm.source src).acknowledged src with
  | none => simp
  | some st =>
    have action : (s.ackAction src).record = { s.alarm.source src with state := st } := by
      rw [State.ackAction, hst]
      rfl
    have lower : (s.ackAction src).record.contribution ≤ ((s.acted s.ackAction acts).alarm.source src).contribution := by
      rw [action, SourceRecord.contribution, if_neg fun k => SourceRecord.acknowledged_ne_pending _ src (hst.trans (congrArg some k))]
      exact Nat.zero_le _
    have put : (s.acted s.ackAction acts).modSource src (fun x => { x with state := st }) =
        (s.acted s.ackAction acts).putSource src (s.ackAction src).record := by
      rw [State.modSource_eq_putSource length src fun x => { x with state := st }, source, action]
    have level := State.alarmLevel_putSource_le length src _ lower
    have formed := State.formed_of_le (s.acted s.ackAction (acts ++ [src])) (s.acted s.ackAction acts).alarm.alarmLevel (by
      rw [← State.acted_concat, State.alarmRecord_eq]
      exact level)
    dsimp only
    rw [put, Option.isSome_some, if_pos rfl, List.length_append, ← formed, ← State.acted_concat]
    rfl

/-! ## What it answers -/

/-- TACH_FAULT stays PENDING, named and with its condition present. -/
theorem State.stillPresent_acted (s : State) (srcs : List Source) :
    (s.acted s.ackAction (s.ackChanges srcs)).stillPresent srcs = true ↔
      Source.tachFault ∈ srcs ∧ (s.alarm.source .tachFault).state = .pending ∧ (s.alarm.source .tachFault).present = true := by
  rw [State.stillPresent, State.acted_source]
  by_cases hmem : Source.tachFault ∈ s.ackChanges srcs
  · obtain ⟨-, some⟩ := List.mem_filter.mp hmem
    obtain ⟨st, hst⟩ := Option.isSome_iff_exists.mp some
    have gone := ((s.alarm.source .tachFault).acknowledged_isSome .tachFault).mp some
    have absent : (s.alarm.source .tachFault).present = false := by
      rcases gone.2 with (k | k) | k
      · exact absurd k (by decide)
      · exact k
      · exact absurd rfl k
    have record : (s.ackAction .tachFault).record.present = false := absent
    simp [if_pos hmem, record, absent]
  · simp [if_neg hmem, and_assoc]

/-- The row of an ACK_ALARM with sources named, up to the return from FAULTED. -/
theorem State.ackAlarm_eq (s : State) (h : s.alarm.sources.length = 15) (q : Request) (srcs : List Source)
    (hs : ackSources (byteAt q.params 0) = some srcs) (hn : srcs.Nodup) :
    let w := s.acted s.ackAction (s.ackChanges srcs)
    s.ackAlarm q = (w.answer q .done (if w.stillPresent srcs then ResultCode.stillPresent else .ok)
      (le8 (s.ackChanges srcs).length ++ le8 w.leaveFaulted.alarm.alarmLevel)).leaveFaulted := by
  intro w
  rw [State.ackAlarm, hs]
  dsimp only
  rw [s.foldl_acknowledge h srcs hn]

end Sys2Proof.Machine
end

section
/-! PROOFS. The return from FAULTED (R156): what lets the rails on leave alone, what the emptied bank leaves, and what either
return leaves of the Alarm Unit and the Journal Writer. -/

namespace Sys2Proof.Machine

/-! ## What letting the rails on leaves alone (R41, R59, R88) -/

/-- A state without its rails, its Coupling Monitor, and what blocks hand on. -/
def State.uncoupled (s : State) : State :=
  { s with rails := State.reset.rails, coupling := State.reset.coupling, alarm := { s.alarm with reports := [] },
           jrn := { s.jrn with presented := [] } }

theorem State.foldl_uncoupled {α : Type} (f : State → α → State) (h : ∀ s x, (f s x).uncoupled = s.uncoupled) (xs : List α)
    (s : State) : (xs.foldl f s).uncoupled = s.uncoupled := by
  induction xs generalizing s with
  | nil => rfl
  | cons x xs ih => rw [List.foldl_cons, ih, h]

theorem State.resetElement_uncoupled (s : State) (r : Rail) (reason : CouplingReason) (f : Nat → CouplingState) (e : Nat) :
    (s.resetElement r reason f e).uncoupled = s.uncoupled := by
  unfold State.resetElement State.recordLoss State.offer
  (repeat' split) <;> rfl

theorem State.reportLossEnd_uncoupled (s : State) : s.reportLossEnd.uncoupled = s.uncoupled := by
  unfold State.reportLossEnd
  split <;> rfl

theorem State.liftRail_uncoupled (s : State) (r : Rail) : (s.liftRail r).uncoupled = s.uncoupled :=
  (State.reportLossEnd_uncoupled _).trans (State.foldl_uncoupled _ (fun u => u.resetElement_uncoupled r .lifted _) _ s)

theorem State.releaseRail_uncoupled (s : State) (r : Rail) : (s.releaseRail r).uncoupled = s.uncoupled :=
  State.foldl_uncoupled _ (fun u e => by split <;> rfl) _ s

theorem State.carriageInStep_uncoupled (s : State) (r : Rail) : (s.carriageInStep r).uncoupled = s.uncoupled := by
  have notices (xs : List CarriageNotice) (u : State) : (xs.foldl (State.takeCarriage r) u).uncoupled = u.uncoupled :=
    State.foldl_uncoupled _ (fun v x => by
      cases x
      · exact v.liftRail_uncoupled r
      · exact v.releaseRail_uncoupled r) xs u
  have taken := notices (s.coupling.carriage.get r) (s.modCoupling fun m => { m with carriage := m.carriage.set r [] })
  unfold State.carriageInStep
  dsimp only
  split
  · exact (State.liftRail_uncoupled _ r).trans taken
  · exact (State.releaseRail_uncoupled _ r).trans taken

theorem State.railsOn_uncoupled (s : State) : s.railsOn.uncoupled = s.uncoupled := by
  rw [State.railsOn, State.bothRails, State.carriageInStep_uncoupled, State.carriageInStep_uncoupled]
  rfl

theorem State.uncoupled_blocks {s t : State} (h : t.uncoupled = s.uncoupled) : t.plans = s.plans ∧ t.req = s.req ∧
    t.bus = s.bus ∧ t.pos = s.pos ∧ t.device = s.device ∧
    { t.alarm with reports := [] } = { s.alarm with reports := [] } ∧
    { t.jrn with presented := [] } = { s.jrn with presented := [] } :=
  ⟨(congrArg State.plans h : t.uncoupled.plans = s.uncoupled.plans), (congrArg State.req h : t.uncoupled.req = s.uncoupled.req),
    (congrArg State.bus h : t.uncoupled.bus = s.uncoupled.bus), (congrArg State.pos h : t.uncoupled.pos = s.uncoupled.pos),
    (congrArg State.device h : t.uncoupled.device = s.uncoupled.device), congrArg State.alarm h, congrArg State.jrn h⟩

/-! ## States that stand alike -/

/-- The flags of a stay in FAULTED, the records of the faults, and the Journal Writer but for what is presented to it, are
those of another state. -/
def State.standsAs (s t : State) : Prop :=
  t.alarm.remembered = s.alarm.remembered ∧ t.alarm.planFaultSeen = s.alarm.planFaultSeen ∧
    { t.jrn with presented := [] } = { s.jrn with presented := [] } ∧
    ∀ f : Source, f.isFault = true → t.alarm.source f = s.alarm.source f

theorem State.standsAs.trans {s t u : State} (h : s.standsAs t) (k : t.standsAs u) : s.standsAs u := by
  obtain ⟨remembered, seen, jrn, faults⟩ := h
  obtain ⟨remembered', seen', jrn', faults'⟩ := k
  exact ⟨remembered'.trans remembered, seen'.trans seen, jrn'.trans jrn, fun f hf => (faults' f hf).trans (faults f hf)⟩

theorem State.standsAs_of_alarm {s t : State} (ha : { t.alarm with reports := [] } = { s.alarm with reports := [] })
    (hj : { t.jrn with presented := [] } = { s.jrn with presented := [] }) : s.standsAs t := by
  simp only [AlarmUnit.mk.injEq] at ha
  obtain ⟨sources, -, -, -, -, remembered, seen, -⟩ := ha
  exact ⟨remembered, seen, hj, fun f _ => by rw [AlarmUnit.source, sources, AlarmUnit.source]⟩

theorem State.standsAs_of_writesTo {s t : State} (h : s.writesTo t) : s.standsAs t := by
  obtain ⟨-, -, -, -, -, alarm⟩ := State.writesTo_blocks h
  exact State.standsAs_of_alarm (by rw [alarm]) (by rw [State.writesTo_jrn h])

theorem State.railsOn_standsAs (s : State) : s.standsAs s.railsOn := by
  obtain ⟨-, -, -, -, -, alarm, jrn⟩ := State.uncoupled_blocks s.railsOn_uncoupled
  exact State.standsAs_of_alarm alarm jrn

/-- The sources that new soft levels leave depend on the Alarm Unit and the operating state alone. -/
theorem State.setSoftLevels_sources (s : State) (levels : List Nat) (h : s.alarm.sources.length = 15) :
    (s.setSoftLevels levels).alarm.sources = ((s.releveled levels).alarm.after (s.levelAction levels)
      (Source.all.filter (s.clears levels) ++ Source.all.filter (s.raises levels))).sources := by
  rw [s.setSoftLevels_eq levels h, State.formed]
  split
  · obtain ⟨-, -, -, -, -, alarm⟩ := State.writesTo_blocks (State.setCause_writesTo _ .alarm)
    rw [alarm]
    rfl
  · rfl

theorem State.setSoftLevels_sources_congr {s t : State} (levels : List Nat) (h : s.alarm.sources.length = 15)
    (ha : { t.alarm with reports := [] } = { s.alarm with reports := [] }) (hd : t.device = s.device) :
    (t.setSoftLevels levels).alarm.sources = (s.setSoftLevels levels).alarm.sources := by
  simp only [AlarmUnit.mk.injEq] at ha
  obtain ⟨sources, -, suppression, -⟩ := ha
  have source (src : Source) : t.alarm.source src = s.alarm.source src := by
    rw [AlarmUnit.source, sources, AlarmUnit.source]
  rw [t.setSoftLevels_sources levels (by rw [sources, h]), s.setSoftLevels_sources levels h]
  rw [State.levelAction_after, State.levelAction_after]
  have relevel : t.relevel levels = s.relevel levels := funext fun src => by
    rw [State.relevel, State.relevel, State.newLevel, State.newLevel, source]
  have clears : t.clears levels = s.clears levels := funext fun src => by
    rw [State.clears, State.clears, State.newLevel, State.newLevel, source]
  have raises : t.raises levels = s.raises levels := funext fun src => by
    rw [State.raises, State.raises, State.newLevel, State.newLevel, source, hd, suppression]
  have record (acted : List Source) : t.levelRecord levels acted = s.levelRecord levels acted := funext fun src => by
    rw [State.levelRecord, State.levelRecord, relevel, clears]
  rw [record, clears, raises]

/-- New soft levels leave the faults alone. -/
theorem State.setSoftLevels_standsAs (s : State) (levels : List Nat) (h : s.alarm.sources.length = 15) :
    s.standsAs (s.setSoftLevels levels) := by
  have sources := s.setSoftLevels_sources levels h
  rw [State.levelAction_after] at sources
  obtain ⟨_, _, _, _, _, e⟩ := s.setSoftLevels_frame levels
  refine ⟨by rw [e], by rw [e], by rw [e], fun f hf => ?_⟩
  have unacted : f ∉ Source.all.filter (s.clears levels) ++ Source.all.filter (s.raises levels) := by
    simp [State.clears, State.raises, hf]
  rw [AlarmUnit.source_of_map sources, State.levelRecord, if_pos unacted, State.relevel, State.newLevel, if_pos hf]

end Sys2Proof.Machine
end

section
/-! PROOFS. Suppression (R149, R150): the rows of SUPPRESS, the progress event, and the end that falls due. -/

namespace Sys2Proof.Machine

/-! ## The rows of SUPPRESS (R150) -/

theorem State.suppressionEnds_aloof (s : State) : s.suppressionEnds.aloof = s.aloof := by
  rw [State.suppressionEnds, State.formed_aloof, State.eachSource_aloof]
  intro u src
  split
  · exact u.raiseSoft_aloof src
  · rfl

@[simp] theorem State.suppressionEnds_scan (s : State) : s.suppressionEnds.req.scan = s.req.scan :=
  (congrArg (fun x : State => x.req.scan) s.suppressionEnds_aloof : s.suppressionEnds.aloof.req.scan = s.aloof.req.scan)

@[simp] theorem State.suppressionEnds_device (s : State) : s.suppressionEnds.device = s.device :=
  (congrArg State.device s.suppressionEnds_aloof : s.suppressionEnds.aloof.device = s.aloof.device)

theorem State.dueExpiry_none (s : State) (h : s.alarm.expiryDue = false) : s.dueExpiry = s :=
  if_neg (by rw [h]; nofun)

section
variable (s : State) (q : Request) (rest : List Request) (hs : s.req.scan = q :: rest) (hd : s.device.scans = true)
  (hk : q.kind = 7) (v : State) (st : ReqState) (code : ResultCode) (words : List Byte) (h1 : v.req.scan = rest)
  (h2 : v.device = s.device)
include hs hd hk h1 h2

theorem exec_suppressStart_eq (ha : byteAt q.params 0 ≠ 1 ∧ byteAt q.params 0 ≠ 2)
    (hw : ({ s with req := { s.req with scan := rest } } : State).suppressStart q =
      v.answer q st code words) :
    exec .suppressStart s = .next (closeScan rest (v.answer q st code words)) :=
  congrArg Host.Outcome.next (s.takeRequest_eq q rest _ _ hs (by simp [hk, ha]) _ hw (by simp [h1])
    (by simpa [h2] using hd))

theorem exec_suppressExtend_eq (ha : byteAt q.params 0 = 1)
    (hw : ({ s with req := { s.req with scan := rest } } : State).suppressExtend q =
      v.answer q st code words) :
    exec .suppressExtend s = .next (closeScan rest (v.answer q st code words)) :=
  congrArg Host.Outcome.next (s.takeRequest_eq q rest _ _ hs (by simp [hk, ha]) _ hw (by simp [h1])
    (by simpa [h2] using hd))

theorem exec_suppressEnd_eq (ha : byteAt q.params 0 = 2)
    (hw : ({ s with req := { s.req with scan := rest } } : State).suppressEnd q =
      v.answer q st code words) :
    exec .suppressEnd s = .next (closeScan rest (v.answer q st code words)) :=
  congrArg Host.Outcome.next (s.takeRequest_eq q rest _ _ hs (by simp [hk, ha]) _ hw (by simp [h1])
    (by simpa [h2] using hd))

end

/-- What a SUPPRESS answers where it is done: the distance before it, and suppressed_count. -/
theorem suppressRequests (s : State) (q : Request) (rest : List Request) (hs : s.req.scan = q :: rest)
    (hd : s.device.scans = true) (hk : q.kind = 7) :
    let u : State := { s with req := { s.req with scan := rest } }
    let id := byteAt q.params 0
    let value := u16At q.params 2
    let now := s.alarm.suppression
    let words := le16 now ++ le16 s.alarm.suppressedCount
    (2 < id ∨ (id = 0 ∧ value = 0) → exec .suppressStart s = .next (closeScan rest (u.refuse q .badParameter))) ∧
    (id = 0 → 0 < value → s.alarm.expiryDue = false → exec .suppressStart s = .next (closeScan rest
      ((u.modAlarm fun a => { a with suppression := value, suppressedCount := if now = 0 then 0 else a.suppressedCount }).done
        q words))) ∧
    (id = 1 → now = 0 → exec .suppressExtend s = .next (closeScan rest (u.refuse q .notSuppressing))) ∧
    (id = 1 → 0 < now → exec .suppressExtend s = .next (closeScan rest
      ((u.modAlarm fun a => { a with suppression := min 65535 (now + value) }).done q words))) ∧
    (id = 2 → now = 0 → exec .suppressEnd s = .next (closeScan rest (u.done q words))) ∧
    (id = 2 → 0 < now → exec .suppressEnd s = .next (closeScan rest
      (((u.modAlarm fun a => { a with suppression := 0 }).suppressionEnds).done q words))) := by
  intro u id value now words
  have start := exec_suppressStart_eq s q rest hs hd hk
  have extend := exec_suppressExtend_eq s q rest hs hd hk
  have ending := exec_suppressEnd_eq s q rest hs hd hk
  refine ⟨fun bad => ?_, fun ha hv due => ?_, fun ha hn => ?_, fun ha hn => ?_, fun ha hn => ?_, fun ha hn => ?_⟩
  · have bad' : byteAt q.params 0 ≠ 0 ∨ u16At q.params 2 = 0 := bad.imp (fun k => by omega) (·.2)
    have ne : byteAt q.params 0 ≠ 1 ∧ byteAt q.params 0 ≠ 2 := ⟨by omega, by omega⟩
    exact start _ _ _ _ rfl rfl ne (if_pos bad')
  · have good : ¬ (byteAt q.params 0 ≠ 0 ∨ u16At q.params 2 = 0) := by omega
    refine start _ _ _ _ rfl rfl ⟨by omega, by omega⟩ ?_
    have none : ({ s with req := { s.req with scan := rest } } : State).dueExpiry = u := State.dueExpiry_none u due
    rw [State.suppressStart, if_neg good, none]
    rfl
  · exact extend _ _ _ _ rfl rfl ha (if_pos hn)
  · exact extend _ _ _ _ rfl rfl ha (if_neg (Nat.ne_of_gt hn))
  · refine ending _ _ _ _ rfl rfl ha ?_
    rw [State.suppressEnd, if_pos hn]
    rfl
  · refine ending _ _ _ _ (State.suppressionEnds_scan _) (State.suppressionEnds_device _) ha ?_
    rw [State.suppressEnd, if_neg (Nat.ne_of_gt hn)]
    rfl

/-! ## The progress event (R149) -/

theorem exec_alarmProgressEvent_eq (s : State) (x : Report) (before rest : List (Raiser × Report))
    (h : s.alarm.reports = before ++ (.positionUnit, x) :: rest) (hb : ∀ y ∈ before, y.1 ≠ .positionUnit) :
    (∀ t p, x = .progress t p → exec .alarmProgressEvent s = .next (s.modAlarm fun a =>
      { a with reports := before ++ rest, suppression := a.suppression - 1,
               expiryDue := a.expiryDue || decide (a.suppression = 1) })) ∧
    ((∀ t p, x ≠ .progress t p) → exec .alarmProgressEvent s = .next s) := by
  have first := s.alarm.firstReport_eq .positionUnit x before rest h hb
  cases x with
  | progress t p =>
    refine ⟨fun _ _ _ => ?_, fun other => absurd rfl (other t p)⟩
    show execAlarmProgressEvent s = _
    rw [execAlarmProgressEvent, first]
    rfl
  | raise | condEnd =>
    refine ⟨nofun, fun _ => ?_⟩
    show execAlarmProgressEvent s = _
    rw [execAlarmProgressEvent, first]

/-! ## The end that falls due (R149) -/

/-- What the end of suppression does to a condition that has waited for it. -/
def State.expiryAction (s : State) (src : Source) : SourceAction :=
  { record := { s.alarm.source src with state := .pending, raiseCount := 0 }, action := .raised, raises := 0 }

/-- A condition that waits for the end of suppression. -/
def State.waits (s : State) (src : Source) : Bool := s.alarm.waiting src && s.alarm.suppressible src

theorem State.waits_iff (s : State) (src : Source) : s.waits src = true ↔ src.isCondition = true ∧ src.isFault = false ∧
    (s.alarm.source src).state = .idle ∧ (s.alarm.source src).present = true ∧ 1 ≤ (s.alarm.source src).level ∧
      (s.alarm.source src).level ≤ 6 := by
  simp only [State.waits, AlarmUnit.waiting, AlarmUnit.suppressible, Machine.within, Bool.and_eq_true, Bool.not_eq_true',
    beq_iff_eq, decide_eq_true_eq]
  tauto

/-- With the distance at 0 every condition that waits becomes PENDING, in id order. -/
theorem State.suppressionEnds_eq (s : State) (h : s.alarm.sources.length = 15) (hs : s.alarm.suppression = 0)
    (hd : s.device ≠ .unbound) :
    s.suppressionEnds = (s.acted s.expiryAction (Source.all.filter s.waits)).formed s.alarm.alarmLevel := by
  have start := (s.acted_nil s.expiryAction h).symm
  have raised : (s.eachSource fun s src => if s.alarm.waiting src && s.alarm.suppressible src then s.raiseSoft src else s) =
      s.acted s.expiryAction (Source.all.filter s.waits) := by
    refine (congrArg (Source.all.foldl fun (s : State) src =>
        if s.alarm.waiting src && s.alarm.suppressible src then s.raiseSoft src else s) start).trans
      (foldl_actions _ (s.acted s.expiryAction) s.waits [] _ [] Source.nodup_all (fun _ _ => id) fun acts src fresh => ?_)
    have source := s.acted_source_of_notMem s.expiryAction fun k : src ∈ acts => List.not_mem_nil (fresh k)
    have waits : ((s.acted s.expiryAction acts).alarm.waiting src && (s.acted s.expiryAction acts).alarm.suppressible src) =
        s.waits src := by
      rw [AlarmUnit.waiting, AlarmUnit.suppressible, source]
      rfl
    rw [waits]
    by_cases hw : s.waits src = true
    · obtain ⟨-, -, idle, -, above, -⟩ := (s.waits_iff src).mp hw
      have pends : (s.acted s.expiryAction acts).raiseCase src = .pends :=
        State.raiseCase_pends hd (by rw [source, idle]; nofun) (.inr ⟨by rw [source]; exact above, .inr hs⟩)
      rw [if_pos hw, if_pos hw, State.raiseSoft_pends (State.acted_length _ _ acts) pends, source, ← State.acted_concat]
      rfl
    · rw [if_neg hw, if_neg hw]
  rw [State.suppressionEnds, raised]

theorem State.formed_writesTo (s : State) (before : Nat) : s.writesTo (s.formed before) := by
  unfold State.formed
  split
  · exact s.setCause_writesTo .alarm
  · rfl

theorem State.suppressionExpires (s : State) (h : s.alarm.sources.length = 15) (due : s.alarm.expiryDue = true)
    (hs : s.alarm.suppression = 0) (hd : s.device ≠ .unbound) :
    ∃ t, exec .suppressionExpiry s = .next t ∧ t.alarm.expiryDue = false ∧ t.device = s.device ∧ t.pos = s.pos ∧
      t.rails = s.rails ∧ t.plans = s.plans ∧
      ∀ src, t.alarm.source src = if s.waits src then { s.alarm.source src with state := .pending, raiseCount := 0 }
        else s.alarm.source src := by
  let u := s.modAlarm fun a => { a with expiryDue := false }
  have ends : s.dueExpiry = (u.acted u.expiryAction (Source.all.filter u.waits)).formed u.alarm.alarmLevel :=
    (if_pos due).trans (State.suppressionEnds_eq u h hs hd)
  obtain ⟨device, pos, plans, rails, -, alarm⟩ := State.writesTo_blocks
    (State.formed_writesTo (u.acted u.expiryAction (Source.all.filter u.waits)) u.alarm.alarmLevel)
  rw [← ends] at device pos plans rails alarm
  refine ⟨s.dueExpiry, rfl, by rw [alarm]; rfl, device, pos, rails, plans, fun src => ?_⟩
  rw [alarm, State.acted_source]
  refine if_congr ?_ rfl rfl
  rw [List.mem_filter]
  exact and_iff_right src.mem_all

end Sys2Proof.Machine
end

section
/-! PROOFS. An acknowledgement that leaves the device as it is (R155): the sources and records behind it. -/

namespace Sys2Proof.Machine

/-! ## Records of actions -/

section
variable (act : Source → SourceAction) (s : State) (acts : List Source)

theorem State.actionRecords_map {β : Type} (f : AlarmRecord → β) (g : Source → β)
    (h : ∀ k, f (s.actionRecord act acts k) = g k.2) : (s.actionRecords act acts).map f = acts.map g := by
  calc
    (s.actionRecords act acts).map f = (indexed acts).map (g ∘ Prod.snd) :=
      List.map_map.trans (List.map_congr_left fun k _ => h k)
    _ = acts.map g := by rw [← List.map_map, map_snd_indexed]

theorem State.actionRecord_alarmLevel (k : Nat × Source) : (s.actionRecord act acts k).alarmLevel =
    (s.alarm.after act (acts.take (k.1 + 1))).alarmLevel := by rw [State.actionRecord]

theorem State.actionRecord_topSource (k : Nat × Source) : (s.actionRecord act acts k).topSource =
    (s.alarm.after act (acts.take (k.1 + 1))).topSource := by rw [State.actionRecord]

theorem State.actionRecords_getElem? (k : Nat) : (s.actionRecords act acts)[k]? =
    (acts[k]?).map fun src => s.actionRecord act acts (k, src) := getElem?_map_indexed _ _ _

theorem AlarmUnit.after_getElem? (a : AlarmUnit) (src : Source) : (a.after act acts).sources[src.id]? =
    some (if src ∈ acts then (act src).record else a.source src) := by
  rw [AlarmUnit.after, List.getElem?_map, src.all_getElem?]
  rfl

/-- The sources behind some of the actions, read off the sources behind all of them. -/
theorem AlarmUnit.after_part (a : AlarmUnit) (h : a.sources.length = 15) (part : List Source) (hs : part ⊆ acts) :
    ((indexed a.sources).map fun y => if y.1 ∈ part.map Source.id then (a.after act acts).sources.getD y.1 y.2 else y.2) =
      (a.after act part).sources := by
  refine List.ext_getElem? fun i => ?_
  rw [getElem?_map_indexed]
  by_cases hi : i < 15
  · obtain ⟨src, rfl⟩ := Source.exists_id hi
    have named : src.id ∈ part.map Source.id ↔ src ∈ part := List.mem_map_of_injective Source.id_injective
    rw [a.source_getElem? h, Option.map_some, List.getD_eq_getElem?_getD, AlarmUnit.after_getElem?, AlarmUnit.after_getElem?,
      Option.getD_some]
    simp only [named]
    by_cases hm : src ∈ part
    · rw [if_pos hm, if_pos hm, if_pos (hs hm)]
    · rw [if_neg hm, if_neg hm]
  · have beyond : (a.after act part).sources[i]? = none := List.getElem?_eq_none (Nat.not_lt.mp hi)
    rw [beyond, List.getElem?_eq_none (by omega), Option.map_none]

end

/-! ## The sources acknowledged -/

section
variable (s : State) (srcs : List Source)

theorem State.mem_ackChanges (src : Source) : src ∈ s.ackChanges srcs ↔ src ∈ srcs ∧ (s.alarm.source src).state = .pending ∧
    ((src.isCondition = false ∨ (s.alarm.source src).present = false) ∨ src ≠ .tachFault) := by
  rw [State.ackChanges, List.mem_filter, SourceRecord.acknowledged_isSome]

theorem State.ackChanges_pairwise (h : srcs.Pairwise fun x y => x.id < y.id) :
    (s.ackChanges srcs).Pairwise fun x y => x.id < y.id := h.sublist List.filter_sublist

/-- A source changed goes IDLE where its condition has gone, and ACKNOWLEDGED otherwise. -/
theorem State.ackAction_state {src : Source} (h : src ∈ s.ackChanges srcs) : (s.ackAction src).record.state =
    if src.isCondition = false ∨ (s.alarm.source src).present = false then .idle else .acknowledged := by
  obtain ⟨-, pending, other⟩ := (s.mem_ackChanges srcs src).mp h
  show ((s.alarm.source src).acknowledged src).getD _ = _
  rw [SourceRecord.acknowledged, if_neg (not_not.mpr pending)]
  split_ifs with gone tach
  · rfl
  · exact ((other.resolve_left gone) tach).elim
  · rfl

/-- What an acknowledgement leaves of each source. -/
theorem State.acted_ack_source (src : Source) : (s.acted s.ackAction (s.ackChanges srcs)).alarm.source src =
    { s.alarm.source src with state := if src ∈ s.ackChanges srcs then (s.ackAction src).record.state
        else (s.alarm.source src).state } := by
  rw [State.acted_source]
  by_cases h : src ∈ s.ackChanges srcs
  · rw [if_pos h, if_pos h]
    rfl
  · rw [if_neg h, if_neg h]

theorem Source.isFault_iff (src : Source) :
    src.isFault = true ↔ src ∈ [Source.planFault, .tachFault, .contextFault] := by
  cases src <;> decide

/-- A fault is PENDING behind an acknowledgement exactly where one was that it does not change. -/
theorem State.faultPending_acted : (s.acted s.ackAction (s.ackChanges srcs)).alarm.faultPending = true ↔
    ∃ f : Source, f.isFault = true ∧ (s.alarm.source f).state = .pending ∧ f ∉ s.ackChanges srcs := by
  have stays (f : Source) : ((s.acted s.ackAction (s.ackChanges srcs)).alarm.source f).state = .pending ↔
      (s.alarm.source f).state = .pending ∧ f ∉ s.ackChanges srcs := by
    rw [State.acted_ack_source]
    by_cases h : f ∈ s.ackChanges srcs
    · have left : (s.ackAction f).record.state ≠ .pending := by
        rw [s.ackAction_state srcs h]
        split <;> nofun
      simp [h, left]
    · simp [h]
  simp only [AlarmUnit.faultPending, List.any_eq_true, ← Source.isFault_iff, beq_iff_eq, stays]

end

/-! ## The row -/

theorem State.leaveFaulted_stays (s : State) (h : s.device ≠ .faulted ∨ s.alarm.faultPending = true) :
    s.leaveFaulted = s := if_pos h

theorem exec_ackAlarm_eq (s : State) (q : Request) (rest : List Request) (hs : s.req.scan = q :: rest) (hk : q.kind = 6)
    (w : State) (hw : ({ s with req := { s.req with scan := rest } } : State).ackAlarm q = w) (h1 : w.req.scan = rest)
    (h2 : w.device.scans = true) : exec .ackAlarm s = .next (closeScan rest w) :=
  congrArg Host.Outcome.next (s.takeRequest_eq q rest _ _ hs (by simp [hk]) w hw h1 h2)

/-- An acknowledgement that leaves the device as it is. -/
theorem exec_ackAlarm_stays (s : State) (q : Request) (rest : List Request) (hs : s.req.scan = q :: rest)
    (hd : s.device.scans = true) (hk : q.kind = 6) (h : s.alarm.sources.length = 15) (srcs : List Source)
    (known : ackSources (byteAt q.params 0) = some srcs) (hn : srcs.Nodup) (w : State)
    (hw : ({ s with req := { s.req with scan := rest } } : State).acted s.ackAction (s.ackChanges srcs) = w)
    (stays : w.device ≠ .faulted ∨ w.alarm.faultPending = true) : exec .ackAlarm s = .next (closeScan rest (w.answer q .done
      (if w.stillPresent srcs then ResultCode.stillPresent else .ok)
      (le8 (s.ackChanges srcs).length ++ le8 w.alarm.alarmLevel))) := by
  have row := State.ackAlarm_eq { s with req := { s.req with scan := rest } } h q srcs known hn
  have answered : (w.answer q .done (if w.stillPresent srcs then ResultCode.stillPresent else .ok)
      (le8 (s.ackChanges srcs).length ++ le8 w.alarm.alarmLevel)).leaveFaulted = w.answer q .done
      (if w.stillPresent srcs then ResultCode.stillPresent else .ok)
      (le8 (s.ackChanges srcs).length ++ le8 w.alarm.alarmLevel) := by
    obtain ⟨device, -, -, -, -, alarm⟩ := State.writesTo_blocks (State.answer_writesTo w q .done
      (if w.stillPresent srcs then ResultCode.stillPresent else .ok)
      (le8 (s.ackChanges srcs).length ++ le8 w.alarm.alarmLevel))
    exact State.leaveFaulted_stays _ (by rwa [device, alarm])
  refine exec_ackAlarm_eq s q rest hs hk _ (row.trans ?_) ?_ ?_
  · refine Eq.trans ?_ answered
    subst hw
    exact congrArg (fun v : State => (State.answer _ q .done _ (le8 (s.ackChanges srcs).length ++ le8 v.alarm.alarmLevel)).leaveFaulted)
      (State.leaveFaulted_stays _ stays)
  · rw [State.answer_scan, ← hw]
    rfl
  · rw [State.answer_device, ← hw]
    exact hd

end Sys2Proof.Machine
end

section
/-! PROOFS. The bank emptied behind a PLAN_FAULT and the return from FAULTED (R156), block by block. -/

namespace Sys2Proof.Machine

/-! ## The switch resumed (R34) -/

/-- The plans swapped, the device not yet announced (R33). -/
def State.swapped (s : State) (y : SwitchProtocol) : State :=
  let plan := s.plans.standby.contents
  let swapped := s.swapBanks.setSoftLevels (Plan.alarmLevels plan)
  { swapped with
    plans := { swapped.plans with protocol := some { y with step := 6, swapT := s.pos.t } }
    coupling := { s.coupling with orders := s.coupling.orders ++ [CouplingOrder.planReset] }
    rails := ⟨s.rails.a.swapped s.pos.t plan .A, s.rails.b.swapped s.pos.t plan .B⟩ }

theorem State.swapPlans_writesTo (s : State) (y : SwitchProtocol) (hy : s.plans.protocol = some y) :
    (s.swapped y).writesTo s.swapPlans := by
  rw [s.swapPlans_eq y hy]
  exact State.announce_writesTo (s.swapped y)

theorem State.swapPlans_standsAs (s : State) (h : s.alarm.sources.length = 15) (y : SwitchProtocol)
    (hy : s.plans.protocol = some y) : s.standsAs s.swapPlans := by
  have banks : s.standsAs s.swapBanks := State.standsAs_of_alarm rfl rfl
  have levels := s.swapBanks.setSoftLevels_standsAs (Plan.alarmLevels s.plans.standby.contents) h
  have rest : (s.swapBanks.setSoftLevels (Plan.alarmLevels s.plans.standby.contents)).standsAs (s.swapped y) :=
    State.standsAs_of_alarm rfl rfl
  exact ((banks.trans levels).trans rest).trans (State.standsAs_of_writesTo (s.swapPlans_writesTo y hy))

theorem State.swapPlans_pendingActivation (s : State) (y : SwitchProtocol) (hy : s.plans.protocol = some y) :
    s.swapPlans.plans.pendingActivation = none := by
  obtain ⟨-, -, plans, -⟩ := State.writesTo_blocks (s.swapPlans_writesTo y hy)
  obtain ⟨_, _, _, _, _, e⟩ := s.swapBanks.setSoftLevels_frame (Plan.alarmLevels s.plans.standby.contents)
  rw [plans, State.swapped, e]
  rfl

/-- With no activation pending a switch that resumes swaps the plans, or nothing happens. -/
theorem State.resumeSwitch_cases (s : State) (h : s.plans.pendingActivation = none) :
    s.resumeSwitch = s ∨ ∃ y, s.plans.protocol = some y ∧ s.resumeSwitch = s.swapPlans := by
  rw [State.resumeSwitch, State.trySwap]
  cases hy : s.plans.protocol with
  | none => exact .inl (s.startReached_none h)
  | some y =>
    dsimp only
    split
    · exact .inr ⟨y, rfl, State.startReached_none _ (s.swapPlans_pendingActivation y hy)⟩
    · exact .inl (s.startReached_none h)

/-! ## The bank emptied (R156) -/

/-- A rail told that the ACTIVE bank has been emptied. -/
def RailBlocks.emptied (b : RailBlocks) : RailBlocks :=
  { b with
    seq := { b.seq with held := false, heldReported := false, orders := [] }
    trk := { b.trk with path := b.trk.path.map PathItem.disown, orders := b.trk.orders.filter (· == .planEnded) ++ [.planEnded] }
    asm := { b.asm with job := b.asm.job.map fun j => { j with after := j.after.disown }, stopping := false,
                        orders := b.asm.orders.filter (· != .stopBegun) ++ [.planEnded] }
    mrk := { b.mrk with orders := b.mrk.orders.filter (· == .planEnded) ++ [.planEnded] } }

theorem State.reportEmptied_eq (s : State) (r : Rail) : s.reportEmptied r = s.modRail r RailBlocks.emptied := by
  simp only [State.reportEmptied, State.disownRail, State.freeSeq, State.clearStopping, State.orderTrack, State.orderAsm,
    State.orderMark, State.modTrk, State.modAsm, State.modMrk, State.modSeq, State.modRail_modRail]
  rfl

theorem State.bothRails_reportEmptied (s : State) : s.bothRails (fun r s => s.reportEmptied r) =
    { s with rails := ⟨s.rails.a.emptied, s.rails.b.emptied⟩ } := by
  rw [State.bothRails, State.reportEmptied_eq, State.reportEmptied_eq]
  rfl

/-- The Plan Store replaced. -/
def State.putPlans (s : State) (p : PlanStore) : State := { s with plans := p }

theorem State.putPlans_writesTo {s t : State} (p : PlanStore) (h : s.writesTo t) :
    (s.putPlans p).writesTo (t.putPlans p) := congrArg (State.putPlans · p) h

theorem State.cancelProtocol_writesTo (s : State) (h : s.plans.pendingActivation = none) : ∃ p : PlanStore,
    p.protocol = none ∧ p.pendingActivation = none ∧ (s.putPlans p).writesTo s.cancelProtocol := by
  rw [State.cancelProtocol]
  cases hx : s.plans.protocol with
  | none => exact ⟨s.plans, hx, h, rfl⟩
  | some x =>
    refine ⟨if x.step < 4 then { s.plans with protocol := none, pendingActivation := none, standby := .cleared }
      else { s.plans with protocol := none }, ?_, ?_, State.complete_writesTo _ x.index .refused .cancelled []⟩
    · split <;> rfl
    · split
      · rfl
      · exact h

theorem State.endStop_writesTo (s : State) :
    (s.putPlans { s.plans with stop := none }).writesTo s.endStop := by
  rw [State.endStop]
  cases hx : s.plans.stop with
  | none =>
    have e : { s.plans with stop := none } = s.plans := by rw [← hx]
    rw [e]
    rfl
  | some x => exact State.complete_writesTo _ x.index .done .ok []

/-- With the switch cancelled and the stop ended, nothing of either goes on. -/
theorem State.endSwitchAndStop_writesTo (s : State) (h : s.plans.pendingActivation = none) : ∃ p : PlanStore,
    p.protocol = none ∧ p.pendingActivation = none ∧ p.stop = none ∧
      (s.putPlans p).writesTo s.cancelProtocol.cancelPending.endStop := by
  obtain ⟨p, protocol, pending, frame⟩ := s.cancelProtocol_writesTo h
  obtain ⟨-, -, plans, -⟩ := State.writesTo_blocks frame
  rw [s.cancelProtocol.cancelPending_none (by rw [plans]; exact pending)]
  refine ⟨{ p with stop := none }, protocol, pending, rfl, State.writesTo_trans ?_ s.cancelProtocol.endStop_writesTo⟩
  rw [plans]
  exact State.putPlans_writesTo (s := s.putPlans p) _ frame

/-- The state before the soft levels are set back: the switch cancelled, the stop ended, and the rails told. -/
def State.emptying (s : State) : State :=
  let u := s.cancelProtocol.cancelPending.endStop
  { u with
    plans := { u.plans.dropReports with active := .cleared }
    coupling := { u.coupling with orders := u.coupling.orders.filter (· == .planEnded) ++ [.planEnded] }
    rails := ⟨u.rails.a.emptied, u.rails.b.emptied⟩ }

theorem State.emptyAfterFault_eq (s : State) :
    s.emptyAfterFault = s.emptying.setSoftLevels (List.replicate 12 Config.defaultSoftLevel) := by
  rw [State.emptyAfterFault]
  rw [State.bothRails_reportEmptied]
  rfl

theorem State.emptying_blocks (s : State) (h : s.plans.pendingActivation = none) :
    s.emptying.device = s.device ∧ s.emptying.pos = s.pos ∧ s.emptying.alarm = s.alarm ∧ s.emptying.jrn = s.jrn ∧
    s.emptying.rails = ⟨s.rails.a.emptied, s.rails.b.emptied⟩ ∧ s.emptying.plans.active = .cleared ∧
    s.emptying.plans.protocol = none ∧ s.emptying.plans.stop = none ∧ s.emptying.plans.pendingActivation = none := by
  obtain ⟨p, protocol, pending, stop, frame⟩ := s.endSwitchAndStop_writesTo h
  have jrn := State.writesTo_jrn frame
  obtain ⟨device, pos, plans, rails, -, alarm⟩ := State.writesTo_blocks frame
  rw [State.emptying]
  dsimp only
  rw [device, pos, plans, rails, alarm, jrn]
  exact ⟨rfl, rfl, rfl, rfl, rfl, rfl, protocol, stop, pending⟩

/-- With no switch and no stop going on, no request is answered. -/
theorem State.emptying_req (s : State) (h : s.plans.pendingActivation = none) (hp : s.plans.protocol = none)
    (hs : s.plans.stop = none) : s.emptying.req = s.req := by
  have still : s.cancelProtocol = s := by rw [State.cancelProtocol, hp]
  have quiet : s.endStop = s := by rw [State.endStop, hs]
  rw [State.emptying, still, s.cancelPending_none h, quiet]

/-- What the bank emptied leaves. -/
theorem State.emptyAfterFault_blocks (s : State) (h : s.plans.pendingActivation = none) :
    s.emptyAfterFault.device = s.device ∧ s.emptyAfterFault.pos = s.pos ∧ s.emptyAfterFault.req = s.emptying.req ∧
    s.emptyAfterFault.rails = ⟨s.rails.a.emptied, s.rails.b.emptied⟩ ∧ s.emptyAfterFault.plans.active = .cleared ∧
    s.emptyAfterFault.plans.protocol = none ∧ s.emptyAfterFault.plans.stop = none ∧
    s.emptyAfterFault.plans.pendingActivation = none := by
  obtain ⟨device, pos, -, -, rails, active, protocol, stop, pending⟩ := s.emptying_blocks h
  obtain ⟨_, _, _, _, _, e⟩ := s.emptying.setSoftLevels_frame (List.replicate 12 Config.defaultSoftLevel)
  rw [State.emptyAfterFault_eq, e]
  exact ⟨device, pos, rfl, rails, active, protocol, stop, pending⟩

theorem State.emptyAfterFault_standsAs (s : State) (h : s.plans.pendingActivation = none)
    (hl : s.alarm.sources.length = 15) : s.standsAs s.emptyAfterFault := by
  obtain ⟨-, -, alarm, jrn, -⟩ := s.emptying_blocks h
  rw [State.emptyAfterFault_eq]
  exact (State.standsAs_of_alarm (by rw [alarm]) (by rw [jrn])).trans
    (s.emptying.setSoftLevels_standsAs _ (by rw [alarm, hl]))

/-- The sources behind the bank emptied are those that the soft levels set back leave. -/
theorem State.emptyAfterFault_sources (s : State) (h : s.plans.pendingActivation = none)
    (hl : s.alarm.sources.length = 15) : s.emptyAfterFault.alarm.sources =
      (s.setSoftLevels (List.replicate 12 Config.defaultSoftLevel)).alarm.sources := by
  obtain ⟨device, -, alarm, -⟩ := s.emptying_blocks h
  rw [State.emptyAfterFault_eq]
  exact State.setSoftLevels_sources_congr _ hl (by rw [alarm]) device

/-! ## The return (R156) -/

/-- A state that has left FAULTED, before its rails and plans resume. -/
def State.reentered (s : State) (d : OpState) : State :=
  (({ s with device := d } : State).modAlarm fun a => { a with remembered := none, planFaultSeen := false }).resumeWriter

theorem State.returnTo_active (s : State) :
    s.returnTo .active = ((s.reentered .active).railsOn.resumeSwitch).announce := rfl

theorem State.cancelSnapshots_writesTo (s : State) : s.writesTo s.cancelSnapshots :=
  State.writesTo_trans (s.cancelSnapshot_writesTo .A) (State.cancelSnapshot_writesTo _ .B)

theorem State.returnTo_bound (s : State) (h : s.plans.pendingActivation = none) :
    s.returnTo .bound = (s.reentered .bound).cancelSnapshots.announce := by
  have frame := State.writesTo_trans (s.reentered .bound).cancelSnapshots_writesTo (State.announce_writesTo _)
  obtain ⟨-, -, plans, -⟩ := State.writesTo_blocks frame
  have none : (s.reentered .bound).cancelSnapshots.announce.plans.pendingActivation = none := by
    rw [plans]
    exact h
  show (s.reentered .bound).cancelSnapshots.announce.resumeActivation = _
  rw [State.resumeActivation, none]

section
variable (s : State) (h : s.plans.pendingActivation = none)
include h

theorem State.returnTo_bound_writesTo : (s.reentered .bound).writesTo (s.returnTo .bound) := by
  rw [s.returnTo_bound h]
  exact State.writesTo_trans (s.reentered .bound).cancelSnapshots_writesTo (State.announce_writesTo _)

/-- The rails let on, with the activation that is pending still none. -/
theorem State.railsOn_pending : (s.reentered .active).railsOn.plans.pendingActivation = none := by
  obtain ⟨plans, -⟩ := State.uncoupled_blocks (s.reentered .active).railsOn_uncoupled
  rw [plans]
  exact h

theorem State.returnTo_standsAs (hl : s.alarm.sources.length = 15) (d : OpState) (hd : d = .active ∨ d = .bound) :
    (s.reentered d).standsAs (s.returnTo d) := by
  rcases hd with rfl | rfl
  · have on := (s.reentered .active).railsOn_standsAs
    obtain ⟨-, -, -, -, -, alarm, -⟩ := State.uncoupled_blocks (s.reentered .active).railsOn_uncoupled
    simp only [AlarmUnit.mk.injEq] at alarm
    have length : (s.reentered .active).railsOn.alarm.sources.length = 15 := by
      rw [alarm.1]
      exact hl
    rw [State.returnTo_active]
    refine (on.trans ?_).trans (State.standsAs_of_writesTo (State.announce_writesTo _))
    rcases State.resumeSwitch_cases _ (s.railsOn_pending h) with e | ⟨y, hy, e⟩
    · rw [e]
      exact State.standsAs_of_alarm rfl rfl
    · rw [e]
      exact State.swapPlans_standsAs _ length y hy
  · exact State.standsAs_of_writesTo (s.returnTo_bound_writesTo h)

theorem State.returnTo_state (d : OpState) (hd : d = .active ∨ d = .bound) :
    (s.returnTo d).bus.causes.state = true := by
  rcases hd with rfl | rfl
  · rw [State.returnTo_active]
    exact State.announce_state _
  · rw [s.returnTo_bound h]
    exact State.announce_state _

end

end Sys2Proof.Machine
end

section
/-! PROOFS. The return from FAULTED behind an acknowledgement (R156): what it leaves, and what it has answered. -/

namespace Sys2Proof.Machine

/-! ## The entries written (R166) -/

theorem State.announce_issued (s : State) : s.announce.req.issued = s.req.issued := by
  rw [State.announce, State.setCause_req]
  rfl

/-- An answer writes its entry, and no snapshot moves. -/
theorem State.answer_req (s : State) (hd : s.device ≠ .locked) (q : Request) (st : ReqState) (code : ResultCode)
    (words : List Byte) : (s.answer q st code words).req.snapshot = s.req.snapshot ∧ ∃ x : IssuedWrite,
      x.write = { state := st, code := code, words := words, tag := q.tag } ∧
        (s.answer q st code words).req.issued = s.req.issued.set q.index (some x) := by
  rw [State.answer, State.writeEntry, if_neg hd]
  unfold State.issueEntry State.announceEntry
  dsimp only
  split
  · rw [State.setCause_req]
    exact ⟨rfl, _, rfl, rfl⟩
  · exact ⟨rfl, _, rfl, rfl⟩

theorem State.cancelSnapshots_none (s : State) (h : s.req.snapshot = ⟨none, none⟩) : s.cancelSnapshots = s := by
  have still (r : Rail) : s.cancelSnapshot r = s := by
    rw [State.cancelSnapshot, h]
    cases r <;> rfl
  rw [State.cancelSnapshots, State.bothRails, still, still]

section
variable (s : State) (h : s.plans.pendingActivation = none) (hp : s.plans.protocol = none)
include h hp

/-- With no switch going on the return leaves the sources and the entries written, but for snapshots that it cancels. -/
theorem State.returnTo_kept (d : OpState) (hd : d = .active ∨ d = .bound) :
    (s.returnTo d).alarm.sources = s.alarm.sources ∧
      (s.req.snapshot = ⟨none, none⟩ → (s.returnTo d).req.issued = s.req.issued) := by
  rcases hd with rfl | rfl
  · obtain ⟨plans, req, -, -, -, alarm, -⟩ := State.uncoupled_blocks (s.reentered .active).railsOn_uncoupled
    have still : (s.reentered .active).railsOn.resumeSwitch = (s.reentered .active).railsOn := by
      refine ((s.reentered .active).railsOn.resumeSwitch_cases (s.railsOn_pending h)).resolve_right ?_
      rintro ⟨y, hy, -⟩
      rw [plans] at hy
      exact absurd (hp.symm.trans hy) nofun
    obtain ⟨-, -, -, -, -, announced⟩ := State.writesTo_blocks (State.announce_writesTo (s.reentered .active).railsOn)
    simp only [AlarmUnit.mk.injEq] at alarm
    rw [State.returnTo_active, still, announced, State.announce_issued, req]
    exact ⟨alarm.1, fun _ => rfl⟩
  · obtain ⟨-, -, -, -, -, alarm⟩ := State.writesTo_blocks (s.returnTo_bound_writesTo h)
    refine ⟨by rw [alarm]; rfl, fun hs => ?_⟩
    rw [s.returnTo_bound h, (s.reentered .bound).cancelSnapshots_none hs, State.announce_issued]
    rfl

end

/-! ## The Journal Writer resumed (R177) -/

/-- What a state that stands as one out of FAULTED has of the Alarm Unit and the Journal Writer. -/
theorem State.standsAs_reentered {s t u : State} (d : OpState) (h : s.standsAs t) (k : (t.reentered d).standsAs u) :
    (∀ f : Source, f.isFault = true → u.alarm.source f = s.alarm.source f) ∧ u.alarm.remembered = none ∧
    u.alarm.planFaultSeen = false ∧ u.jrn.stopped = false ∧
    (s.jrn.stopped = true → u.jrn.knownFree = 0 ∧ u.jrn.queue = s.jrn.queue ∧
      u.jrn.phase = if s.jrn.queue = [] then .idle else .afresh) := by
  obtain ⟨-, -, jrn, faults⟩ := h
  obtain ⟨remembered, seen, jrn', faults'⟩ := k
  refine ⟨fun f hf => (faults' f hf).trans (faults f hf), remembered, seen, ?_⟩
  have writer : (t.reentered d).jrn = if t.jrn.stopped then
      { t.jrn with stopped := false, knownFree := 0, phase := if t.jrn.queue.isEmpty then .idle else .afresh }
    else t.jrn := rfl
  simp only [JournalWriter.mk.injEq] at jrn jrn'
  obtain ⟨-, -, -, -, queue, -, -, -, -, -, stopped, -⟩ := jrn
  obtain ⟨-, -, -, -, queue', -, -, free, -, -, stopped', phase, -⟩ := jrn'
  rw [queue', free, stopped', phase, writer, ← stopped, ← queue]
  by_cases hs : t.jrn.stopped = true
  · simp [hs]
  · simp [hs]

/-! ## The return behind an acknowledgement (R156) -/

theorem AlarmUnit.returnState_cases (a : AlarmUnit) : a.returnState = .active ∨ a.returnState = .bound := by
  unfold AlarmUnit.returnState
  split
  · exact .inl rfl
  · exact .inr rfl

section
variable (s : State) (hd : s.device = .faulted) (hf : s.alarm.faultPending = false)
include hd hf

theorem State.leaveFaulted_left : s.leaveFaulted =
    if s.alarm.planFaultSeen then s.emptyAfterFault.returnTo .bound else s.returnTo s.alarm.returnState :=
  if_neg (by simp [hd, hf])

variable (h : s.plans.pendingActivation = none)
include h

theorem State.leaveFaulted_state : s.leaveFaulted.bus.causes.state = true := by
  rw [s.leaveFaulted_left hd hf]
  split
  · obtain ⟨-, -, -, -, -, -, -, pending⟩ := s.emptyAfterFault_blocks h
    exact State.returnTo_state _ pending _ (.inr rfl)
  · exact s.returnTo_state h _ s.alarm.returnState_cases

theorem State.leaveFaulted_writer (hl : s.alarm.sources.length = 15) :
    (∀ f : Source, f.isFault = true → s.leaveFaulted.alarm.source f = s.alarm.source f) ∧
    s.leaveFaulted.alarm.remembered = none ∧ s.leaveFaulted.alarm.planFaultSeen = false ∧
    s.leaveFaulted.jrn.stopped = false ∧ (s.jrn.stopped = true → s.leaveFaulted.jrn.knownFree = 0 ∧
      s.leaveFaulted.jrn.queue = s.jrn.queue ∧
      s.leaveFaulted.jrn.phase = if s.jrn.queue = [] then .idle else .afresh) := by
  rw [s.leaveFaulted_left hd hf]
  split
  · obtain ⟨-, -, -, -, -, -, -, pending⟩ := s.emptyAfterFault_blocks h
    exact State.standsAs_reentered .bound (s.emptyAfterFault_standsAs h hl)
      (State.standsAs_of_writesTo (s.emptyAfterFault.returnTo_bound_writesTo pending))
  · exact State.standsAs_reentered _ (State.standsAs_of_alarm rfl rfl)
      (s.returnTo_standsAs h hl _ s.alarm.returnState_cases)

/-- Without a PLAN_FAULT the device goes back to the state remembered, the rails let on in ACTIVE. -/
theorem State.leaveFaulted_remembered (seen : s.alarm.planFaultSeen = false)
    (remembered : s.alarm.remembered = some .active ∨ s.alarm.remembered = some .bound) :
    some s.leaveFaulted.device = s.alarm.remembered ∧ (s.leaveFaulted.device = .active → ∀ r,
      (s.leaveFaulted.rail r).link.presence = true ∧ (s.leaveFaulted.rail r).seq.state =
        if (s.rail r).seq.lift then .lifted else if (s.rail r).link.state = .down then .linkDown else .waiting) := by
  rw [s.leaveFaulted_left hd hf, if_neg (by rw [seen]; nofun), AlarmUnit.returnState]
  rcases remembered with e | e
  · rw [e, if_pos rfl]
    have view : (s.returnTo .active).view = { s.view with device := .active }.railsOn := by
      rw [State.returnTo_active, State.announce_view, State.resumeSwitch_view, State.railsOn_view]
      refine congrArg View.railsOn ?_
      rw [State.reentered, State.resumeWriter_view, State.modAlarm_view, State.view_setDevice]
    refine ⟨congrArg (fun v : View => some v.device) view, fun _ r => ?_⟩
    have rail := congrArg (fun v : View => v.rails.get r) view
    simp only [State.view_rail] at rail
    cases r <;> exact ⟨congrArg RailView.presence rail, congrArg RailView.state rail⟩
  · rw [e, if_neg nofun]
    obtain ⟨device, -⟩ := State.writesTo_blocks (s.returnTo_bound_writesTo h)
    rw [device]
    exact ⟨rfl, nofun⟩

/-- Behind a PLAN_FAULT the device goes to BOUND with its bank emptied. -/
theorem State.leaveFaulted_emptied (seen : s.alarm.planFaultSeen = true) :
    s.leaveFaulted.device = .bound ∧ s.leaveFaulted.plans.active = .cleared ∧ s.leaveFaulted.plans.protocol = none ∧
    s.leaveFaulted.plans.stop = none ∧ ∀ r, s.leaveFaulted.rail r = (s.rail r).emptied := by
  rw [s.leaveFaulted_left hd hf, if_pos seen]
  obtain ⟨-, -, -, rails, active, protocol, stop, pending⟩ := s.emptyAfterFault_blocks h
  obtain ⟨device, -, plans, rails', -⟩ := State.writesTo_blocks (s.emptyAfterFault.returnTo_bound_writesTo pending)
  rw [device, plans]
  refine ⟨rfl, active, protocol, stop, fun r => ?_⟩
  rw [State.rail, rails']
  show s.emptyAfterFault.rails.get r = _
  rw [rails]
  cases r <;> rfl

/-- With no switch going on, the sources behind the return are those of the state before it, or those that the soft
levels set back leave. -/
theorem State.leaveFaulted_sources (hp : s.plans.protocol = none) (hl : s.alarm.sources.length = 15) :
    s.leaveFaulted.alarm.sources = if s.alarm.planFaultSeen then
      (s.setSoftLevels (List.replicate 12 Config.defaultSoftLevel)).alarm.sources else s.alarm.sources := by
  rw [s.leaveFaulted_left hd hf]
  split
  · obtain ⟨-, -, -, -, -, protocol, -, pending⟩ := s.emptyAfterFault_blocks h
    rw [(State.returnTo_kept _ pending protocol _ (.inr rfl)).1, s.emptyAfterFault_sources h hl]
  · exact (s.returnTo_kept h hp _ s.alarm.returnState_cases).1

theorem State.leaveFaulted_issued (hp : s.plans.protocol = none) (hs : s.plans.stop = none)
    (none : s.req.snapshot = ⟨none, none⟩) : s.leaveFaulted.req.issued = s.req.issued := by
  rw [s.leaveFaulted_left hd hf]
  split
  · obtain ⟨-, -, req, -, -, protocol, -, pending⟩ := s.emptyAfterFault_blocks h
    rw [s.emptying_req h hp hs] at req
    rw [(State.returnTo_kept _ pending protocol _ (.inr rfl)).2 (by rw [req, none]), req]
  · exact (s.returnTo_kept h hp _ s.alarm.returnState_cases).2 none

end

end Sys2Proof.Machine
end

section
/-! PROOFS. The row of an acknowledgement that takes the device out of FAULTED. -/

namespace Sys2Proof.Machine

theorem AlarmUnit.alarmLevel_congr {a b : AlarmUnit} (h : a.sources = b.sources) : a.alarmLevel = b.alarmLevel := by
  rw [AlarmUnit.alarmLevel, h, AlarmUnit.alarmLevel]

theorem AlarmUnit.not_pending_of_fault {a : AlarmUnit} (h : a.faultPending = false) (f : Source) (hf : f.isFault = true) :
    (a.source f).state ≠ .pending := by
  intro pending
  have some : a.faultPending = true := List.any_eq_true.mpr ⟨f, f.isFault_iff.mp hf, beq_iff_eq.mpr pending⟩
  rw [h] at some
  cases some

/-- The end of a scan changes neither a cause nor an entry. -/
theorem State.endScan_frame (s : State) : s.writesTo s.endScan ∧ s.endScan.bus.causes = s.bus.causes ∧
    s.endScan.req.issued = s.req.issued := ⟨rfl, rfl, rfl⟩

/-- What closes a scan behind an effect changes neither a cause nor an entry. -/
theorem State.takeRequest_frame (s : State) (q : Request) (rest : List Request) (kind : Request → Bool)
    (owner : State → Request → State) (h : s.req.scan = q :: rest) (hk : kind q = true) (v : State)
    (hv : owner { s with req := { s.req with scan := rest } } q = v) : v.writesTo (s.takeRequest kind owner) ∧
      (s.takeRequest kind owner).bus.causes = v.bus.causes ∧ (s.takeRequest kind owner).req.issued = v.req.issued := by
  have taken : (s.modReq fun h => { h with scan := rest }) = { s with req := { s.req with scan := rest } } := rfl
  rw [State.takeRequest, h]
  dsimp only
  rw [if_pos hk, taken, hv]
  split
  · exact v.endScan_frame
  · exact ⟨rfl, rfl, rfl⟩

section
variable (w : State) (hd : w.device = .faulted) (hf : w.alarm.faultPending = false)
  (h : w.plans.pendingActivation = none) (q : Request) (code : ResultCode) (words : List Byte)
include hd hf h

/-- The sources behind the return do not depend on what has been answered before it. -/
theorem State.leaveFaulted_answer_sources (hp : w.plans.protocol = none) (hl : w.alarm.sources.length = 15) :
    (w.answer q .done code words).leaveFaulted.alarm.sources = w.leaveFaulted.alarm.sources := by
  obtain ⟨device, -, plans, -, -, alarm⟩ := State.writesTo_blocks (w.answer_writesTo q .done code words)
  rw [w.leaveFaulted_sources hd hf h hp hl, State.leaveFaulted_sources _ (device.trans hd) (by rw [alarm, hf])
    (by rw [plans, h]) (by rw [plans, hp]) (by rw [alarm, hl]), alarm]
  exact if_congr .rfl (State.setSoftLevels_sources_congr _ hl (by rw [alarm]) device) rfl

/-- The return behind an answer, and what may close its scan. -/
theorem State.leaveFaulted_answer (hl : w.alarm.sources.length = 15) (b t : State) (hb : w.answer q .done code words = b)
    (frame : b.leaveFaulted.writesTo t) (causes : t.bus.causes = b.leaveFaulted.bus.causes)
    (issued : t.req.issued = b.leaveFaulted.req.issued) :
    (∀ f : Source, f.isFault = true → (t.alarm.source f).state ≠ .pending) ∧ t.alarm.remembered = none ∧
    t.alarm.planFaultSeen = false ∧ t.bus.causes.state = true ∧ t.pos = w.pos ∧ t.jrn.stopped = false ∧
    (w.jrn.stopped = true → t.jrn.knownFree = 0 ∧ t.jrn.queue = w.jrn.queue ∧
      t.jrn.phase = if w.jrn.queue = [] then .idle else .afresh) ∧
    (w.alarm.planFaultSeen = false → (w.alarm.remembered = some .active ∨ w.alarm.remembered = some .bound) →
      some t.device = w.alarm.remembered ∧ (t.device = .active → ∀ r, (t.rail r).link.presence = true ∧
        (t.rail r).seq.state = if (w.rail r).seq.lift then .lifted
          else if (w.rail r).link.state = .down then .linkDown else .waiting)) ∧
    (w.alarm.planFaultSeen = true → t.device = .bound ∧ t.plans.active = .cleared ∧ t.plans.protocol = none ∧
      t.plans.stop = none ∧ ∀ r, t.rail r = (w.rail r).emptied) ∧
    (w.plans.protocol = none → t.alarm.alarmLevel = w.leaveFaulted.alarm.alarmLevel) ∧
    (w.plans.protocol = none → w.plans.stop = none → w.req.snapshot = ⟨none, none⟩ → q.index < 8 →
      w.req.issued.length = 8 → ∃ x, t.req.issued.getD q.index none = some x ∧
        x.write = { state := .done, code := code, words := words, tag := q.tag }) := by
  have answered : w.writesTo b := hb ▸ w.answer_writesTo q .done code words
  obtain ⟨device, pos, plans, rails, -, alarm⟩ := State.writesTo_blocks answered
  have jrn := State.writesTo_jrn answered
  have rail (r : Rail) : b.rail r = w.rail r := congrArg (Both.get · r) rails
  have hd' := device.trans hd
  have hf' : b.alarm.faultPending = false := by rw [alarm, hf]
  have h' : b.plans.pendingActivation = none := by rw [plans, h]
  have hl' : b.alarm.sources.length = 15 := by rw [alarm, hl]
  obtain ⟨faults, unremembered, unseen, resumed, writer⟩ := b.leaveFaulted_writer hd' hf' h' hl'
  have back := b.leaveFaulted_remembered hd' hf' h'
  have emptied := b.leaveFaulted_emptied hd' hf' h'
  obtain ⟨deviceT, posT, plansT, railsT, -, alarmT⟩ := State.writesTo_blocks frame
  have railT (r : Rail) : t.rail r = b.leaveFaulted.rail r := congrArg (Both.get · r) railsT
  rw [← deviceT] at back emptied
  rw [← plansT] at emptied
  simp only [← railT, rail, alarm] at back emptied
  rw [jrn, ← State.writesTo_jrn frame] at writer
  refine ⟨fun f fault => ?_, by rw [alarmT, unremembered], by rw [alarmT, unseen],
    by rw [causes, b.leaveFaulted_state hd' hf' h'], by rw [posT, b.leaveFaulted_pos, pos],
    by rw [State.writesTo_jrn frame, resumed], writer, back, emptied, fun hp => ?_, fun hp hs none index length => ?_⟩
  · rw [alarmT, faults f fault, alarm]
    exact AlarmUnit.not_pending_of_fault hf f fault
  · rw [alarmT, ← hb]
    exact AlarmUnit.alarmLevel_congr (w.leaveFaulted_answer_sources hd hf h q code words hp hl)
  · obtain ⟨snapshot, x, write, entry⟩ := w.answer_req (by rw [hd]; nofun) q .done code words
    rw [hb] at snapshot entry
    refine ⟨x, ?_, write⟩
    rw [issued, b.leaveFaulted_issued hd' hf' h' (by rw [plans, hp]) (by rw [plans, hs]) (by rw [snapshot, none]), entry,
      List.getD_eq_getElem?_getD, List.getElem?_set_self (by rw [length]; exact index), Option.getD_some]

end

/-- An acknowledgement, up to the end of its scan. -/
theorem exec_ackAlarm_frame (s : State) (q : Request) (rest : List Request) (hs : s.req.scan = q :: rest) (hk : q.kind = 6)
    (h : s.alarm.sources.length = 15) (srcs : List Source) (known : ackSources (byteAt q.params 0) = some srcs)
    (hn : srcs.Nodup) (w : State)
    (hw : ({ s with req := { s.req with scan := rest } } : State).acted s.ackAction (s.ackChanges srcs) = w)
    (code : ResultCode) (hc : (if w.stillPresent srcs then ResultCode.stillPresent else .ok) = code) (v : State)
    (hv : (w.answer q .done code (le8 (s.ackChanges srcs).length ++ le8 w.leaveFaulted.alarm.alarmLevel)).leaveFaulted = v) :
    ∃ t, exec .ackAlarm s = .next t ∧ v.writesTo t ∧ t.bus.causes = v.bus.causes ∧ t.req.issued = v.req.issued := by
  have row := State.ackAlarm_eq { s with req := { s.req with scan := rest } } h q srcs known hn
  subst hc hw hv
  exact ⟨_, rfl, s.takeRequest_frame q rest _ State.ackAlarm hs (by simp [hk]) _ row⟩

end Sys2Proof.Machine
end

section
/-! PROOFS. Acknowledgements, SUPPRESS and suppression running out (O57). -/

namespace Sys2Proof.Machine

/-- Settles O57: an acknowledgement acts on the sources it changes one after another, and the return from FAULTED is followed
block by block; suppression's end raises the conditions that have waited for it. -/
theorem acknowledgementsAndSuppressionRunTheirCourse : Obligations.AcknowledgementsAndSuppressionRunTheirCourse := by
  refine ⟨fun q rest s hs hd => ?_, fun before rest x s h hb => exec_alarmProgressEvent_eq s x before rest h hb, fun s =>
    ⟨fun due => congrArg Host.Outcome.next (s.dueExpiry_none due), fun due hz hd h => ?_⟩⟩
  · intro u id
    refine ⟨fun hk above other => ?_, fun hk hid h => ?_, fun hk => suppressRequests s q rest hs hd hk⟩
    · have refused : u.ackAlarm q = u.refuse q .badParameter := by
        rw [State.ackAlarm, ackSources_unknown _ above other]
      exact exec_ackAlarm_eq s q rest hs hk _ refused (State.answer_scan ..)
        ((congrArg OpState.scans (State.answer_device ..)).trans hd)
    · intro named pending gone changes outcome code written
      obtain ⟨srcs, known, names, ascending⟩ := ackSources_known id hid
      have distinct : srcs.Nodup := ascending.imp fun k e => Nat.ne_of_lt k (congrArg Source.id e)
      have mem (src : Source) : src ∈ s.ackChanges srcs ↔ changes src :=
        (s.mem_ackChanges srcs src).trans (and_congr_left' (names src))
      have ends (src : Source) : outcome src (if src ∈ s.ackChanges srcs then (s.ackAction src).record.state
          else (s.alarm.source src).state) := by
        refine ⟨fun c g => ?_, fun c g => ?_, fun c => if_neg fun k => c ((mem src).mp k)⟩
        · rw [if_pos ((mem src).mpr c), s.ackAction_state srcs ((mem src).mpr c)]
          exact if_pos g
        · rw [if_pos ((mem src).mpr c), s.ackAction_state srcs ((mem src).mpr c)]
          exact if_neg g
      have codes : (if (u.acted s.ackAction (s.ackChanges srcs)).stillPresent srcs then ResultCode.stillPresent else .ok) =
          code :=
        if_congr ((u.stillPresent_acted srcs).trans (and_congr_left' ((names .tachFault).trans
          (or_congr_right eq_comm)))) rfl rfl
      refine ⟨fun stays => ?_, fun faulted clear unplanned => ?_⟩
      · have remains : (u.acted s.ackAction (s.ackChanges srcs)).device ≠ .faulted ∨
            (u.acted s.ackAction (s.ackChanges srcs)).alarm.faultPending = true := by
          refine stays.imp_right fun ⟨f, fault, active, kept⟩ => ?_
          exact (s.faultPending_acted srcs).mpr ⟨f, fault, active, fun k => kept ((mem f).mp k)⟩
        refine ⟨(s.alarm.after s.ackAction (s.ackChanges srcs)).sources, u.actionRecords s.ackAction (s.ackChanges srcs),
          s.ackChanges srcs, fun src => ⟨_, ends src, ?_⟩, rfl, mem, s.ackChanges_pairwise srcs ascending, ?_, ?_, ?_, ?_⟩
        · rw [AlarmUnit.after_getElem?, ← State.acted_ack_source, State.acted_source]
        · exact State.actionRecords_map _ _ _ _ _ fun k => rfl
        · intro x hx
          obtain ⟨k, hk, rfl⟩ := List.mem_map.mp hx
          have acted : k.2 ∈ s.ackChanges srcs := (List.of_mem_zip hk).2
          have outcomes := ends k.2
          rw [if_pos acted] at outcomes
          exact ⟨outcomes, rfl, rfl, rfl, rfl, rfl⟩
        · intro k x hx ids part soFar
          rw [State.actionRecords_getElem?] at hx
          obtain ⟨src, -, rfl⟩ := Option.map_eq_some_iff.mp hx
          have sources : part = (s.alarm.after s.ackAction ((s.ackChanges srcs).take (k + 1))).sources :=
            AlarmUnit.after_part _ _ s.alarm h _ (List.take_subset _ _)
          have unit : soFar = s.alarm.after s.ackAction ((s.ackChanges srcs).take (k + 1)) :=
            congrArg (fun xs => { s.alarm with sources := xs }) sources
          rw [State.actionRecord_alarmLevel, State.actionRecord_topSource, unit]
          exact ⟨rfl, rfl⟩
        · intro w
          refine (exec_ackAlarm_stays s q rest hs hd hk h srcs known distinct _ rfl remains).trans ?_
          rw [codes]
          rfl
      · generalize hw : u.acted s.ackAction (s.ackChanges srcs) = w at codes
        have left : w.alarm.faultPending = false := by
          rw [← hw, Bool.eq_false_iff]
          intro k
          obtain ⟨f, fault, active, kept⟩ := (u.faultPending_acted srcs).mp k
          exact kept ((mem f).mpr (clear f fault active))
        obtain ⟨device, pos, plans, rails, jrn, remembered, seen, length⟩ :
            w.device = .faulted ∧ w.pos = s.pos ∧ w.plans = s.plans ∧ w.rails = s.rails ∧
              (w.jrn.stopped = s.jrn.stopped ∧ w.jrn.queue = s.jrn.queue) ∧ w.alarm.remembered = s.alarm.remembered ∧
              w.alarm.planFaultSeen = s.alarm.planFaultSeen ∧ w.alarm.sources.length = 15 := by
          subst hw
          exact ⟨faulted, rfl, rfl, rfl, ⟨rfl, rfl⟩, rfl, rfl, rfl⟩
        have req : w.req.snapshot = s.req.snapshot ∧ w.req.issued = s.req.issued := by
          subst hw
          exact ⟨rfl, rfl⟩
        have rail (r : Rail) : w.rail r = s.rail r := congrArg (Both.get · r) rails
        obtain ⟨t, row, frame, causes, issued⟩ :=
          exec_ackAlarm_frame s q rest hs hk h srcs known distinct w hw code codes _ rfl
        obtain ⟨faults, unremembered, unseen, announced, posT, resumed, writer, back, emptied, level, entry⟩ :=
          w.leaveFaulted_answer device left (by rw [plans, unplanned]) q code _ length _ t rfl frame causes issued
        simp only [remembered, seen, rail, jrn, plans, req] at writer back emptied level entry
        refine ⟨t, row, faults, unremembered, unseen, announced, posT.trans pos, resumed, writer, back, fun k => ?_,
          fun hp hst hsn index size => ?_⟩
        · obtain ⟨bound, active, protocol, stop, rails⟩ := emptied k
          refine ⟨bound, active, protocol, stop, fun r => ?_⟩
          rw [rails r]
          exact ⟨rfl, rfl, ⟨_, rfl⟩, ⟨_, rfl⟩, ⟨_, rfl⟩⟩
        · obtain ⟨x, got, write⟩ := entry hp hst hsn index size
          refine ⟨s.ackChanges srcs, mem, (s.ackChanges_pairwise srcs ascending).imp fun k e =>
            Nat.ne_of_lt k (congrArg Source.id e), x, got, ?_⟩
          rw [write, level hp]
  · obtain ⟨t, row, due', device, pos, rails, plans, source⟩ := State.suppressionExpires s h due hz hd
    refine ⟨t, row, due', device, pos, rails, plans, fun src => (source src).trans (if_congr (s.waits_iff src) rfl rfl)⟩

end Sys2Proof.Machine
end
